-- ==== Sys2Proof/Word.lean ====
section
/-! DEFINITION. The words of the part: the bytes of its lines, the numbers its ports, stations, circuits, incidents
and operations carry, and the keyed table in which the large banks of records are held as plain data. -/

namespace Sys2Proof

/-- One byte of a desk line, or the payload of one data symbol of a trunk. -/
abbrev Byte := BitVec 8

/-- A two-byte number, high byte first on both kinds of line (R188). -/
abbrev Half := BitVec 16

/-- A desk, 0 to 5 (00_scope, Conventions). -/
abbrev DeskId := Fin 6

/-- A trunk, 0 to 15 (00_scope, Conventions). -/
abbrev TrunkId := Fin 16

/-- A place on a chain. The spec numbers positions 1 to 24; the value here is that number less 1
(`Position.number` gives the spec's number back). -/
abbrev Position := Fin 24

/-- A station: trunk and position as one number in trunk-then-position order, the order of R18. -/
abbrev StationId := Fin 384

/-- A circuit. The spec numbers circuits 1 to 128; the value here is that number less 1. -/
abbrev CircuitId := Fin 128

/-- An incident index, 0 to 639 (R43). -/
abbrev IncidentId := Fin 640

/-- An operation index, 0 to 31 (R157). -/
abbrev OpId := Fin 32

/-- A set of desks, desk d at bit d, as R189 encodes decline sets and group members. -/
abbrev DeskSet := BitVec 6

/-- A keyed table: the entries that differ from what an unlisted key holds, keys rising.  The banks of 128, 384 and
640 records are held so, as plain data that can be written out. -/
structure Table (n : Nat) (α : Type) where
  entries : List (Fin n × α) := []
deriving DecidableEq, Repr

end Sys2Proof
end

