-- ==== Sys2Proof/Syntax.lean ====
section
/-! DEFINITION. The part's steps: one constructor for every row of spec/opcode_table.json.

The operand of a row is the port, record or timer the event reaches.  What the event carries beyond that stands in
the machine's state, where the spec puts it: the arguments of a desk command are those of the desk's WAITING command
(R179), and the contents of a trunk frame are those of the oldest frame of the trunk's upstream buffer (R132). -/

namespace Sys2Proof

/-- One step of the part (95_what_each_step_holds: each whole and indivisible). -/
inductive Instr where
  -- power and desk lines
  /-- POWER_ON (R1): power is applied while the lines of the desks in `lines` are present (R187). -/
  | powerOn (lines : DeskSet)
  /-- LINK_DOWN (R174). -/
  | linkDown (d : DeskId)
  /-- LINK_UP (R175). -/
  | linkUp (d : DeskId)
  /-- COMMAND_FRAME (R179): a complete frame that passed the checks of R177; `body` is the code and the arguments. -/
  | commandFrame (d : DeskId) (body : List Byte)
  /-- BAD_CRC (R177). -/
  | badCrc (d : DeskId)
  /-- BAD_KIND (R177). -/
  | badKind (d : DeskId)
  /-- BAD_FRAME (R177): a length byte of 0. -/
  | badFrame (d : DeskId)
  /-- BYTE_TIMEOUT (R177): 50 ms without the next byte of a frame in reception. -/
  | byteTimeout (d : DeskId)
  /-- RESULT_SENT (R178). -/
  | resultSent (d : DeskId)
  /-- NOTICE_SENT (R178). -/
  | noticeSent (d : DeskId)
  -- desk commands, each taken by its owner from the WAITING command of desk d
  /-- IDENTIFY (R184). -/
  | identify (d : DeskId)
  /-- SENSE (R183). -/
  | sense (d : DeskId)
  /-- SIGN_ON (R97). -/
  | signOn (d : DeskId)
  /-- SIGN_OFF (R98). -/
  | signOff (d : DeskId)
  /-- ABORT (R180): the frame is taken and carried out by the link at once. -/
  | abort (d : DeskId)
  /-- RESET_LEVEL_1 (R185): the frame is taken and carried out by the link at once. -/
  | resetLevel1 (d : DeskId)
  /-- RESET_LEVEL_2 (R186). -/
  | resetLevel2 (d : DeskId)
  /-- RESET_LEVEL_3 (R186). -/
  | resetLevel3 (d : DeskId)
  /-- LIST_PENDING (R102). -/
  | listPending (d : DeskId)
  /-- READ_INCIDENT (R66). -/
  | readIncident (d : DeskId)
  /-- READ_FAULT (R41). -/
  | readFault (d : DeskId)
  /-- READ_STATION (R123). -/
  | readStation (d : DeskId)
  /-- READ_TRUNK (R141). -/
  | readTrunk (d : DeskId)
  /-- READ_ERROR (R141). -/
  | readError (d : DeskId)
  /-- ACCEPT (R87). -/
  | accept (d : DeskId)
  /-- DECLINE (R88). -/
  | decline (d : DeskId)
  /-- RELEASE (R95). -/
  | release (d : DeskId)
  /-- HANDOVER (R96). -/
  | handover (d : DeskId)
  /-- CLOSE (R62). -/
  | close (d : DeskId)
  /-- TAG (R64). -/
  | tag (d : DeskId)
  /-- HOLD (R115). -/
  | hold (d : DeskId)
  /-- UNHOLD (R116). -/
  | unhold (d : DeskId)
  /-- PROBE (R159). -/
  | probe (d : DeskId)
  /-- CYCLE (R159). -/
  | cycle (d : DeskId)
  /-- SWEEP (R159). -/
  | sweep (d : DeskId)
  /-- ABORT_OP (R170). -/
  | abortOp (d : DeskId)
  /-- TRUNK_START (R127). -/
  | trunkStart (d : DeskId)
  /-- TRUNK_STOP (R130). -/
  | trunkStop (d : DeskId)
  /-- CENSUS (R153). -/
  | census (d : DeskId)
  /-- LABEL_CHAIN (R150). -/
  | labelChain (d : DeskId)
  /-- SET_PERIOD (R76). -/
  | setPeriod (d : DeskId)
  /-- EDIT_BEGIN (R7). -/
  | editBegin (d : DeskId)
  /-- WRITE_CIRCUIT (R9). -/
  | writeCircuit (d : DeskId)
  /-- WRITE_STATION (R10). -/
  | writeStation (d : DeskId)
  /-- WRITE_DESK (R11). -/
  | writeDesk (d : DeskId)
  /-- WRITE_PARAM (R12). -/
  | writeParam (d : DeskId)
  /-- WRITE_SCALE (R11). -/
  | writeScale (d : DeskId)
  /-- READ_SHADOW (R13). -/
  | readShadow (d : DeskId)
  /-- ADOPT (R15). -/
  | adopt (d : DeskId)
  /-- DISCARD (R14). -/
  | discard (d : DeskId)
  -- timers of the fault picture and of the desks
  /-- CONFIRM_WINDOW_EXPIRY (R25) of the record of an asset. -/
  | confirmWindowExpiry (asset : Nat)
  /-- RESTORE_HOLD_EXPIRY (R28) of the record of an asset. -/
  | restoreHoldExpiry (asset : Nat)
  /-- CLOSE_DELAY_EXPIRY (R55). -/
  | closeDelayExpiry (i : IncidentId)
  /-- AGING_BOUNDARY (R75). -/
  | agingBoundary (i : IncidentId)
  /-- OFFER_EXPIRY (R89). -/
  | offerExpiry (d : DeskId)
  /-- ABSENCE_EXPIRY (R100). -/
  | absenceExpiry (d : DeskId)
  /-- INTERVAL_EXPIRY (R110, R113). -/
  | intervalExpiry (n : StationId)
  -- frames taken from the oldest place of a trunk's upstream buffer
  /-- CHECK_IN (R109). -/
  | checkIn (t : TrunkId)
  /-- SLEEP (R112). -/
  | sleep (t : TrunkId)
  /-- BYPASS_ON (R117). -/
  | bypassOn (t : TrunkId)
  /-- BYPASS_OFF (R117). -/
  | bypassOff (t : TrunkId)
  /-- ASSET_STATE (R4). -/
  | assetState (t : TrunkId)
  -- symbols and timers of a trunk
  /-- CHAIN_VALID_FILL (R128). -/
  | chainValidFill (t : TrunkId)
  /-- FRAME_END (R131). -/
  | frameEnd (t : TrunkId)
  /-- ABORT_SYMBOL (R125). -/
  | abortSymbol (t : TrunkId)
  /-- GRANT (R133): an upstream GRANT. -/
  | grant (t : TrunkId)
  /-- PARITY (R134): an upstream symbol with a bad check bit. -/
  | parity (t : TrunkId)
  /-- DISCONNECT (R134): 2 ms without an upstream symbol. -/
  | disconnect (t : TrunkId)
  /-- DOWNSTREAM_FRAME_SENT (R133). -/
  | downstreamFrameSent (t : TrunkId)
  /-- START_DEADLINE (R129). -/
  | startDeadline (t : TrunkId)
  /-- RETRY_DEADLINE (R129). -/
  | retryDeadline (t : TrunkId)
  /-- GRACE_DEADLINE (R138). -/
  | graceDeadline (t : TrunkId)
  /-- LABEL_ACK (R148). -/
  | labelAck (t : TrunkId)
  /-- LABEL_DEADLINE (R149). -/
  | labelDeadline (t : TrunkId)
  /-- CENSUS_RETURN (R154). -/
  | censusReturn (t : TrunkId)
  /-- CENSUS_DEADLINE (R155). -/
  | censusDeadline (t : TrunkId)
  /-- NO_TAKER (R146). -/
  | noTaker (t : TrunkId)
  /-- OP_REPLY (R166). -/
  | opReply (t : TrunkId)
  -- timers of the operations
  /-- PROBE_DEADLINE (R160). -/
  | probeDeadline (o : OpId)
  /-- CYCLE_DEADLINE (R161). -/
  | cycleDeadline (o : OpId)
  /-- STEP_DEADLINE (R164, R165). -/
  | stepDeadline (o : OpId)
  -- symbols and bytes below the frame
  /-- DATA_SYMBOL (R125). -/
  | dataSymbol (t : TrunkId) (b : Byte)
  /-- FILL (R125, R134). -/
  | fill (t : TrunkId)
  /-- DESK_BYTE (R177). -/
  | deskByte (d : DeskId) (b : Byte)
deriving DecidableEq, Repr

end Sys2Proof
end

