-- ==== Sys2Proof/Decode.lean ====
section
/-! DEFINITION. The rows that a word of the table's bits spells.  No row of spec/opcode_table.json gives bits: the rows are
the part's events, not encoded words, so that no word spells one.  How the bytes of a desk line and the symbols of a trunk
become rows stands in Sys2Proof/Machine/DeskLink.lean (`State.receive`) and Sys2Proof/Machine/Layout.lean (`symbolRow`,
`takeRow`). -/

namespace Sys2Proof

/-- The row that a word of `nbits` bits spells by the table's bits: none. -/
def decodeTableWord (_nbits _w : Nat) : Option Instr := none

end Sys2Proof
end

