-- ==== Sys2Proof/Config.lean ====
section
/-! DEFINITION. What the spec leaves open: each is a constant without a body, so that nothing can be proved of the
value it takes.  Every one of them is named in the assumption log. -/

namespace Sys2Proof

/-- UNSTATED VALUE, safe (log entry 4).  Part time is held in 32 bits and "does not wrap in service" (00_scope,
Conventions); what the clock shows after second 4294967295 is not stated.  The argument is the model's own draw
counter, so that every draw is fresh. -/
opaque Config.clockPastTop : Nat → BitVec 32

/-- UNSTATED ORDER, safe (log entry 32).  Where several timers run out in one second, the spec leaves open which is taken
first; each draw places one of their rows among the others.  The argument is the model's own draw counter. -/
opaque Config.sameSecond : Nat → Nat

/-- UNSTATED VALUE, safe (log entry 5).  The command code of the result to a COMMAND frame whose body is empty and
so holds no code (R179, R181). -/
opaque Config.noCommandCode : Byte

/-- UNSTATED ENCODING, safe (log entry 6): worst condition none (R66, R189 lists no such code). -/
opaque Config.noConditionCode : Byte

/-- UNSTATED ENCODING, safe (log entry 6): expected kind none, and the kind of a reported identity of none. -/
opaque Config.noKindCode : Byte

/-- UNSTATED ENCODING, safe (log entry 6): granted span none. -/
opaque Config.noSpanCode : Byte

/-- UNSTATED ENCODING, safe (log entry 6): the first asset and the asset count of a reported identity of none. -/
opaque Config.noIdentityRange : Half

/-- UNSTATED ENCODING, safe (log entry 6): the subject and class of a FREE incident record, which R66 calls empty. -/
opaque Config.emptySubjectByte : Nat → Byte

/-- UNSTATED ENCODING, safe (log entry 6): the class of a FREE incident record. -/
opaque Config.emptyClassCode : Byte

/-- UNSTATED ENCODING, safe (log entry 6): the one byte of a balance below 0 (R123; R188 and R189 encode no negative
number). -/
opaque Config.negativeBalanceCode : Int → Byte

/-- UNSTATED ENCODING, safe (log entry 6): the data of an ABORT that aborted nothing (R180). -/
opaque Config.nothingAbortedCode : Byte

/-- UNSTATED ENCODING, safe (log entry 6): the data of CENSUS, started or queued (R153). -/
opaque Config.censusAnswerCode : Bool → Byte

/-- UNSTATED ENCODING (log entry 6): the outcome of the OP-DONE notice of a PROBE or CYCLE that has none (R168).  A SWEEP's is
two absent levels (R189). -/
opaque Config.noOutcomeData : List Byte

/-- UNSTATED ENCODING, safe (log entry 6): the reason byte of an OP-DONE notice that has no reason, its operation having
ended DONE (R190 gives 0 for none to the body of a RESULT only, and numbers the reasons of OP-DONE from 1). -/
opaque Config.noEndReason : Byte

/-- UNSTATED ENCODING, safe (log entry 6): the bytes that pad a crew tag to 16 (R192). -/
opaque Config.tagPadding : Byte

end Sys2Proof
end

