-- ==== Sys2Proof/Machine/State.lean ====
section
/-! DEFINITION. The state of the part, block by block as 00_scope lists the blocks, as plain data; the reasons a step
can stop; and the state right after power-on.  Every type cites the rule that gives it. -/

namespace Sys2Proof.Machine

/-! ## Names the rules use -/

/-- The kinds of asset and of station, which go together (R4): LAMP(-CABINET), LOOP(-RACK), SIGN(-CONTROLLER). -/
inductive Kind where
  | lamp | loop | sign
deriving DecidableEq, Repr

/-- The classes that select an urgency scale (R68). -/
inductive Cls where
  | lamp | loop | sign | infra
deriving DecidableEq, Repr

/-- The conditions, in the order of their codes (R189).  `loopOpen` and `loopShort` are OPEN and SHORT. -/
inductive Condition where
  | ok | out | degraded | cycling | loopOpen | loopShort | drift | stuckOn | dark | pixel | comms | silent | trunkDown
deriving DecidableEq, Repr

/-- The periods (R68). -/
inductive Period where
  | day | night | peak | storm
deriving DecidableEq, Repr

/-! ## Settings: the circuit table, roster, desk settings, part parameters and scales (R2, R7, R10 to R12, R68) -/

/-- An entry of the circuit table (R2).  The numbers are held as written; ADOPT brings them into range (R16). -/
structure Circuit where
  bound     : Nat := 65535
  invalid   : Bool := true
  fold      : Bool := false
  group     : Nat := 0
  alternate : Option Nat := none
  weight    : Nat := 0
  trip      : Nat := 0
  tau       : Nat := 0
deriving DecidableEq, Repr

/-- The roster parameters of one station (R7, R10).  An asset count of 0 makes the entry VACANT. -/
structure Roster where
  kind       : Option Kind := none
  first      : Nat := 0
  count      : Nat := 0
  interval   : Nat := 60
  allowance  : Nat := 2
  sleepLimit : Nat := 9
  weight     : Nat := 64
deriving DecidableEq, Repr

/-- One desk's settings (R7, R11). -/
structure DeskSettings where
  continues   : Bool := false
  maintenance : Bool := false
  limit       : Nat := 8
  timeout     : Nat := 45
deriving DecidableEq, Repr

/-- The part parameters, in the order of their numbers (R191), with their defaults (R7). -/
structure Params where
  lampThreshold : Nat := 2
  loopThreshold : Nat := 3
  signThreshold : Nat := 1
  confirmWindow : Nat := 120
  restoreHold   : Nat := 300
  closeDelay    : Nat := 600
  trunkGrace    : Nat := 15
  trunkRetry    : Nat := 10
  trunkWeight   : Nat := 200
  absenceGrace  : Nat := 120
  sweepStart    : Nat := 8
  sweepMargin   : Nat := 2
  cycleOffTime  : Nat := 5
deriving DecidableEq, Repr

/-- The four scales of one period, by class (R68). -/
structure Scales where
  lamp  : Nat := 16
  loop  : Nat := 16
  sign  : Nat := 16
  infra : Nat := 16
deriving DecidableEq, Repr

/-- The period table (R68). -/
structure PeriodTable where
  day   : Scales := {}
  night : Scales := {}
  peak  : Scales := {}
  storm : Scales := {}
deriving DecidableEq, Repr

/-- One copy of everything a desk can stage (01_circuits_and_classification, Staging settings; R7).  A circuit or roster
entry that the tables do not list holds its power-on values. -/
structure Settings where
  circuits : Table 128 Circuit := {}
  roster   : Table 384 Roster := {}
  desks    : Vector DeskSettings 6 := Vector.replicate 6 {}
  params   : Params := {}
  scales   : PeriodTable := {}
deriving DecidableEq, Repr

/-- The clock, the two copies of the settings, the edit claim and the active period (R1, R2, R7, R68). -/
structure Setup where
  time   : Nat := 0
  active : Settings := {}
  shadow : Settings := {}
  claim  : Option DeskId := none
  period : Period := .day
deriving DecidableEq, Repr

/-! ## The fault table (R21, R35) -/

/-- The life cycle of a fault record (R21). -/
inductive FaultState where
  | suspect | confirmed | restoring
deriving DecidableEq, Repr

/-- Which timer a record's state timer is (R21, R189). -/
inductive TimerKind where
  | confirmWindow | restoreHold
deriving DecidableEq, Repr

/-- A record's state timer: none, running to a deadline, or suspended with its remaining time (R21, R37). -/
inductive StateTimer where
  | none
  | running (kind : TimerKind) (deadline : Nat)
  | suspended (kind : TimerKind) (remaining : Nat)
deriving DecidableEq, Repr

/-- One fault record (R21). -/
structure FaultRecord where
  asset       : Nat
  station     : StationId
  circuit     : CircuitId
  kind        : Kind
  condition   : Condition
  state       : FaultState
  confirms    : Nat
  flips       : Nat
  firstSeen   : Nat
  confirmedAt : Option Nat
  lastReport  : Nat
  reports     : Nat
  timer       : StateTimer
  stale       : Bool
  underOp     : Bool
  incident    : Option IncidentId
deriving DecidableEq, Repr

/-- The fault table, its mark set and its dropped-under-operation counter (R21, R35).  Records and marks are held with
their asset numbers rising, so that equal tables are equal data. -/
structure Faults where
  records : List FaultRecord := []
  marks   : List Nat := []
  dropped : Nat := 0
deriving DecidableEq, Repr

/-! ## The incident table (R43) -/

/-- What an incident is about (R43, R44). -/
inductive Subject where
  | circuit (c : CircuitId)
  | station (n : StationId)
  | trunk (t : TrunkId)
deriving DecidableEq, Repr

/-- Where an incident stands (R43); `opened` is OPEN.  A FREE record holds no incident. -/
inductive IncidentState where
  | opened | offered | assigned | restored | closed
deriving DecidableEq, Repr

/-- A member of a circuit incident (R43). -/
structure Member where
  asset       : Nat
  kind        : Kind
  condition   : Condition
  confirmedAt : Nat
  stale       : Bool
  underOp     : Bool
deriving DecidableEq, Repr

/-- The fields of an incident, less the change number, which outlives it (R43). -/
structure Incident where
  subject    : Subject
  state      : IncidentState
  cls        : Cls
  group      : DeskId
  assigned   : Option DeskId
  members    : List Member
  unrecorded : Nat
  worst      : Option Condition
  tripped    : Bool
  rounds     : Nat
  declined   : DeskSet
  urgency    : Nat
  openedAt   : Nat
  restoredAt : Option Nat
  closeDelay : Option Nat
  closedAt   : Option Nat
  tag        : Option (List Byte)
deriving DecidableEq, Repr

/-- One place of the incident table: its change number, and the incident it holds; FREE when it holds none (R43). -/
structure IncidentRecord where
  change : Nat := 0
  body   : Option Incident := none
deriving DecidableEq, Repr

/-- The incident's next aging boundary and its ordinal k (R68, R75). -/
structure Boundary where
  due : Nat
  k   : Nat
deriving DecidableEq, Repr

/-! ## The offer arbiter and the desk links (R80, R81, R173) -/

/-- A filled offer slot (R81). -/
structure Offer where
  incident : IncidentId
  deadline : Nat
deriving DecidableEq, Repr

/-- The arbiter's fields of one desk (R81). -/
structure Desk where
  onDuty        : Bool := false
  slot          : Option Offer := none
  lastWithdrawn : Option IncidentId := none
  unresponsive  : Bool := false
  assigned      : Nat := 0
  absence       : Option Nat := none
deriving DecidableEq, Repr

/-- The termination codes of results (R181). -/
inductive Termination where
  | done | refused | invalid | aborted | tooLate
deriving DecidableEq, Repr

/-- The reason codes, in the order of R181's table, which numbers them from 1 (R190). -/
inductive Reason where
  | sequence
  | unknownCommand | badLength
  | badArgument
  | abort | reset
  | claimed | noClaim
  | offDuty
  | notOffered
  | notHolder | notAssigned | closed | restored | membersPresent
  | holdsIncidents
  | vacant | heldAtCabinet
  | noStation | notActive | held | busy | full | notInFlight
  | running | notRunning
deriving DecidableEq, Repr

/-- The causes of a WITHDRAWN notice (R92, R190). -/
inductive WithdrawCause where
  | expired | restored | rerouted | closed | signedOff
deriving DecidableEq, Repr

/-- The kinds of operation (R157). -/
inductive OpKind where
  | probe | cycle | sweep
deriving DecidableEq, Repr

/-- The states of an operation (R157). -/
inductive OpState where
  | sent | stepping | settling | ending
deriving DecidableEq, Repr

/-- The direction of a sweep (R157). -/
inductive Direction where
  | up | down
deriving DecidableEq, Repr

/-- How an operation ended, with its reason (R168). -/
inductive OpEnd where
  | done
  | timeout | noAnswer | equipmentCheck | noTaker | full | badReply
  | rejected
  | lostStation | lostTrunk | lostHold | lostReconfigured | lostReset | lostAborted
deriving DecidableEq, Repr

/-- The outcome an OP-DONE notice carries (R168): a condition for PROBE, CYCLE and an equipment check, the levels for a SWEEP
that ended DONE.  DESIGN CHOICE (log entry 40): absent at every other end. -/
inductive OpOutcome where
  | none
  | condition (c : Condition)
  | levels (noise operating : Nat)
deriving DecidableEq, Repr

/-- The error and fault kinds a trunk counts (R137), in the order of the codes 1 to 22 of R195.  That READ-TRUNK sends its
counters in this order is a DESIGN CHOICE (log entry 39). -/
inductive TrunkError where
  | parity | disconnect | creditOverrun | creditExcess | startTimeout
  | nullFrame | longFrame | unknownType | shortFrame
  | unknownLabel | notOwned | kindMismatch | badCondition | invalidCircuit | noTaker
  | identityMismatch | strayReply | labelFailed | censusFailed | chainTooLong | unexpectedStation | labelMismatch
deriving DecidableEq, Repr

/-- What the most-recent-error record can name (R140, R195). -/
inductive ErrorCode where
  | none
  | trunk (e : TrunkError)
  | badCrc | badFrame | badKind
deriving DecidableEq, Repr

/-- Where an error happened (R140, R195).  A label or position is the number received or named. -/
inductive Place where
  | none
  | trunk (t : TrunkId)
  | label (t : TrunkId) (label : Nat)
  | position (t : TrunkId) (number : Nat)
  | desk (d : DeskId)
deriving DecidableEq, Repr

/-- The most-recent-error record (R140). -/
structure ErrorRecord where
  code   : ErrorCode := .none
  place  : Place := .none
  time   : Option Nat := none
  writes : Nat := 0
deriving DecidableEq, Repr

/-- The station modes (R105). -/
inductive Mode where
  | vacant | pending | active | asleep | silent | unreached
deriving DecidableEq, Repr

/-- A station's hold set, a subset of DESK and CABINET (R105). -/
structure HoldSet where
  desk    : Bool := false
  cabinet : Bool := false
deriving DecidableEq, Repr

/-- What a station said it was in its last LABEL-ACK; the kind is the code received (R105, R148). -/
structure Identity where
  kind  : Byte
  first : Nat
  count : Nat
deriving DecidableEq, Repr

/-- The live fields of one station record (R105). -/
structure Station where
  mode        : Mode := .vacant
  hold        : HoldSet := {}
  balance     : Int := 0
  nextExpiry  : Option Nat := none
  wakeExtra   : Bool := false
  sleepCount  : Nat := 0
  span        : Option Nat := none
  identity    : Option Identity := none
  lastHeard   : Option Nat := none
  applied     : Nat := 0
  droppedHeld : Nat := 0
  transients  : Nat := 0
  op          : Option OpId := none
deriving DecidableEq, Repr

/-- The states of a trunk (R124). -/
inductive TrunkState where
  | off | starting | running | faulted
deriving DecidableEq, Repr

/-- What a notice carries to its desk (R182; the fields are those of the rule that makes it). -/
inductive Notice where
  /-- R86. -/
  | offer (i : IncidentId) (change urgency deadline : Nat)
  /-- R89, R92. -/
  | withdrawn (i : IncidentId) (change : Nat) (cause : WithdrawCause)
  /-- R61. -/
  | changed (i : IncidentId) (change : Nat)
  /-- R61. -/
  | restored (i : IncidentId) (change : Nat)
  /-- R61. -/
  | closed (i : IncidentId) (change : Nat)
  /-- R100. -/
  | released (i : IncidentId) (change : Nat)
  /-- R168 step 5. -/
  | opDone (o : OpId) (kind : OpKind) (asset : Nat) (station : StationId) (desk : DeskId) (how : OpEnd)
      (state : OpState) (steps : Nat) (outcome : OpOutcome)
  /-- R139. -/
  | trunkError (t : TrunkId) (cause : TrunkError) (time : Nat)
  /-- R186. -/
  | reset (level : Nat)
deriving DecidableEq, Repr

/-! ### The data of results, as the owning rules list it -/

/-- SENSE (R183). -/
structure SenseData where
  onDuty        : Bool
  slot          : Option Offer
  assigned      : Nat
  lastWithdrawn : Option IncidentId
  overflow      : Nat
  unresponsive  : Bool
  holdsClaim    : Bool
  notices       : Nat
  badCrc        : Nat
  badFrame      : Nat
  badKind       : Nat
  time          : Nat
  period        : Period
deriving DecidableEq, Repr

/-- One entry of a LIST-PENDING page (R102). -/
structure PendingEntry where
  index    : IncidentId
  subject  : Subject
  cls      : Cls
  urgency  : Nat
  openedAt : Nat
  rounds   : Nat
  declined : DeskSet
  change   : Nat
deriving DecidableEq, Repr

/-- LIST-PENDING (R102). -/
structure PendingPage where
  group   : DeskId
  desks   : DeskSet
  timeout : Nat
  pointer : DeskId
  total   : Nat
  offset  : Nat
  entries : List PendingEntry
deriving DecidableEq, Repr

/-- READ-INCIDENT (R66): the record without its member list, the number of members, and one page of them. -/
structure IncidentPage where
  index   : IncidentId
  change  : Nat
  body    : Option Incident
  total   : Nat
  members : List Member
deriving DecidableEq, Repr

/-- READ-FAULT (R41). -/
structure FaultView where
  record  : Option FaultRecord
  marked  : Bool
  records : Nat
  dropped : Nat
deriving DecidableEq, Repr

/-- READ-STATION (R123). -/
structure StationView where
  roster : Roster
  live   : Station
  trunk  : TrunkState
  agrees : Bool
deriving DecidableEq, Repr

/-- READ-TRUNK (R141). -/
structure TrunkView where
  state         : TrunkState
  upCredit      : Nat
  downCredit    : Nat
  buffered      : Nat
  queued        : Nat
  transmitting  : Bool
  startDeadline : Option Nat
  retryDeadline : Option Nat
  graceDeadline : Option Nat
  faultTime     : Option Nat
  attempts      : Nat
  counters      : Vector Nat 22
  census        : Bool
  again         : Bool
  labelling     : Option Position
  occupied      : Nat
deriving DecidableEq, Repr

/-- One item of the shadow copy (R13). -/
inductive ShadowItem where
  | circuit (c : Circuit)
  | station (r : Roster)
  | desk (d : DeskSettings)
  | param (value : Nat)
  | scales (q : Scales)
deriving DecidableEq, Repr

/-- The data of a result.  A result other than DONE carries `none`. -/
inductive ResultData where
  | none
  /-- IDENTIFY (R184): the part time; the codes and the check pattern are constants (R191). -/
  | identity (time : Nat)
  /-- SENSE (R183). -/
  | sense (x : SenseData)
  /-- SIGN-ON (R97): the assigned count; SIGN-OFF (R98): the number released. -/
  | count (n : Nat)
  /-- ABORT (R180): the code of the aborted command, if one was. -/
  | abortedCommand (code : Option Byte)
  /-- RESET (R185, R186): the level. -/
  | level (n : Nat)
  | pendingPage (p : PendingPage)
  | incidentPage (p : IncidentPage)
  | faultView (v : FaultView)
  | stationView (v : StationView)
  | trunkView (v : TrunkView)
  | errorView (e : ErrorRecord)
  /-- ACCEPT (R87). -/
  | accepted (i : IncidentId) (change assigned : Nat)
  /-- DECLINE (R88), RELEASE (R95). -/
  | incident (i : IncidentId) (change : Nat)
  /-- HANDOVER (R96). -/
  | handedOver (i : IncidentId) (change : Nat) (group : DeskId)
  /-- CLOSE (R62), TAG (R64). -/
  | change (n : Nat)
  /-- HOLD (R115), UNHOLD (R116). -/
  | held (hold : HoldSet) (mode : Mode)
  /-- PROBE, CYCLE, SWEEP (R159). -/
  | started (o : OpId) (kind : OpKind) (station : StationId) (deadline : Nat)
  /-- ABORT-OP (R170). -/
  | abortedOp (kind : OpKind) (asset : Nat) (station : StationId) (state : OpState)
  /-- CENSUS (R153): started, or queued. -/
  | census (started : Bool)
  /-- LABEL-CHAIN (R150): the number of positions put into the list. -/
  | labelled (n : Nat)
  /-- SET-PERIOD (R76). -/
  | period (now before : Period)
  /-- READ-SHADOW (R13). -/
  | shadow (item : ShadowItem) (holder : Option DeskId)
  /-- ADOPT (R15). -/
  | adopted (circuits rosters others : Nat)
deriving DecidableEq, Repr

/-- One result frame (R181).  `own` marks the result of the outstanding command, which stops being outstanding when
this frame has been sent (R178). -/
structure Result where
  code        : Byte
  termination : Termination
  reason      : Option Reason
  attention   : Bool
  data        : ResultData
  own         : Bool
deriving DecidableEq, Repr

/-- The phase of an outstanding command (R173). -/
inductive Phase where
  | waiting | answering
deriving DecidableEq, Repr

/-- The outstanding command of a link: its frame's body and its phase (R173, R179). -/
structure Outstanding where
  body  : List Byte
  phase : Phase
deriving DecidableEq, Repr

/-- What the link is sending (R178): nothing, the oldest result, or a notice that has left its queue. -/
inductive Sending where
  | idle
  | result
  | notice (n : Notice)
deriving DecidableEq, Repr

/-- The fields of one desk link (R173).  The receiver hunts when `receiver` is none; otherwise it holds the bytes after
SYNC of the frame in reception (R177). -/
structure Link where
  up          : Bool := false
  receiver    : Option (List Byte) := none
  outstanding : Option Outstanding := none
  results     : List Result := []
  sending     : Sending := .idle
  notices     : List Notice := []
  overflow    : Nat := 0
  attention   : Bool := false
  badCrc      : Nat := 0
  badFrame    : Nat := 0
  badKind     : Nat := 0
deriving DecidableEq, Repr

/-- The desks' side of the part: the incident table, the aging schedules, the offer arbiter and the desk links.  `stirs` is
the MODEL's own field (log entry 43): how many times an incident has taken a place in each group's queue, on entering it or
by a changed urgency, which is what R85 runs the group for. -/
structure Board where
  incidents : Table 640 IncidentRecord := {}
  aging     : Table 640 Boundary := {}
  queues    : Vector (List IncidentId) 6 := Vector.replicate 6 []
  stirs     : Vector Nat 6 := Vector.replicate 6 0
  pointers  : Vector DeskId 6 := #v[0, 1, 2, 3, 4, 5]
  timeouts  : Vector Nat 6 := Vector.replicate 6 45
  desks     : Vector Desk 6 := Vector.replicate 6 {}
  links     : Vector Link 6 := Vector.replicate 6 {}
deriving DecidableEq, Repr

/-! ## The field side: stations, trunks, chains and operations (R105, R124, R143, R157) -/

/-- What a downstream frame carries after its label (R194). -/
inductive Payload where
  | label (p : Position)
  | forget
  | census
  | sleepGrant (span : Nat)
  | sleepDeny (reason : Nat)
  | probe (o : OpId) (asset : Nat)
  | cycle (o : OpId) (asset offTime : Nat)
  | sweepStep (o : OpId) (asset level : Nat)
  | setLevel (o : OpId) (asset level : Nat)
  | abortOp (o : OpId) (asset : Nat)
deriving DecidableEq, Repr

/-- A downstream frame and the label it is addressed to (R193). -/
structure DownFrame where
  label   : Nat
  payload : Payload
deriving DecidableEq, Repr

/-- The frame in assembly: the data symbols kept, at most 80, and whether more have come (R125). -/
structure Assembly where
  symbols : List Byte
  tooLong : Bool
deriving DecidableEq, Repr

/-- How a trunk last entered STARTING, which R129 tells apart (implied by its steps 4 and 5). -/
inductive StartCause where
  | fromOff | commandFromFaulted | retry
deriving DecidableEq, Repr

/-- One trunk record (R124).  `watch` says that the disconnect watch of R134 runs. -/
structure Trunk where
  state         : TrunkState := .off
  upCredit      : Nat := 0
  downCredit    : Nat := 0
  buffer        : List (List Byte) := []
  assembly      : Option Assembly := none
  queue         : List DownFrame := []
  transmitting  : Option DownFrame := none
  startDeadline : Option Nat := none
  retryDeadline : Option Nat := none
  graceDeadline : Option Nat := none
  faultTime     : Option Nat := none
  attempts      : Nat := 0
  counters      : Vector Nat 22 := Vector.replicate 22 0
  startCause    : StartCause := .fromOff
  watch         : Bool := false
deriving DecidableEq, Repr

/-- A labelling in flight (R143). -/
structure Labelling where
  position : Position
  deadline : Nat
deriving DecidableEq, Repr

/-- One chain controller (R143): the deadline of the census in flight, if one is; census-again; the labelling in flight;
the labelling list. -/
structure Chain where
  census    : Option Nat := none
  again     : Bool := false
  labelling : Option Labelling := none
  list      : List Position := []
deriving DecidableEq, Repr

/-- One operation in flight (R157).  `noise` is the noise level N once a sweep has found it, which its outcome
carries (R165). -/
structure Op where
  kind       : OpKind
  desk       : DeskId
  station    : StationId
  asset      : Nat
  state      : OpState
  level      : Option Nat
  direction  : Option Direction
  steps      : Nat
  retried    : Bool
  deadline   : Nat
  offTime    : Nat
  startLevel : Nat
  margin     : Nat
  noise      : Option Nat
deriving DecidableEq, Repr

/-- The field side of the part.  A station the table does not list is VACANT with every live field at its power-on
value; an operation the table does not list is free. -/
structure Field where
  stations : Table 384 Station := {}
  trunks   : Vector Trunk 16 := Vector.replicate 16 {}
  chains   : Vector Chain 16 := Vector.replicate 16 {}
  ops      : Table 32 Op := {}
  lastOp   : OpId := 31
deriving DecidableEq, Repr

/-! ## The machine -/

/-- The whole part.  `draws` is the MODEL's own field: how many fresh free values have been drawn (log entry 4).
`pending` is the queue of the steps that wait, first in, first out. -/
structure State where
  setup   : Setup := {}
  faults  : Faults := {}
  board   : Board := {}
  field   : Field := {}
  error   : ErrorRecord := {}
  draws   : Nat := 0
  pending : List Instr := []
deriving DecidableEq, Repr

/-- Why a step stops with a fault.  Both are raised for terms that stand for no step of the part at all
(`Instr.wf` is false); both are safe. -/
inductive Fault where
  /-- Raised by COMMAND_FRAME for a body of more than 254 bytes, which no desk frame can carry (R176).  Safe. -/
  | notAFrame
  /-- Raised by CONFIRM_WINDOW_EXPIRY and RESTORE_HOLD_EXPIRY for an asset number above 65535, which names no asset
  (00_scope, Terms).  Safe. -/
  | noSuchAsset
deriving DecidableEq, Repr

/-- Why a step is refused. -/
inductive Refusal where
  /-- Raised by an arm of `exec` for a step without a meaning.  No arm answers so.  Safe. -/
  | notModelled (mnemonic : String)
deriving DecidableEq, Repr

/-- What a step answers. -/
abbrev Answer := Host.Outcome State Fault Refusal

/-- The part right after power-on with no desk line present: every block at its power-on values (R1, R2, R7, R21, R43,
R68, R80, R81, R105, R124, R140, R143, R157, R187), part time 0, and no step waiting. -/
def State.reset : State := {}

end Sys2Proof.Machine
end

