-- ==== Sys2Proof/Machine/Table.lean ====
section
/-! DEFINITION. The operations on keyed tables and on short lists that the blocks share.  No rule of the spec stands
here; the laws are in Sys2Proof/Laws/Table.lean. -/

namespace Sys2Proof

/-- The entry listed under a key, in a list of entries. -/
def lookupEntry {n : Nat} {α : Type} (i : Fin n) : List (Fin n × α) → Option α
  | [] => none
  | (j, x) :: rest => if j = i then some x else lookupEntry i rest

/-- The entries with one put in before the first greater key. -/
def insertEntry {n : Nat} {α : Type} (i : Fin n) (x : α) : List (Fin n × α) → List (Fin n × α)
  | [] => [(i, x)]
  | (j, y) :: rest => if i.val < j.val then (i, x) :: (j, y) :: rest else (j, y) :: insertEntry i x rest

/-- The entry under a key, if the table lists one. -/
def Table.find {n : Nat} {α : Type} (t : Table n α) (i : Fin n) : Option α := lookupEntry i t.entries

/-- The table without an entry under the key. -/
def Table.erase {n : Nat} {α : Type} (t : Table n α) (i : Fin n) : Table n α :=
  ⟨t.entries.filter fun e => decide (e.1 ≠ i)⟩

/-- The table with an entry under the key. -/
def Table.put {n : Nat} {α : Type} (t : Table n α) (i : Fin n) (x : α) : Table n α :=
  ⟨insertEntry i x (t.erase i).entries⟩

/-- What a key holds, where an unlisted key holds `d`. -/
def Table.get {n : Nat} {α : Type} (d : α) (t : Table n α) (i : Fin n) : α := (t.find i).getD d

/-- The table with a key holding `x`, where an unlisted key holds `d`: a key that comes to hold `d` is no longer
listed, so that equal banks are equal tables. -/
def Table.store {n : Nat} {α : Type} [DecidableEq α] (d : α) (t : Table n α) (i : Fin n) (x : α) : Table n α :=
  if x = d then t.erase i else t.put i x

/-- The keys listed, rising in a table in canonical form. -/
def Table.keys {n : Nat} {α : Type} (t : Table n α) : List (Fin n) := t.entries.map (·.1)

/-- Keys strictly rising. -/
def risingKeys {n : Nat} {α : Type} : List (Fin n × α) → Bool
  | [] => true
  | (i, _) :: rest => rest.all (fun e => decide (i.val < e.1.val)) && risingKeys rest

/-- The canonical form of a table whose unlisted keys hold `d`: keys strictly rising, and no entry equal to `d`. -/
def Table.wf {n : Nat} {α : Type} [DecidableEq α] (d : α) (t : Table n α) : Bool :=
  risingKeys t.entries && t.entries.all (fun e => decide (e.2 ≠ d))

/-- The canonical form of a table that lists exactly the keys in use. -/
def Table.rising {n : Nat} {α : Type} (t : Table n α) : Bool := risingKeys t.entries

/-- The numbers from `i` below `n`, at most `fuel` of them. -/
def finsFrom (n : Nat) : (fuel i : Nat) → List (Fin n)
  | 0, _ => []
  | fuel + 1, i => if h : i < n then ⟨i, h⟩ :: finsFrom n fuel (i + 1) else []

/-- The numbers 0 to n - 1, rising. -/
def fins (n : Nat) : List (Fin n) := finsFrom n n 0

/-- A count that stays at its upper limit once it reaches it (00_scope, Conventions). -/
def saturate (top n : Nat) : Nat := if n < top then n + 1 else top

/-- `v` brought into `lo`..`hi` (R16). -/
def clampTo (lo hi v : Nat) : Nat := if v < lo then lo else if hi < v then hi else v

end Sys2Proof
end

