-- ==== Sys2Proof/Machine/Operands.lean ====
section
/-! DEFINITION. The operand forms: how the numbers and codes of frames, commands and tables are read (R188, R189, R191,
R194, R195).  What cannot be read is `none`. -/

namespace Sys2Proof.Machine

/-! ## Numbers -/

/-- R188: a two-byte number, high byte first. -/
def half (hi lo : Byte) : Nat := hi.toNat * 256 + lo.toNat

/-- A number as one of 0 to n - 1. -/
def finOf (n k : Nat) : Option (Fin n) := if h : k < n then some ⟨k, h⟩ else none

/-- The number the spec gives a position, 1 to 24. -/
def positionNumber (p : Position) : Nat := p.val + 1

/-- The position with a number of 1 to 24. -/
def positionOf (k : Nat) : Option Position := if k = 0 then none else finOf 24 (k - 1)

/-- The number the spec gives a circuit, 1 to 128. -/
def circuitNumber (c : CircuitId) : Nat := c.val + 1

/-- The circuit with a number of 1 to 128. -/
def circuitOf (k : Nat) : Option CircuitId := if k = 0 then none else finOf 128 (k - 1)

/-- The station at a trunk and position. -/
def stationAt (t : TrunkId) (p : Position) : StationId := ⟨t.val * 24 + p.val, by omega⟩

/-- The trunk of a station. -/
def stationTrunk (n : StationId) : TrunkId := ⟨n.val / 24, by omega⟩

/-- The position of a station. -/
def stationPosition (n : StationId) : Position := ⟨n.val % 24, by omega⟩

/-- The station named by a trunk number and a position number, if both are in range. -/
def stationOf (trunk position : Byte) : Option StationId :=
  match finOf 16 trunk.toNat, positionOf position.toNat with
  | some t, some p => some (stationAt t p)
  | _, _ => none

/-- The desks, rising. -/
def allDesks : List DeskId := [0, 1, 2, 3, 4, 5]

/-- A set holding one desk (R189). -/
def deskBit (d : DeskId) : DeskSet := BitVec.ofNat 6 (2 ^ d.val)

/-- Membership of a desk in a set. -/
def inSet (d : DeskId) (x : DeskSet) : Bool := x.getLsbD d.val

/-! ## Codes (R189) -/

/-- Station and asset kinds; a code outside 1 to 3 names none. -/
def kindOf (b : Byte) : Option Kind :=
  match b.toNat with
  | 1 => some .lamp
  | 2 => some .loop
  | 3 => some .sign
  | _ => none

/-- Classes; INFRA is 4. -/
def classOf (b : Byte) : Option Cls :=
  match b.toNat with
  | 1 => some .lamp
  | 2 => some .loop
  | 3 => some .sign
  | 4 => some .infra
  | _ => none

/-- Periods. -/
def periodOf (b : Byte) : Option Period :=
  match b.toNat with
  | 0 => some .day
  | 1 => some .night
  | 2 => some .peak
  | 3 => some .storm
  | _ => none

/-- Conditions; a code above 12 names none (R189). -/
def conditionOf (b : Byte) : Option Condition :=
  match b.toNat with
  | 0 => some .ok
  | 1 => some .out
  | 2 => some .degraded
  | 3 => some .cycling
  | 4 => some .loopOpen
  | 5 => some .loopShort
  | 6 => some .drift
  | 7 => some .stuckOn
  | 8 => some .dark
  | 9 => some .pixel
  | 10 => some .comms
  | 11 => some .silent
  | 12 => some .trunkDown
  | _ => none

/-- A yes-or-no option byte; any other value is out of range (R191). -/
def optionOf (b : Byte) : Option Bool :=
  match b.toNat with
  | 0 => some false
  | 1 => some true
  | _ => none

/-- The asset kind as an urgency class (R50). -/
def Kind.cls : Kind → Cls
  | .lamp => .lamp
  | .loop => .loop
  | .sign => .sign

/-! ## Desk commands (R191; the codes stand in the table at the end of 10_desk_links_and_commands) -/

/-- The least and greatest body length allowed for a command code; none for a code that names no command. -/
def bodyLengths (code : Nat) : Option (Nat × Nat) :=
  match code with
  | 0x01 => some (1, 1)   -- IDENTIFY
  | 0x02 => some (1, 1)   -- SENSE
  | 0x03 => some (1, 1)   -- SIGN-ON
  | 0x04 => some (2, 2)   -- SIGN-OFF
  | 0x0E => some (1, 1)   -- ABORT
  | 0x0F => some (2, 2)   -- RESET
  | 0x10 => some (4, 4)   -- LIST-PENDING
  | 0x11 => some (5, 5)   -- READ-INCIDENT
  | 0x12 => some (3, 3)   -- READ-FAULT
  | 0x13 => some (3, 3)   -- READ-STATION
  | 0x14 => some (2, 2)   -- READ-TRUNK
  | 0x15 => some (1, 1)   -- READ-ERROR
  | 0x20 => some (3, 3)   -- ACCEPT
  | 0x21 => some (3, 3)   -- DECLINE
  | 0x22 => some (3, 3)   -- RELEASE
  | 0x23 => some (4, 4)   -- HANDOVER
  | 0x24 => some (4, 4)   -- CLOSE
  | 0x25 => some (3, 19)  -- TAG
  | 0x30 => some (3, 3)   -- HOLD
  | 0x31 => some (3, 3)   -- UNHOLD
  | 0x38 => some (3, 3)   -- PROBE
  | 0x39 => some (3, 3)   -- CYCLE
  | 0x3A => some (3, 3)   -- SWEEP
  | 0x3B => some (2, 2)   -- ABORT-OP
  | 0x40 => some (2, 2)   -- TRUNK-START
  | 0x41 => some (2, 2)   -- TRUNK-STOP
  | 0x42 => some (2, 2)   -- CENSUS
  | 0x43 => some (2, 2)   -- LABEL-CHAIN
  | 0x48 => some (2, 2)   -- SET-PERIOD
  | 0x50 => some (1, 1)   -- EDIT-BEGIN
  | 0x51 => some (10, 10) -- WRITE-CIRCUIT
  | 0x52 => some (13, 13) -- WRITE-STATION
  | 0x53 => some (5, 5)   -- WRITE-DESK
  | 0x54 => some (4, 4)   -- WRITE-PARAM
  | 0x55 => some (4, 4)   -- WRITE-SCALE
  | 0x56 => some (4, 4)   -- READ-SHADOW
  | 0x57 => some (1, 1)   -- ADOPT
  | 0x58 => some (1, 1)   -- DISCARD
  | _ => none

/-- R191: whether a body length is allowed for a command code. -/
def lengthAllowed (code len : Nat) : Bool :=
  match bodyLengths code with
  | some (lo, hi) => lo ≤ len && len ≤ hi
  | none => false

/-- An alternate group byte: 0xFF means none, any other value is stored as written (R189). -/
def alternateOf (b : Byte) : Option Nat := if b = 0xFF#8 then none else some b.toNat

/-! ## Upstream trunk frames (R193, R194) -/

/-- The type codes of upstream frames (R194). -/
inductive UpType where
  | checkIn | assetState | sleep | bypassOn | bypassOff | labelAck | opReply | censusReturn | noTaker
deriving DecidableEq, Repr

/-- The type a type symbol names; outside 0x01 to 0x09 none (R194). -/
def upTypeOf (b : Byte) : Option UpType :=
  match b.toNat with
  | 0x01 => some .checkIn
  | 0x02 => some .assetState
  | 0x03 => some .sleep
  | 0x04 => some .bypassOn
  | 0x05 => some .bypassOff
  | 0x06 => some .labelAck
  | 0x07 => some .opReply
  | 0x08 => some .censusReturn
  | 0x09 => some .noTaker
  | _ => none

/-- The length each upstream type requires (R194). -/
def UpType.minimum : UpType → Nat
  | .checkIn => 2
  | .assetState => 7
  | .sleep => 3
  | .bypassOn => 2
  | .bypassOff => 2
  | .labelAck => 7
  | .opReply => 8
  | .censusReturn => 3
  | .noTaker => 4

/-- The reply kinds of an OP-REPLY with their values (R194). -/
inductive Reply where
  | probeReading (condition : Option Condition)
  | cycleOff
  | cycleFinal (condition : Option Condition)
  | sample (level : Nat) (detects : Bool)
  | confirmation (level : Nat)
  | rejected
deriving DecidableEq, Repr

/-- R194: a reply kind outside 1 to 6 is none; a sample value other than 0 is taken as 1. -/
def replyOf (kind value1 value2 : Byte) : Option Reply :=
  match kind.toNat with
  | 1 => some (.probeReading (conditionOf value1))
  | 2 => some .cycleOff
  | 3 => some (.cycleFinal (conditionOf value1))
  | 4 => some (.sample value1.toNat (value2 ≠ 0#8))
  | 5 => some (.confirmation value1.toNat)
  | 6 => some .rejected
  | _ => none

/-- The downstream types a NO-TAKER can return (R194). -/
inductive ReturnedType where
  | label | forget | census | sleepGrant | sleepDeny | probe | cycle | sweepStep | setLevel | abortOp | unknown
deriving DecidableEq, Repr

/-- R194: the downstream type codes. -/
def returnedTypeOf (b : Byte) : ReturnedType :=
  match b.toNat with
  | 0x81 => .label
  | 0x82 => .forget
  | 0x83 => .census
  | 0x84 => .sleepGrant
  | 0x85 => .sleepDeny
  | 0x86 => .probe
  | 0x87 => .cycle
  | 0x88 => .sweepStep
  | 0x89 => .setLevel
  | 0x8A => .abortOp
  | _ => .unknown

/-- What one station wrote into a census (R151): a full entry with its label, a bypass marker, or an unlabelled
marker.  The mode and not-OK count of a full entry are not taken by the part. -/
inductive CensusEntry where
  | full (label : Nat)
  | bypass
  | unlabelled
deriving DecidableEq, Repr

/-- R195: the entries of a census return, `n` of them, read in order; none where they cannot be read to their end.
DEDUCED (log entry 34): a return that ends between two entries, before `n` of them are read, cannot be read to its end. -/
def censusEntries : (n : Nat) → List Byte → Option (List CensusEntry)
  | 0, _ => some []
  | _ + 1, [] => none
  | n + 1, b :: rest =>
    if b = 0xFE#8 then (censusEntries n rest).map (CensusEntry.bypass :: ·)
    else if b = 0xFF#8 then (censusEntries n rest).map (CensusEntry.unlabelled :: ·)
    else if 1 ≤ b.toNat ∧ b.toNat ≤ 24 then
      match rest with
      | _mode :: _notOk :: rest' => (censusEntries n rest').map (CensusEntry.full b.toNat :: ·)
      | _ => none
    else none

/-! ## Trunk symbols (R196) -/

/-- What an upstream symbol is (R125). -/
inductive Symbol where
  | data (b : Byte)
  | fill | grant | frameEnd | abort
  /-- A bad check bit, or a control symbol of an unknown payload. -/
  | bad
deriving DecidableEq, Repr

/-- Whether an odd number of the ten bits of a line symbol are set (R196). -/
def oddParity (x : BitVec 10) : Bool :=
  (List.range 10).foldl (fun acc k => acc != x.getLsbD k) false

/-- R196: a symbol of ten bits, the control bit at bit 9, the payload at bits 8 to 1, the check bit at bit 0. -/
def symbolOf (x : BitVec 10) : Symbol :=
  if oddParity x then
    if x.getLsbD 9 then
      match (x.extractLsb' 1 8).toNat with
      | 0x00 => .fill
      | 0x01 => .grant
      | 0x02 => .frameEnd
      | 0x03 => .abort
      | _ => .bad
    else .data (x.extractLsb' 1 8)
  else .bad

/-- The ten bits of a control symbol or data symbol with its check bit made right (R196). -/
def symbolBits (control : Bool) (payload : Byte) : BitVec 10 :=
  let body : BitVec 10 := (BitVec.ofBool control).setWidth 10 <<< 9 ||| payload.setWidth 10 <<< 1
  if oddParity body then body else body ||| 1#10

end Sys2Proof.Machine
end

