-- ==== Sys2Proof/Machine/Flags.lean ====
section
/-! DEFINITION. The yes-or-no conditions that the rules test, each as one function of the state it reads. -/

namespace Sys2Proof.Machine

/-! ## Settings in force -/

/-- The circuit entry of one copy. -/
def Settings.circuit (x : Settings) (c : CircuitId) : Circuit := x.circuits.get {} c

/-- The roster entry of one copy. -/
def Settings.station (x : Settings) (n : StationId) : Roster := x.roster.get {} n

/-- R10, R105: an entry with an asset count of 0 is VACANT. -/
def Roster.vacant (r : Roster) : Bool := r.count = 0

/-- R4 check 2: the asset lies in the owned range, first asset to first asset + asset count - 1. -/
def Roster.owns (r : Roster) (asset : Nat) : Bool := r.first ≤ asset && asset < r.first + r.count

/-- R53, R138, R141: the number of non-VACANT roster entries of a trunk. -/
def occupied (x : Settings) (t : TrunkId) : Nat :=
  ((fins 24).filter fun p => !(x.station (stationAt t p)).vacant).length

/-- R5: the conditions a station can report for a kind of asset. -/
def reportable (k : Kind) (c : Condition) : Bool :=
  match k, c with
  | .lamp, .ok | .lamp, .out | .lamp, .degraded => true
  | .loop, .ok | .loop, .loopOpen | .loop, .loopShort | .loop, .drift | .loop, .stuckOn => true
  | .sign, .ok | .sign, .dark | .sign, .pixel | .sign, .comms => true
  | _, _ => false

/-- R21, R23: the confirm threshold of a kind. -/
def Params.threshold (p : Params) : Kind → Nat
  | .lamp => p.lampThreshold
  | .loop => p.loopThreshold
  | .sign => p.signThreshold

/-- R68: the scales of a period. -/
def PeriodTable.of (x : PeriodTable) : Period → Scales
  | .day => x.day
  | .night => x.night
  | .peak => x.peak
  | .storm => x.storm

/-- R68: the scale of a class. -/
def Scales.of (x : Scales) : Cls → Nat
  | .lamp => x.lamp
  | .loop => x.loop
  | .sign => x.sign
  | .infra => x.infra

/-! ## Circuits (R3) -/

/-- The outcome of a circuit lookup (R3). -/
inductive Lookup where
  | invalid | fold | normal
deriving DecidableEq, Repr

/-- R3: INVALID takes precedence over FOLD. -/
def Circuit.outcome (c : Circuit) : Lookup :=
  if c.invalid then .invalid else if c.fold then .fold else .normal

/-- R3: the lowest-numbered entry whose upper bound is at least the asset number.  Entry 128's bound is 65535 (R2), so
that some entry always matches; the last stands for it. -/
def circuitFor (x : Settings) (asset : Nat) : CircuitId :=
  ((fins 128).find? fun c => decide (asset ≤ (x.circuit c).bound)).getD 127

/-! ## Desk groups (R80) -/

/-- R19, R80: desk 0 starts a group, and so does every other desk whose group-continue flag is clear. -/
def startsGroup (x : Settings) (d : DeskId) : Bool := d = 0 || !(x.desks[d]).continues

/-- R80: the start desk of the group that contains a desk: the last start desk not above it. -/
def groupStart (x : Settings) (d : DeskId) : DeskId :=
  ((allDesks.filter fun g => decide (g ≤ d) && startsGroup x g).getLast?).getD 0

/-- R80: whether a desk belongs to the group a start desk names. -/
def inGroup (x : Settings) (g d : DeskId) : Bool := groupStart x d = g

/-- R80: the desks of a group, rising. -/
def groupDesks (x : Settings) (g : DeskId) : List DeskId := allDesks.filter fun d => inGroup x g d

/-- The desks of a group as a set (R189). -/
def groupSet (x : Settings) (g : DeskId) : DeskSet := (groupDesks x g).foldl (fun acc d => acc ||| deskBit d) 0

/-- R90: a decline round ends when the set holds every desk of the group, whatever other desks it holds. -/
def roundComplete (x : Settings) (g : DeskId) (declined : DeskSet) : Bool := declined &&& groupSet x g = groupSet x g

/-! ## Incidents (R43, R44) -/

/-- R44: neither CLOSED nor FREE. -/
def Incident.live (i : Incident) : Bool := i.state ≠ .closed

/-- OPEN, OFFERED or ASSIGNED: the subject is still at fault. -/
def Incident.atFault (i : Incident) : Bool := i.state = .opened || i.state = .offered || i.state = .assigned

/-- R48, R62: members listed, or faults counted without records. -/
def Incident.hasFaults (i : Incident) : Bool := !i.members.isEmpty || 0 < i.unrecorded

/-- Whether the incident is about a circuit. -/
def Incident.isCircuit (i : Incident) : Bool :=
  match i.subject with
  | .circuit _ => true
  | _ => false

/-! ## Offers (R82) -/

/-- R82: a desk is eligible when its link is UP, it is on duty and responsive, its slot is empty and its assigned count
is below its assignment limit. -/
def eligible (x : Settings) (b : Board) (d : DeskId) : Bool :=
  (b.links[d]).up && (b.desks[d]).onDuty && !(b.desks[d]).unresponsive && (b.desks[d]).slot.isNone &&
    decide ((b.desks[d]).assigned < (x.desks[d]).limit)

/-! ## Stations (R105) -/

/-- Whether reports of the station are set aside. -/
def HoldSet.held (h : HoldSet) : Bool := h.desk || h.cabinet

/-- R23, R34: a station whose records are stale. -/
def Station.unheard (x : Station) : Bool := x.mode = .silent || x.mode = .unreached

/-- R123, R148: whether the identity a station reported is the one the roster expects. -/
def identityAgrees (r : Roster) (i : Identity) : Bool :=
  kindOf i.kind = r.kind && r.kind.isSome && i.first = r.first && i.count = r.count

/-! ## Trunks and chains (R124, R143) -/

/-- R133: the send queue holds 8 frames. -/
def Trunk.queueFull (x : Trunk) : Bool := 8 ≤ x.queue.length

/-- R131: the free upstream room. -/
def Trunk.room (x : Trunk) : Nat := 6 - x.buffer.length - x.upCredit

/-- R143: a census in flight, a labelling in flight or a labelling list that is not empty. -/
def Chain.busy (c : Chain) : Bool := c.census.isSome || c.labelling.isSome || !c.list.isEmpty

/-! ## Operations (R158, R159) -/

/-- R159's first line: CYCLE is not for a LOOP-RACK, SWEEP only for one. -/
def OpKind.allows (k : OpKind) (station : Option Kind) : Bool :=
  match k, station with
  | .probe, _ => true
  | .cycle, some .loop => false
  | .cycle, _ => true
  | .sweep, some .loop => true
  | .sweep, _ => false

/-- R35: the kinds of operation that put their asset in the mark set. -/
def OpKind.marks : OpKind → Bool
  | .probe => false
  | .cycle => true
  | .sweep => true

/-- A deadline that has come. -/
def due (deadline : Option Nat) (time : Nat) : Bool :=
  match deadline with
  | some n => n ≤ time
  | none => false

end Sys2Proof.Machine
end

