-- ==== Sys2Proof/Machine/Ops.lean ====
section
/-! DEFINITION. The named operations over the records of the state: reading and writing one record, the error record and
the counters, notices to desks, and frames to and from trunks.  The meanings of the families are built from these. -/

namespace Sys2Proof.Machine

/-! ## The values fixed in the part (00_scope, Parameter summary) -/

def startTimeout : Nat := 2
def censusTimeout : Nat := 4
def labelTimeout : Nat := 2
def stepTimeout : Nat := 2
def probeLimit : Nat := 10
def cycleExtra : Nat := 30
def faultCapacity : Nat := 2048
def noticeCapacity : Nat := 16
def resultCapacity : Nat := 3
def sendCapacity : Nat := 8
def upstreamCapacity : Nat := 6
def downCreditTop : Nat := 6
def longestFrame : Nat := 80
def balanceCap : Int := 8

/-! ## Lifting an operation on one block to the whole state -/

/-- An operation of the desks' side, which reads the settings, period and time. -/
def State.onBoard (f : Setup → Board → Board) (s : State) : State := { s with board := f s.setup s.board }

/-- An operation of the field side. -/
def State.onField (f : Field → Field) (s : State) : State := { s with field := f s.field }

/-- An operation of the fault table. -/
def State.onFaults (f : Faults → Faults) (s : State) : State := { s with faults := f s.faults }

/-- An operation of the classifier's settings. -/
def State.onSetup (f : Setup → Setup) (s : State) : State := { s with setup := f s.setup }

/-! ## Reading one record -/

/-- A station's roster entry in the active copy. -/
def State.roster (s : State) (n : StationId) : Roster := s.setup.active.station n

/-- A station's live fields. -/
def Field.station (f : Field) (n : StationId) : Station := f.stations.get {} n

/-- A station's live fields. -/
def State.station (s : State) (n : StationId) : Station := s.field.station n

/-- A trunk record. -/
def State.trunk (s : State) (t : TrunkId) : Trunk := s.field.trunks[t]

/-- A chain controller. -/
def State.chain (s : State) (t : TrunkId) : Chain := s.field.chains[t]

/-- The fault record of an asset, if it has one (R21). -/
def Faults.find (f : Faults) (asset : Nat) : Option FaultRecord := f.records.find? fun r => r.asset = asset

/-- Whether an asset is in the mark set (R35). -/
def Faults.marked (f : Faults) (asset : Nat) : Bool := f.marks.contains asset

/-- The record at an incident index. -/
def Board.record (b : Board) (i : IncidentId) : IncidentRecord := b.incidents.get {} i

/-- The incident at an index; none when the record is FREE. -/
def Board.incident (b : Board) (i : IncidentId) : Option Incident := (b.record i).body

/-- The change number at an index (R60). -/
def Board.change (b : Board) (i : IncidentId) : Nat := (b.record i).change

/-! ## Writing one record -/

/-- One station record written. -/
def Field.setStation (n : StationId) (x : Station) (f : Field) : Field :=
  { f with stations := f.stations.store {} n x }

/-- One trunk record written. -/
def Field.setTrunk (t : TrunkId) (x : Trunk) (f : Field) : Field := { f with trunks := f.trunks.set t x }

/-- One chain controller written. -/
def Field.setChain (t : TrunkId) (x : Chain) (f : Field) : Field := { f with chains := f.chains.set t x }

/-- One operation record written. -/
def Field.setOp (o : OpId) (x : Op) (f : Field) : Field := { f with ops := f.ops.put o x }

/-- One operation record freed. -/
def Field.freeOp (o : OpId) (f : Field) : Field := { f with ops := f.ops.erase o }

/-- One station record changed. -/
def State.updStation (n : StationId) (g : Station → Station) (s : State) : State :=
  s.onField fun f => f.setStation n (g (f.station n))

/-- One trunk record changed. -/
def State.updTrunk (t : TrunkId) (g : Trunk → Trunk) (s : State) : State :=
  s.onField fun f => f.setTrunk t (g f.trunks[t])

/-- One chain controller changed. -/
def State.updChain (t : TrunkId) (g : Chain → Chain) (s : State) : State :=
  s.onField fun f => f.setChain t (g f.chains[t])

/-- One desk's arbiter fields changed. -/
def Board.updDesk (d : DeskId) (g : Desk → Desk) (b : Board) : Board := { b with desks := b.desks.set d (g b.desks[d]) }

/-- One desk link changed. -/
def Board.updLink (d : DeskId) (g : Link → Link) (b : Board) : Board := { b with links := b.links.set d (g b.links[d]) }

/-- One desk's arbiter fields changed. -/
def State.updDesk (d : DeskId) (g : Desk → Desk) (s : State) : State := s.onBoard fun _ b => b.updDesk d g

/-- One desk link changed. -/
def State.updLink (d : DeskId) (g : Link → Link) (s : State) : State := s.onBoard fun _ b => b.updLink d g

/-- Fault records with asset numbers rising. -/
def insertRecord (r : FaultRecord) : List FaultRecord → List FaultRecord
  | [] => [r]
  | x :: rest => if r.asset < x.asset then r :: x :: rest else x :: insertRecord r rest

/-- The record of an asset taken out of the table, which frees its place (R21). -/
def Faults.remove (asset : Nat) (f : Faults) : Faults :=
  { f with records := f.records.filter fun r => decide (r.asset ≠ asset) }

/-- A record written under its asset number, of which the table holds at most one record (R21). -/
def Faults.write (r : FaultRecord) (f : Faults) : Faults :=
  { f with records := insertRecord r (f.remove r.asset).records }

/-- Asset numbers rising. -/
def insertMark (asset : Nat) : List Nat → List Nat
  | [] => [asset]
  | x :: rest => if asset < x then asset :: x :: rest else x :: insertMark asset rest

/-- The asset leaves the mark set (R35). -/
def Faults.unmark (asset : Nat) (f : Faults) : Faults := { f with marks := f.marks.filter fun a => decide (a ≠ asset) }

/-- The asset joins the mark set, which holds no duplicates (R35). -/
def Faults.mark (asset : Nat) (f : Faults) : Faults := { f with marks := insertMark asset (f.unmark asset).marks }

/-! ## Errors (R137, R140) -/

/-- R140: the whole record is replaced and its write count goes up by 1, wrapping at 65536. -/
def State.recordError (code : ErrorCode) (place : Place) (s : State) : State :=
  { s with error := { code, place, time := some s.setup.time, writes := (s.error.writes + 1) % 65536 } }

/-- The place of a counter: the order of R137's table, then the chain controller's seven, which R137 names only as a group.
DESIGN CHOICE (log entry 39): R141 gives READ-TRUNK's counters no order; the model takes that of R195's codes 1 to 22. -/
def TrunkError.index : TrunkError → Fin 22
  | .parity => 0
  | .disconnect => 1
  | .creditOverrun => 2
  | .creditExcess => 3
  | .startTimeout => 4
  | .nullFrame => 5
  | .longFrame => 6
  | .unknownType => 7
  | .shortFrame => 8
  | .unknownLabel => 9
  | .notOwned => 10
  | .kindMismatch => 11
  | .badCondition => 12
  | .invalidCircuit => 13
  | .noTaker => 14
  | .identityMismatch => 15
  | .strayReply => 16
  | .labelFailed => 17
  | .censusFailed => 18
  | .chainTooLong => 19
  | .unexpectedStation => 20
  | .labelMismatch => 21

/-- R137: a counter goes up by 1, saturating at 65535. -/
def Trunk.count (e : TrunkError) (x : Trunk) : Trunk :=
  { x with counters := x.counters.set e.index (saturate 65535 x.counters[e.index]) }

/-- An error counted on a trunk (R137). -/
def State.countError (t : TrunkId) (e : TrunkError) (s : State) : State := s.updTrunk t (Trunk.count e)

/-- An error counted on the receiving trunk and written to the most-recent-error record. -/
def State.errorOn (t : TrunkId) (e : TrunkError) (place : Place) (s : State) : State :=
  (s.countError t e).recordError (.trunk e) place

/-! ## Notices (R182) -/

/-- R182: a notice joins the end of its desk's queue; at a DOWN link, or at a queue of 16, it is discarded, the overflow
count goes up by 1 and the attention flag is set. -/
def Link.take (n : Notice) (l : Link) : Link :=
  if l.up && decide (l.notices.length < noticeCapacity) then { l with notices := l.notices ++ [n] }
  else { l with overflow := saturate 255 l.overflow, attention := true }

/-- A notice made for a desk. -/
def Board.notify (d : DeskId) (n : Notice) (b : Board) : Board := b.updLink d (Link.take n)

/-! ## Frames to and from a trunk (R131 to R133) -/

/-- What a maker is told of a frame it hands to a trunk (R133). -/
inductive Handoff where
  | accepted | notRunning | full
deriving DecidableEq, Repr

/-- R133: while RUNNING with no frame in transmission, a frame queued and downstream credit of at least 1, the frame at
the head of the queue becomes the frame in transmission and the credit goes down by 1. -/
def Trunk.pump (x : Trunk) : Trunk :=
  match x.queue with
  | [] => x
  | f :: rest =>
    if x.state = .running ∧ x.transmitting = none ∧ 1 ≤ x.downCredit then
      { x with queue := rest, transmitting := some f, downCredit := x.downCredit - 1 }
    else x

/-- What the trunk interface answers to a frame handed to it (R133). -/
def Trunk.answerTo (x : Trunk) : Handoff :=
  if x.state ≠ .running then .notRunning else if x.queueFull then .full else .accepted

/-- R133: an accepted frame joins the end of the send queue; a refused one changes nothing. -/
def Trunk.hand (f : DownFrame) (x : Trunk) : Trunk :=
  if x.answerTo = .accepted then ({ x with queue := x.queue ++ [f] }).pump else x

/-- The trunk's answer to a frame. -/
def State.answerTo (t : TrunkId) (s : State) : Handoff := (s.trunk t).answerTo

/-- A frame for a station handed to a trunk. -/
def State.hand (t : TrunkId) (f : DownFrame) (s : State) : State := s.updTrunk t (Trunk.hand f)

/-- R131: as many GRANTs as the room allows, each of 2 frames. -/
def Trunk.sendGrants (x : Trunk) : Trunk :=
  if x.state = .running then { x with upCredit := x.upCredit + 2 * (x.room / 2) } else x

/-- R132: the oldest frame leaves the buffer, and while RUNNING the room it leaves may send a GRANT. -/
def Trunk.pop (x : Trunk) : Trunk := ({ x with buffer := x.buffer.tail }).sendGrants

/-- The label by which a station is addressed (R144). -/
def labelOf (n : StationId) : Nat := positionNumber (stationPosition n)

/-- A frame addressed to one station. -/
def toStation (n : StationId) (p : Payload) : DownFrame := ⟨labelOf n, p⟩

/-- Every station of a trunk, by rising position. -/
def stationsOf (t : TrunkId) : List StationId := (fins 24).map (stationAt t)

/-- The trunks, rising. -/
def allTrunks : List TrunkId := fins 16

end Sys2Proof.Machine
end

