-- ==== Sys2Proof/Machine/Urgency.lean ====
section
/-! DEFINITION. The urgency unit: the inputs, the computation in seven stages, and the aging schedule (R69, R70, R75). -/

namespace Sys2Proof.Machine

/-- R50: the condition weight K. -/
def Condition.weight : Condition → Nat
  | .ok => 0
  | .out => 16
  | .degraded => 8
  | .cycling => 24
  | .loopOpen => 48
  | .loopShort => 48
  | .drift => 16
  | .stuckOn => 64
  | .dark => 40
  | .pixel => 8
  | .comms => 24
  | .silent => 80
  | .trunkDown => 120

/-- R69: the inputs of one computation. -/
structure UrgencyInputs where
  weight  : Nat
  k       : Nat
  n       : Nat
  q       : Nat
  age     : Nat
  tau     : Nat
  rounds  : Nat
  tripped : Bool
deriving DecidableEq, Repr

/-- R69: the aging step of a subject: the circuit's own, and 10 for a station or a trunk. -/
def tauOf (c : Setup) : Subject → Nat
  | .circuit k => (c.active.circuit k).tau
  | .station _ => 10
  | .trunk _ => 10

/-- R69: whole minutes since the incident opened. -/
def ageOf (c : Setup) (i : Incident) : Nat := (c.time - i.openedAt) / 60

/-- R69: the inputs read from the record, the active copy and the part time. -/
def urgencyInputs (c : Setup) (i : Incident) : UrgencyInputs :=
  let scales := c.active.scales.of c.period
  match i.subject with
  | .circuit k =>
    { weight := (c.active.circuit k).weight
      k := if i.members.isEmpty then 16 else ((i.worst.map Condition.weight).getD 16)
      n := i.members.length + i.unrecorded
      q := scales.of i.cls
      age := ageOf c i
      tau := (c.active.circuit k).tau
      rounds := i.rounds
      tripped := i.tripped }
  | .station n =>
    { weight := (c.active.station n).weight, k := 80, n := 1, q := scales.infra, age := ageOf c i, tau := 10
      rounds := i.rounds, tripped := false }
  | .trunk t =>
    { weight := c.active.params.trunkWeight, k := 120, n := occupied c.active t, q := scales.infra, age := ageOf c i
      tau := 10, rounds := i.rounds, tripped := false }

/-- R70 stage 1. -/
def spread (n : Nat) : Nat := if n = 0 then 0 else min 256 (6 * (n - 1))

/-- R70 stages 2 and 3. -/
def scaledValue (x : UrgencyInputs) : Nat := x.q * (x.weight + x.k + spread x.n) / 16

/-- R70 stage 4. -/
def ageTerm (age tau : Nat) : Nat := if tau = 0 then 0 else min 240 (8 * (age / tau))

/-- R70 stages 5 to 7. -/
def urgencyOf (x : UrgencyInputs) : Nat :=
  min 1023 (scaledValue x + ageTerm x.age x.tau + 64 * x.rounds + (if x.tripped then 96 else 0))

/-- The incident with the urgency computed from it as it stands (R70, R71). -/
def reweigh (c : Setup) (i : Incident) : Incident := { i with urgency := urgencyOf (urgencyInputs c i) }

/-- R75: the k-th aging boundary of an incident. -/
def boundaryAt (tau openedAt k : Nat) : Boundary := ⟨openedAt + 60 * tau * k, k⟩

/-- R75, R77: the schedule set from τ, after boundary `j`: boundary j + 1 if j is below 30 and τ is above 0, else none. -/
def boundaryAfter (tau openedAt j : Nat) : Option Boundary :=
  if tau = 0 ∨ 30 ≤ j then none else some (boundaryAt tau openedAt (j + 1))

/-- The aging schedule of an incident set to a boundary or to none. -/
def Board.setAging (i : IncidentId) (x : Option Boundary) (b : Board) : Board :=
  match x with
  | some y => { b with aging := b.aging.put i y }
  | none => { b with aging := b.aging.erase i }

end Sys2Proof.Machine
end

