-- ==== Sys2Proof/Machine/Incidents.lean ====
section
/-! DEFINITION. The incident table: every event on one incident ends in `Board.commit`, which writes the record with its
change number, keeps the pending queue, withdraws an offer, lowers an assigned count and queues the notice (R43 to R61,
R73, R83, R92, R94). -/

namespace Sys2Proof.Machine

/-! ## Pending queues (R74, R83) -/

/-- R74: whether incident i stands ahead of incident j: urgency, highest first; opened time, earliest first; index. -/
def ahead (b : Board) (i j : IncidentId) : Bool :=
  match b.incident i, b.incident j with
  | some x, some y =>
    if x.urgency ≠ y.urgency then decide (y.urgency < x.urgency)
    else if x.openedAt ≠ y.openedAt then decide (x.openedAt < y.openedAt)
    else decide (i < j)
  | _, _ => decide (i < j)

/-- An incident put into a queue in its place by R74. -/
def placeIn (b : Board) (i : IncidentId) : List IncidentId → List IncidentId
  | [] => [i]
  | j :: rest => if ahead b i j then i :: j :: rest else j :: placeIn b i rest

/-- R83: an incident leaves a group's queue. -/
def Board.leaveQueue (g : DeskId) (i : IncidentId) (b : Board) : Board :=
  { b with queues := b.queues.set g (b.queues[g].filter fun j => decide (j ≠ i)) }

/-- R83: an incident takes its place in a group's queue, on entering it or by a changed urgency; R85 runs the group for it,
so that the board counts it (log entry 43). -/
def Board.enterQueue (g : DeskId) (i : IncidentId) (b : Board) : Board :=
  { b with queues := b.queues.set g (placeIn b i b.queues[g]), stirs := b.stirs.set g (b.stirs[g] + 1) }

/-- The group and urgency by which an incident stands in a queue: none unless it is OPEN (R83). -/
def Incident.standing (i : Incident) : Option (DeskId × Nat) :=
  if i.state = .opened then some (i.group, i.urgency) else none

/-- R73, R83: the queues after an incident has changed from `old` to `new`; the record is already written. -/
def Board.requeue (i : IncidentId) (old : Option Incident) (new : Incident) (b : Board) : Board :=
  let before := old.bind Incident.standing
  let after := new.standing
  if before = after then b
  else
    let b := match before with
      | some (g, _) => b.leaveQueue g i
      | none => b
    match after with
    | some (g, _) => b.enterQueue g i
    | none => b

/-! ## One event on one incident -/

/-- Who makes the event: the incident table itself, the offer arbiter by a request (R59), or a command on the incident
from the desk that holds it or closes it (R61). -/
inductive Origin where
  | table | arbiter | command
deriving DecidableEq, Repr

/-- R60: the record written; the change number goes up by 1, wrapping, when a visible field has changed. -/
def Board.writeIncident (i : IncidentId) (new : Incident) (b : Board) : Board :=
  let r := b.record i
  if r.body = some new then b
  else { b with incidents := b.incidents.store {} i { change := (r.change + 1) % 65536, body := some new } }

/-- R92 steps 1, 2 and 4: the slot that holds the incident empties, the desk's last withdrawn offer becomes it, and a
WITHDRAWN notice goes to the desk. -/
def Board.withdrawFrom (i : IncidentId) (cause : WithdrawCause) (d : DeskId) (b : Board) : Board :=
  match b.desks[d].slot with
  | some o =>
    if o.incident = i then
      (b.updDesk d fun x => { x with slot := none, lastWithdrawn := some i }).notify d (.withdrawn i (b.change i) cause)
    else b
  | none => b

/-- R92: the offer of the incident withdrawn from whichever desk has it. -/
def Board.withdraw (i : IncidentId) (cause : WithdrawCause) (b : Board) : Board :=
  allDesks.foldl (fun b d => b.withdrawFrom i cause d) b

/-- R92: the cause of a withdrawal that the incident table makes, by what the incident has become. -/
def causeOf : IncidentState → WithdrawCause
  | .closed => .closed
  | .restored => .restored
  | _ => .rerouted

/-- R94: a desk's assigned count goes down by 1. -/
def Board.lowerCount (d : DeskId) (b : Board) : Board := b.updDesk d fun x => { x with assigned := x.assigned - 1 }

/-- R61: the notice an event of the incident table queues to the desk that holds the incident. -/
def holderNotice (i : IncidentId) (change : Nat) (before : Option Incident) (new : Incident) : Option Notice :=
  match new.state with
  | .closed => some (.closed i change)
  | .restored =>
    if (before.map (·.state)) = some .restored then some (.changed i change) else some (.restored i change)
  | .assigned => some (.changed i change)
  | _ => none

/-- One event on the incident at index `i`, which is `new` after it.  In order: the record and its change number (R60);
the pending queues (R73, R83); at closing, the aging schedule (R75) and the holder's assigned count (R55, R94); an offer
that the event takes away (R92); the notice to the holder (R61). -/
def Board.commit (o : Origin) (i : IncidentId) (new : Incident) (b : Board) : Board :=
  let old := b.incident i
  if old = some new then b
  else
    let b := (b.writeIncident i new).requeue i old new
    let closing := new.state = .closed ∧ (old.map (·.state)) ≠ some .closed
    let b := if closing then b.setAging i none else b
    let b := if closing then (match new.assigned with
      | some d => b.lowerCount d
      | none => b) else b
    if o = .table then
      let b := if (old.map (·.state)) = some .offered ∧ new.state ≠ .offered then b.withdraw i (causeOf new.state) else b
      match new.assigned, holderNotice i (b.change i) old new with
      | some d, some n => b.notify d n
      | _, _ => b
    else b

/-! ## Opening (R44, R45) -/

/-- R44: the subject's incident that is neither CLOSED nor FREE. -/
def Board.liveOf (x : Subject) (b : Board) : Option (IncidentId × Incident) :=
  b.incidents.entries.findSome? fun e =>
    match e.2.body with
    | some i => if i.subject = x ∧ i.live then some (e.1, i) else none
    | none => none

/-- R45: the lowest FREE index. -/
def Board.lowestFree (b : Board) : Option IncidentId := (fins 640).find? fun i => (b.incident i).isNone

/-- R45: of two CLOSED records, the one with the older closed-at; the lower index on a tie. -/
def olderClosed (best : Option (IncidentId × Nat)) (e : IncidentId × IncidentRecord) : Option (IncidentId × Nat) :=
  match e.2.body with
  | some i =>
    if i.state = .closed then
      match best with
      | some (_, t) => if i.closedAt.getD 0 < t then some (e.1, i.closedAt.getD 0) else best
      | none => some (e.1, i.closedAt.getD 0)
    else best
  | none => best

/-- R45: the record a new incident takes.  R44 shows that there always is one. -/
def Board.freshRecord (b : Board) : Option IncidentId :=
  match b.lowestFree with
  | some i => some i
  | none => (b.incidents.entries.foldl olderClosed none).map (·.1)

/-- A group number of the settings as a desk; ADOPT keeps it within 0 to 5 (R16, R19). -/
def groupOf (x : Nat) : DeskId := (finOf 6 x).getD 5

/-- R45: the home group of a subject, in one copy of the settings. -/
def homeGroup (x : Settings) (s : Subject) (tripped : Bool) : DeskId :=
  match s with
  | .circuit c =>
    match tripped, (x.circuit c).alternate with
    | true, some a => groupOf a
    | _, _ => groupOf (x.circuit c).group
  | .station n => groupOf (x.circuit (circuitFor x (x.station n).first)).group
  | .trunk _ => 0

/-- R45: the fields of a new incident. -/
def newIncident (c : Setup) (x : Subject) (cls : Cls) (worst : Option Condition) : Incident :=
  { subject := x, state := .opened, cls, group := homeGroup c.active x false, assigned := none, members := []
    unrecorded := 0, worst, tripped := false, rounds := 0, declined := 0, urgency := 0, openedAt := c.time
    restoredAt := none, closeDelay := none, closedAt := none, tag := none }

/-- R45, R75: an incident opened at an index, with its aging schedule. -/
def Board.openAt (c : Setup) (i : IncidentId) (new : Incident) (b : Board) : Board :=
  (b.commit .table i new).setAging i (boundaryAfter (tauOf c new.subject) new.openedAt 0)

/-! ## Members, worst condition and class (R47, R50) -/

/-- R47: a joining member stands after every member whose confirmed at time is equal to or earlier than its own. -/
def insertMember (m : Member) : List Member → List Member
  | [] => [m]
  | x :: rest => if x.confirmedAt ≤ m.confirmedAt then x :: insertMember m rest else m :: x :: rest

/-- R50: the member that gives the worst condition: the earliest of those with the highest condition weight. -/
def worstMember : List Member → Option Member
  | [] => none
  | m :: rest =>
    match worstMember rest with
    | some w => if m.condition.weight < w.condition.weight then some w else some m
    | none => some m

/-- R50: the worst condition and class worked out again; with no members, none and the class it last had. -/
def recount (i : Incident) : Incident :=
  match worstMember i.members with
  | some w => { i with worst := some w.condition, cls := w.kind.cls }
  | none => { i with worst := none }

/-! ## State changes of one incident (R54 to R58) -/

/-- R58: the desk group changes: the decline set is cleared, the rounds are kept, and an OFFERED incident is OPEN. -/
def moveGroup (g : DeskId) (i : Incident) : Incident :=
  { i with group := g, declined := 0, state := if i.state = .offered then .opened else i.state }

/-- R57: the trip check after a join or an unrecorded +1, and the move to the alternate group. -/
def checkTrip (c : Setup) (k : CircuitId) (i : Incident) : Incident :=
  let x := c.active.circuit k
  if x.trip ≠ 0 ∧ i.tripped = false ∧ x.trip ≤ i.members.length + i.unrecorded then
    let i := { i with tripped := true }
    match x.alternate with
    | some a => if groupOf a ≠ i.group then moveGroup (groupOf a) i else i
    | none => i
  else i

/-- R56: a RESTORED incident reopened; any other incident as it is. -/
def reopen (i : Incident) : Incident :=
  if i.state = .restored then
    { i with closeDelay := none, restoredAt := none, state := if i.assigned.isSome then .assigned else .opened }
  else i

/-- R55: the incident closed. -/
def closeNow (c : Setup) (i : Incident) : Incident :=
  { i with state := .closed, closedAt := some c.time, closeDelay := none }

/-- R54: the incident RESTORED with its close delay running, and closed in the same event if the delay is 0. -/
def restoreNow (c : Setup) (i : Incident) : Incident :=
  let delay := c.active.params.closeDelay
  let i := reweigh c { i with
    state := .restored, restoredAt := some c.time, closeDelay := some (c.time + delay) }
  if delay = 0 then closeNow c i else i

/-! ## The fault table's handoffs (R31, R46 to R51) -/

/-- R46: what a join makes of the circuit's incident. -/
def joined (c : Setup) (k : CircuitId) (m : Member) (i : Incident) : Incident :=
  let i := reopen i
  reweigh c (checkTrip c k (recount { i with members := insertMember m i.members }))

/-- R46: a join, answered with the index of the incident. -/
def Board.join (c : Setup) (k : CircuitId) (m : Member) (b : Board) : Option IncidentId × Board :=
  match b.liveOf (.circuit k) with
  | some (i, x) => (some i, b.commit .table i (joined c k m x))
  | none =>
    match b.freshRecord with
    | some i => (some i, b.openAt c i (joined c k m (newIncident c (.circuit k) m.kind.cls none)))
    | none => (none, b)

/-- R48: what a leave makes of an incident. -/
def left (c : Setup) (asset : Nat) (i : Incident) : Incident :=
  let i := { i with members := i.members.filter fun m => decide (m.asset ≠ asset) }
  if i.isCircuit && i.atFault && !i.hasFaults then restoreNow c (recount i) else reweigh c (recount i)

/-- R48: a leave. -/
def Board.leave (c : Setup) (asset : Nat) (i : IncidentId) (b : Board) : Board :=
  match b.incident i with
  | some x => b.commit .table i (left c asset x)
  | none => b

/-- One member changed. -/
def updMember (asset : Nat) (g : Member → Member) (i : Incident) : Incident :=
  { i with members := i.members.map fun m => if m.asset = asset then g m else m }

/-- R49: what a condition change makes of an incident. -/
def conditionChanged (c : Setup) (asset : Nat) (x : Condition) (i : Incident) : Incident :=
  let j := recount (updMember asset (fun m => { m with condition := x }) i)
  if j.worst = i.worst ∧ j.cls = i.cls then j else reweigh c j

/-- R49: a condition change. -/
def Board.changeCondition (c : Setup) (asset : Nat) (x : Condition) (i : IncidentId) (b : Board) : Board :=
  match b.incident i with
  | some y => b.commit .table i (conditionChanged c asset x y)
  | none => b

/-- R49: a member mark change. -/
def Board.changeMarks (asset : Nat) (stale underOp : Bool) (i : IncidentId) (b : Board) : Board :=
  match b.incident i with
  | some y => b.commit .table i (updMember asset (fun m => { m with stale, underOp }) y)
  | none => b

/-- R51: what an unrecorded +1 makes of the circuit's incident; at the saturated count, nothing. -/
def counted (c : Setup) (k : CircuitId) (i : Incident) : Incident :=
  if 65535 ≤ i.unrecorded then i
  else
    let i := reopen i
    reweigh c (checkTrip c k { i with unrecorded := i.unrecorded + 1 })

/-- R51: an unrecorded +1. -/
def Board.countUp (c : Setup) (k : CircuitId) (kind : Kind) (b : Board) : Board :=
  match b.liveOf (.circuit k) with
  | some (i, x) => b.commit .table i (counted c k x)
  | none =>
    match b.freshRecord with
    | some i => b.openAt c i (counted c k (newIncident c (.circuit k) kind.cls none))
    | none => b

/-- R51: what an unrecorded -1 makes of the circuit's incident. -/
def uncounted (c : Setup) (i : Incident) : Incident :=
  if i.atFault && decide (0 < i.unrecorded) then
    let i := { i with unrecorded := i.unrecorded - 1 }
    if i.hasFaults then reweigh c i else restoreNow c i
  else i

/-- R51: an unrecorded -1. -/
def Board.countDown (c : Setup) (k : CircuitId) (b : Board) : Board :=
  match b.liveOf (.circuit k) with
  | some (i, x) => b.commit .table i (uncounted c x)
  | none => b

/-! ## Station and trunk incidents (R52, R53) -/

/-- R52, R53: the subject is at fault: its incident is opened, or reopened if it is RESTORED; any other is kept. -/
def Board.faultOf (c : Setup) (x : Subject) (worst : Condition) (b : Board) : Board :=
  match b.liveOf x with
  | some (i, y) => if y.state = .restored then b.commit .table i (reweigh c (reopen y)) else b
  | none =>
    match b.freshRecord with
    | some i => b.openAt c i (reweigh c (newIncident c x .infra (some worst)))
    | none => b

/-- R52, R53: the subject is no longer at fault: its incident, if OPEN, OFFERED or ASSIGNED, becomes RESTORED. -/
def Board.restoreOf (c : Setup) (x : Subject) (b : Board) : Board :=
  match b.liveOf x with
  | some (i, y) => if y.atFault then b.commit .table i (restoreNow c y) else b
  | none => b

/-- R72: the urgency unit computes one live incident on its own account. -/
def Board.recompute (c : Setup) (b : Board) (i : IncidentId) : Board :=
  match b.incident i with
  | some y => if y.live then b.commit .table i (reweigh c y) else b
  | none => b

/-- The incidents that the table lists, by rising index. -/
def Board.allIncidents (b : Board) : List IncidentId := b.incidents.keys

end Sys2Proof.Machine
end

