-- ==== Sys2Proof/Machine/Offers.lean ====
section
/-! DEFINITION. The offer arbiter: offers, runs, answers, withdrawals, releases and duty (R80 to R101). -/

namespace Sys2Proof.Machine

/-! ## Runs (R84 to R86) -/

/-- R82: the first incident of a group's queue, in queue order, that is offerable to a desk. -/
def offerableTo (b : Board) (g d : DeskId) : Option (IncidentId × Incident) :=
  (b.queues[g]).findSome? fun i =>
    match b.incident i with
    | some x => if inSet d x.declined then none else some (i, x)
    | none => none

/-- R84: the desks of a group in round-robin order: from the desk after the pointer, wrapping, to the pointer desk. -/
def roundRobin (x : Settings) (b : Board) (g : DeskId) : List DeskId :=
  let ds := groupDesks x g
  let p := b.pointers[g]
  (ds.filter fun d => decide (p < d)) ++ (ds.filter fun d => decide (d ≤ p))

/-- R84: the offer that the next step of a run makes: the first desk that is eligible and has an offerable incident. -/
def nextOffer (x : Settings) (b : Board) (g : DeskId) : Option (DeskId × IncidentId × Incident) :=
  (roundRobin x b g).findSome? fun d =>
    if eligible x b d then (offerableTo b g d).map fun p => (d, p.1, p.2) else none

/-- R86: an offer of incident i to desk d from group g. -/
def Board.makeOffer (c : Setup) (g d : DeskId) (i : IncidentId) (x : Incident) (b : Board) : Board :=
  let deadline := c.time + b.timeouts[g]
  let b := b.commit .arbiter i { x with state := .offered }
  let b := b.updDesk d fun y => { y with slot := some ⟨i, deadline⟩ }
  let b := { b with pointers := b.pointers.set g d }
  b.notify d (.offer i (b.change i) x.urgency deadline)

/-- R84: the steps of a run.  Each offer fills a slot, so that a run makes at most one offer to each of the six desks. -/
def runSteps (c : Setup) (g : DeskId) : (fuel : Nat) → Board → Board
  | 0, b => b
  | fuel + 1, b =>
    match nextOffer c.active b g with
    | some (d, i, x) => runSteps c g fuel (b.makeOffer c g d i x)
    | none => b

/-- R84: a run of a group. -/
def Board.run (c : Setup) (g : DeskId) (b : Board) : Board := runSteps c g 6 b

/-! ## When a group runs (R85) -/

/-- R85: between the two boards an incident has entered the group's queue, or an OPEN incident of it has had its urgency
changed, whether or not the queue shows it at the end. -/
def queueStirred (before after : Board) (g : DeskId) : Bool := decide (before.stirs[g] < after.stirs[g])

/-- R85: the desk's slot has emptied, its assigned count has gone down, its duty has become ON, or its unresponsive flag
has cleared.  Only an offer fills a slot, and only a run makes one, so that no event takes these back before its runs. -/
def deskFreed (before after : Board) (d : DeskId) : Bool :=
  let x := before.desks[d]
  let y := after.desks[d]
  (x.slot.isSome && y.slot.isNone) || decide (y.assigned < x.assigned) || (y.onDuty && !x.onDuty) ||
    (x.unresponsive && !y.unresponsive)

/-- R85: whether the event that led from `before` to `after` runs the group. -/
def runDue (c : Setup) (before after : Board) (g : DeskId) : Bool :=
  startsGroup c.active g &&
    (queueStirred before after g || (groupDesks c.active g).any fun d => deskFreed before after d)

/-- R85: at the end of an event, once its other effects are made, the arbiter runs each group the event calls for. -/
def Board.runsAfter (c : Setup) (before after : Board) : Board :=
  (allDesks.filter fun g => runDue c before after g).foldl (fun b g => b.run c g) after

/-- R85, R101 step 3: every group run, as the last effect of an adoption. -/
def Board.runAll (c : Setup) (b : Board) : Board :=
  (allDesks.filter fun g => startsGroup c.active g).foldl (fun b g => b.run c g) b

/-! ## Answers and expiries (R87 to R90) -/

/-- The slot of a desk empties (R87, R88, R89). -/
def Board.emptySlot (d : DeskId) (b : Board) : Board := b.updDesk d fun x => { x with slot := none }

/-- R87: the incident accepted by the desk. -/
def Board.acceptOffer (d : DeskId) (i : IncidentId) (b : Board) : Board :=
  match b.incident i with
  | some x =>
    ((b.commit .arbiter i { x with state := .assigned, assigned := some d }).emptySlot d).updDesk d
      fun y => { y with assigned := y.assigned + 1 }
  | none => b

/-- R88, R90: what a decline by a desk makes of an incident: OPEN, the desk in its decline set, and where the set then
holds every desk of its group, the set cleared and the rounds up by 1 to at most 3. -/
def declinedBy (c : Setup) (d : DeskId) (i : Incident) : Incident :=
  let i := { i with state := .opened, declined := i.declined ||| deskBit d }
  if roundComplete c.active (groupStart c.active i.group) i.declined then
    if i.rounds < 3 then reweigh c { i with declined := 0, rounds := i.rounds + 1 } else { i with declined := 0 }
  else i

/-- R88: the offer declined: the slot empties and the incident goes back to its queue. -/
def Board.declineOffer (c : Setup) (d : DeskId) (i : IncidentId) (b : Board) : Board :=
  match b.incident i with
  | some x => (b.emptySlot d).commit .arbiter i (declinedBy c d x)
  | none => b.emptySlot d

/-- R89: the offer expired: as a decline, and the desk unresponsive with the incident its last withdrawn offer. -/
def Board.expireOffer (c : Setup) (d : DeskId) (i : IncidentId) (b : Board) : Board :=
  let b := (b.declineOffer c d i).updDesk d fun y => { y with unresponsive := true, lastWithdrawn := some i }
  b.notify d (.withdrawn i (b.change i) .expired)

/-- R92: the desk's offer withdrawn by the arbiter: the incident returns to OPEN with its decline set untouched, and a
WITHDRAWN notice is queued where a cause is given. -/
def Board.withdrawSlot (cause : Option WithdrawCause) (d : DeskId) (b : Board) : Board :=
  match b.desks[d].slot with
  | some o =>
    let b := b.updDesk d fun x => { x with slot := none, lastWithdrawn := some o.incident }
    let b := match b.incident o.incident with
      | some x => b.commit .arbiter o.incident { x with state := .opened }
      | none => b
    match cause with
    | some k => b.notify d (.withdrawn o.incident (b.change o.incident) k)
    | none => b
  | none => b

/-! ## Holding and giving up (R94 to R96, R98, R100) -/

/-- R95: a held incident given up: an ASSIGNED one goes to OPEN, a RESTORED one loses its assigned desk. -/
def released (i : Incident) : Incident :=
  if i.state = .assigned then { i with state := .opened, assigned := none } else { i with assigned := none }

/-- R95: one incident released by its desk. -/
def Board.releaseOne (d : DeskId) (b : Board) (i : IncidentId) : Board :=
  match b.incident i with
  | some x => (b.commit .arbiter i (released x)).lowerCount d
  | none => b

/-- R96: one incident handed over to a group. -/
def Board.handOver (d g : DeskId) (i : IncidentId) (b : Board) : Board :=
  match b.incident i with
  | some x =>
    (b.commit .arbiter i { x with state := .opened, assigned := none, group := g, declined := 0 }).lowerCount d
  | none => b

/-- The incidents a desk holds, by rising index: ASSIGNED or RESTORED with this assigned desk (R94). -/
def Board.heldBy (d : DeskId) (b : Board) : List IncidentId :=
  b.allIncidents.filter fun i =>
    match b.incident i with
    | some x => decide (x.assigned = some d ∧ (x.state = .assigned ∨ x.state = .restored))
    | none => false

/-- R98 step 2: the desk's incidents released in ascending order of index; its assigned count becomes 0. -/
def Board.releaseAll (d : DeskId) (b : Board) : Board :=
  ((b.heldBy d).foldl (fun b i => b.releaseOne d i) b).updDesk d fun x => { x with assigned := 0 }

/-- R100: the absence timer runs out while the link is DOWN: the desk's incidents are released and a RELEASED notice is
made for each. -/
def Board.expireAbsence (d : DeskId) (b : Board) : Board :=
  let held := b.heldBy d
  let b := (b.releaseAll d).updDesk d fun x => { x with absence := none }
  held.foldl (fun b i => b.notify d (.released i (b.change i))) b

/-- R99: the arbiter's answer to a link going DOWN. -/
def Board.linkLost (c : Setup) (d : DeskId) (b : Board) : Board :=
  let b := (b.updDesk d fun x => { x with onDuty := false }).withdrawSlot none d
  let grace := c.active.params.absenceGrace
  let b := b.updDesk d fun x => { x with absence := some (c.time + grace) }
  if grace = 0 then b.expireAbsence d else b

/-- R98: the desk taken off duty; answers the number of incidents released. -/
def Board.signOff (d : DeskId) (all : Bool) (b : Board) : Nat × Board :=
  let b := b.withdrawSlot (some .signedOff) d
  let n := if all then (b.heldBy d).length else 0
  let b := if all then b.releaseAll d else b
  (n, b.updDesk d fun x => { x with onDuty := false })

/-! ## Adoption (R101) -/

/-- R101 step 1: the offer timeouts and pointers of the groups of the new active copy. -/
def Board.formGroups (c : Setup) (b : Board) : Board :=
  allDesks.foldl (fun b g =>
    if startsGroup c.active g then
      { b with timeouts := b.timeouts.set g (c.active.desks[g]).timeout, pointers := b.pointers.set g g }
    else b) b

/-- R101 step 2: the offers whose desk is no longer in the incident's group withdrawn, with cause REROUTED. -/
def Board.withdrawStrays (c : Setup) (b : Board) : Board :=
  allDesks.foldl (fun b d =>
    match b.desks[d].slot with
    | some o =>
      match b.incident o.incident with
      | some x => if inGroup c.active x.group d then b else b.withdrawSlot (some .rerouted) d
      | none => b
    | none => b) b

end Sys2Proof.Machine
end

