-- ==== Sys2Proof/Machine/Reports.lean ====
section
/-! DEFINITION. The fault table: taking a report, confirmation and removal, the handoffs to the incident table, marks,
freezing, operation outcomes and adoption (R21 to R40). -/

namespace Sys2Proof.Machine

/-! ## Handoffs (R31) -/

/-- The member that a fault record joins as (R46): its under-operation flag comes from the mark set. -/
def memberOf (f : Faults) (r : FaultRecord) : Member :=
  { asset := r.asset, kind := r.kind, condition := r.condition, confirmedAt := r.confirmedAt.getD r.firstSeen
    stale := r.stale, underOp := f.marked r.asset }

/-- R25, R31: a record joins its circuit's incident and takes the index answered. -/
def State.joinRecord (r : FaultRecord) (s : State) : State :=
  let a := s.board.join s.setup r.circuit (memberOf s.faults r)
  { s with board := a.2, faults := s.faults.write { r with incident := a.1 } }

/-- R31: a member leaves its incident; a record that is no member makes no handoff. -/
def State.leaveRecord (r : FaultRecord) (s : State) : State :=
  match r.incident with
  | some i => s.onBoard fun c b => b.leave c r.asset i
  | none => s

/-- R31: a condition change of a member. -/
def State.conditionHandoff (r : FaultRecord) (s : State) : State :=
  match r.incident with
  | some i => s.onBoard fun c b => b.changeCondition c r.asset r.condition i
  | none => s

/-- R31: a mark change of a member. -/
def State.marksHandoff (r : FaultRecord) (s : State) : State :=
  match r.incident with
  | some i => s.onBoard fun _ b => b.changeMarks r.asset r.stale r.underOp i
  | none => s

/-- A record written. -/
def State.writeRecord (r : FaultRecord) (s : State) : State := s.onFaults (Faults.write r)

/-- R27, R28: a CONFIRMED or RESTORING record removed, handing a leave. -/
def State.removeAndLeave (r : FaultRecord) (s : State) : State :=
  (s.onFaults (Faults.remove r.asset)).leaveRecord r

/-- R25: a record confirmed: CONFIRMED now, no state timer, and it joins its incident. -/
def State.confirmRecord (r : FaultRecord) (s : State) : State :=
  s.joinRecord { r with state := .confirmed, confirmedAt := some s.setup.time, timer := .none }

/-- R27: a CONFIRMED record of an asset that is OK: RESTORING with its restore hold, or removed if the hold is 0. -/
def State.beginRestore (r : FaultRecord) (s : State) : State :=
  let hold := s.setup.active.params.restoreHold
  if hold = 0 then s.removeAndLeave r
  else s.writeRecord { r with state := .restoring, timer := .running .restoreHold (s.setup.time + hold) }

/-! ## Taking a report (R22 to R33) -/

/-- A classified report (R6); `fold` is its outcome, FOLD or NORMAL. -/
structure Report where
  asset     : Nat
  station   : StationId
  kind      : Kind
  condition : Condition
  repeated  : Bool
  circuit   : CircuitId
  fold      : Bool
deriving DecidableEq, Repr

/-- R32, R33: a report counted in place of a record: a fault +1, an OK -1; a repeat is ignored. -/
def State.countReport (r : Report) (s : State) : State :=
  if r.repeated then s
  else if r.condition = .ok then s.onBoard fun c b => b.countDown c r.circuit
  else s.onBoard fun c b => b.countUp c r.circuit r.kind

/-- R23: the record that a fault report creates. -/
def newRecord (s : State) (r : Report) : FaultRecord :=
  let window := s.setup.active.params.confirmWindow
  { asset := r.asset, station := r.station, circuit := r.circuit, kind := r.kind, condition := r.condition
    state := .suspect, confirms := 1, flips := 0, firstSeen := s.setup.time, confirmedAt := none
    lastReport := s.setup.time, reports := 1
    timer := if window = 0 then .none else .running .confirmWindow (s.setup.time + window)
    stale := (s.station r.station).unheard, underOp := s.faults.marked r.asset, incident := none }

/-- R24, R25: a SUSPECT record confirmed if its count has reached the threshold of its kind, else kept. -/
def State.settleSuspect (r : FaultRecord) (s : State) : State :=
  if s.setup.active.params.threshold r.kind ≤ r.confirms then s.confirmRecord r else s.writeRecord r

/-- R23, R27, R32: a report for an asset without a record. -/
def State.reportOnNone (r : Report) (s : State) : State :=
  if r.condition ≠ .ok ∧ r.repeated = false ∧ s.faults.records.length < faultCapacity then
    s.settleSuspect (newRecord s r)
  else s.countReport r

/-- R22: the bookkeeping of every report a record takes. -/
def booked (time : Nat) (r : FaultRecord) : FaultRecord :=
  { r with lastReport := time, reports := saturate 255 r.reports }

/-- R24: a fault report for a SUSPECT record; a repeat does not change its condition. -/
def suspectFault (r : Report) (x : FaultRecord) : FaultRecord :=
  { x with confirms := saturate 15 x.confirms, condition := if r.repeated then x.condition else r.condition }

/-- R26, R30: the condition a record takes from a report: the reported one, but CYCLING is kept until removal. -/
def takenCondition (x : FaultRecord) (c : Condition) : Condition := if x.condition = .cycling then .cycling else c

/-- R29, R30: a fault report for a RESTORING record: CONFIRMED, a flip counted, and at three flips a LAMP is CYCLING. -/
def restoringFault (c : Condition) (x : FaultRecord) : FaultRecord :=
  let flips := saturate 3 x.flips
  { x with
    state := .confirmed, timer := .none, flips
    condition := if x.kind = .lamp ∧ flips = 3 then .cycling else takenCondition x c }

/-- A record written with its condition change, if its condition has changed (R26, R29). -/
def State.writeWithChange (before after : FaultRecord) (s : State) : State :=
  let s := s.writeRecord after
  if after.condition = before.condition then s else s.conditionHandoff after

/-- R27: the transient counter of a station goes up by 1. -/
def State.countTransient (n : StationId) (s : State) : State :=
  s.updStation n fun x => { x with transients := saturate 65535 x.transients }

/-- R27: a SUSPECT record of an asset that is OK: removed as a transient. -/
def State.removeTransient (x : FaultRecord) (s : State) : State :=
  (s.onFaults (Faults.remove x.asset)).countTransient x.station

/-- R24 to R30: a report for an asset with a record. -/
def State.reportOnRecord (r : Report) (x : FaultRecord) (s : State) : State :=
  let x := booked s.setup.time x
  match x.state, decide (r.condition = .ok) with
  | .suspect, false => s.settleSuspect (suspectFault r x)
  | .suspect, true => s.removeTransient x
  | .confirmed, false => s.writeWithChange x { x with condition := takenCondition x r.condition }
  | .confirmed, true => s.beginRestore x
  | .restoring, false => s.writeWithChange x (restoringFault r.condition x)
  | .restoring, true => s.writeRecord x

/-- R22, R33: a classified report that the mark set has not dropped. -/
def State.applyReport (r : Report) (s : State) : State :=
  let s := s.updStation r.station fun x => { x with applied := saturate 65535 x.applied }
  if r.fold then s.countReport r
  else
    match s.faults.find r.asset with
    | none => s.reportOnNone r
    | some x => s.reportOnRecord r x

/-- R22, R35: a classified report; one for a marked asset is dropped and counted. -/
def State.takeReport (r : Report) (s : State) : State :=
  if s.faults.marked r.asset then s.onFaults fun f => { f with dropped := saturate 65535 f.dropped }
  else s.applyReport r

/-! ## Timers (R25, R28, R37) -/

/-- R25, R28: the state timer of a record runs out. -/
def State.timerExpires (r : FaultRecord) (s : State) : State :=
  match r.state with
  | .suspect => s.confirmRecord r
  | .restoring => s.removeAndLeave r
  | .confirmed => s

/-- R37: a running timer suspended with its remaining time. -/
def StateTimer.suspend (time : Nat) : StateTimer → StateTimer
  | .running k deadline => .suspended k (deadline - time)
  | x => x

/-- R37: a suspended timer running again. -/
def StateTimer.resume (time : Nat) : StateTimer → StateTimer
  | .suspended k remaining => .running k (time + remaining)
  | x => x

/-- The assets of the records of a station, rising. -/
def Faults.assetsOf (n : StationId) (f : Faults) : List Nat :=
  (f.records.filter fun r => decide (r.station = n)).map (·.asset)

/-- An operation on each record of a station, by rising asset number (log entry 10). -/
def State.eachRecord (n : StationId) (g : FaultRecord → State → State) (s : State) : State :=
  (s.faults.assetsOf n).foldl (fun s a =>
    match s.faults.find a with
    | some r => g r s
    | none => s) s

/-- R37: the state timers of a station's records suspended. -/
def State.suspendTimers (n : StationId) (s : State) : State :=
  s.eachRecord n fun r s => s.writeRecord { r with timer := r.timer.suspend s.setup.time }

/-- R37: one suspended timer resumed; with 0 remaining it expires in this event. -/
def State.resumeTimer (r : FaultRecord) (s : State) : State :=
  match r.timer with
  | .suspended _ 0 => s.timerExpires r
  | _ => s.writeRecord { r with timer := r.timer.resume s.setup.time }

/-- R37: the suspended timers of a station's records resumed. -/
def State.resumeTimers (n : StationId) (s : State) : State := s.eachRecord n State.resumeTimer

/-! ## Marks (R34, R35) -/

/-- R34: the stale flag of every record of a station, with a mark change for each member whose flag changes. -/
def State.setStale (n : StationId) (stale : Bool) (s : State) : State :=
  s.eachRecord n fun r s =>
    if r.stale = stale then s
    else (s.writeRecord { r with stale }).marksHandoff { r with stale }

/-- R35: the under-operation flag of an asset's record follows the mark set. -/
def State.syncUnderOp (asset : Nat) (s : State) : State :=
  match s.faults.find asset with
  | some r =>
    let underOp := s.faults.marked asset
    if r.underOp = underOp then s
    else (s.writeRecord { r with underOp }).marksHandoff { r with underOp }
  | none => s

/-- R35: an asset joins the mark set. -/
def State.markAsset (asset : Nat) (s : State) : State := (s.onFaults (Faults.mark asset)).syncUnderOp asset

/-- R35: an asset leaves the mark set. -/
def State.unmarkAsset (asset : Nat) (s : State) : State := (s.onFaults (Faults.unmark asset)).syncUnderOp asset

/-! ## Operation outcomes (R36) -/

/-- The acts by which an operation's outcome reaches the fault table (R36). -/
inductive OutcomeAct where
  | none
  | report (c : Condition)
  | lockRemedy
  | equipment (c : Condition)
deriving DecidableEq, Repr

/-- R36: the lock remedy: a CONFIRMED DRIFT record takes an OK, a SUSPECT DRIFT record is removed. -/
def State.lockRemedy (asset : Nat) (s : State) : State :=
  match s.faults.find asset with
  | some r =>
    if r.condition = .drift then
      match r.state with
      | .confirmed => s.beginRestore r
      | .suspect => s.onFaults (Faults.remove asset)
      | .restoring => s
    else s
  | none => s

/-- R36: the record that an equipment check creates, CONFIRMED when it joins. -/
def equipmentRecord (s : State) (n : StationId) (k : Kind) (asset : Nat) (circuit : CircuitId) (c : Condition) :
    FaultRecord :=
  { asset, station := n, circuit, kind := k, condition := c, state := .confirmed
    confirms := s.setup.active.params.threshold k, flips := 0, firstSeen := s.setup.time
    confirmedAt := some s.setup.time, lastReport := s.setup.time, reports := 1, timer := .none
    stale := (s.station n).unheard, underOp := s.faults.marked asset, incident := none }

/-- R36: an equipment check, which writes a condition CONFIRMED without confirmation. -/
def State.equipmentCheck (n : StationId) (k : Kind) (asset : Nat) (circuit : CircuitId) (fold : Bool) (c : Condition)
    (s : State) : State :=
  match s.faults.find asset with
  | some r =>
    match r.state with
    | .suspect => s.confirmRecord { r with condition := c }
    | .confirmed => s.writeWithChange r { r with condition := c }
    | .restoring => s.writeWithChange r { r with condition := c, state := .confirmed, timer := .none }
  | none =>
    if fold = true ∨ faultCapacity ≤ s.faults.records.length then s.onBoard fun x b => b.countUp x circuit k
    else s.joinRecord (equipmentRecord s n k asset circuit c)

/-- R36: an outcome applied, whatever the asset's mark; one whose asset classifies INVALID is discarded and recorded. -/
def State.applyOutcome (n : StationId) (k : Kind) (asset : Nat) (a : OutcomeAct) (s : State) : State :=
  let circuit := circuitFor s.setup.active asset
  let found := (s.setup.active.circuit circuit).outcome
  match a with
  | .none => s
  | a =>
    if found = .invalid then
      s.recordError (.trunk .invalidCircuit) (.position (stationTrunk n) (labelOf n))
    else
      match a with
      | .none => s
      | .report c =>
        s.applyReport { asset, station := n, kind := k, condition := c, repeated := false, circuit, fold := found = .fold }
      | .lockRemedy => s.lockRemedy asset
      | .equipment c => s.equipmentCheck n k asset circuit (found = .fold) c

/-! ## Adoption and CLOSE with FORGET (R38, R40) -/

/-- R38 step 1: the owning station no longer owns the asset, or expects another kind. -/
def ownerLost (r : FaultRecord) (x : Roster) : Bool := x.vacant || !x.owns r.asset || decide (x.kind ≠ some r.kind)

/-- R38: a record removed at adoption; a member hands a leave. -/
def State.dropRecord (r : FaultRecord) (s : State) : State :=
  if r.state = .suspect then s.onFaults (Faults.remove r.asset) else s.removeAndLeave r

/-- R38 step 3: the new threshold applied to a SUSPECT record. -/
def State.thresholdAtAdoption (r : FaultRecord) (s : State) : State :=
  if r.state = .suspect then s.settleSuspect r else s.writeRecord r

/-- R38: one record re-examined against the new active copy. -/
def State.reexamine (r : FaultRecord) (s : State) : State :=
  if ownerLost r (s.roster r.station) then s.dropRecord r
  else
    let circuit := circuitFor s.setup.active r.asset
    match (s.setup.active.circuit circuit).outcome with
    | .invalid =>
      (s.dropRecord r).recordError (.trunk .invalidCircuit) (.position (stationTrunk r.station) (labelOf r.station))
    | .fold =>
      let s := s.dropRecord r
      if r.state = .confirmed then s.onBoard fun c b => b.countUp c circuit r.kind else s
    | .normal =>
      if circuit = r.circuit then s.thresholdAtAdoption r
      else if r.state = .suspect then s.thresholdAtAdoption { r with circuit }
      else (s.leaveRecord r).joinRecord { r with circuit }

/-- R38: every record re-examined, in ascending order of asset number. -/
def State.reexamineAll (s : State) : State :=
  (s.faults.records.map (·.asset)).foldl (fun s a =>
    match s.faults.find a with
    | some r => s.reexamine r
    | none => s) s

/-- R40: the records of a member list removed, without leaves. -/
def Faults.forget (members : List Member) (f : Faults) : Faults :=
  members.foldl (fun f m => f.remove m.asset) f

end Sys2Proof.Machine
end

