-- ==== Sys2Proof/Machine/Engine.lean ====
section
/-! DEFINITION. The operations engine's records: taking one, ending one, and the desk its OP-DONE goes to
(R157, R158, R168, R169, R171, R172). -/

namespace Sys2Proof.Machine

/-- R157: the first free record after the index last allocated, in ascending order, wrapping from 31 to 0. -/
def Field.freeOpIndex (f : Field) : Option OpId :=
  ((fins 32).filter (fun o => decide (f.lastOp < o)) ++ (fins 32).filter fun o => decide (o ≤ f.lastOp)).find?
    fun o => (f.ops.find o).isNone

/-- R171: the desk an OP-DONE goes to: the requesting desk if its link is UP, otherwise the assigned desk of the incident
named by the asset's record, if that incident is ASSIGNED or RESTORED. -/
def opDoneDesk (s : State) (x : Op) : Option DeskId :=
  if (s.board.links[x.desk]).up then some x.desk
  else
    match (s.faults.find x.asset).bind (·.incident) with
    | some i =>
      match s.board.incident i with
      | some y => if y.state = .assigned ∨ y.state = .restored then y.assigned else none
      | none => none
    | none => none

/-- R168 step 2: on an end other than DONE, an ABORT-OP handed to the station's trunk; a trunk that is not RUNNING or is
full refuses it. -/
def State.sendAbortOp (o : OpId) (x : Op) (s : State) : State :=
  s.hand (stationTrunk x.station) (toStation x.station (.abortOp o x.asset))

/-- R168 step 3: the asset of a CYCLE or SWEEP leaves the mark set. -/
def State.releaseMark (x : Op) (s : State) : State := if x.kind.marks then s.unmarkAsset x.asset else s

/-- R168 step 4: the station's operation field becomes none. -/
def State.clearStationOp (x : Op) (s : State) : State := s.updStation x.station fun y => { y with op := none }

/-- R168 step 5: the OP-DONE notice. -/
def State.notifyOpDone (o : OpId) (x : Op) (how : OpEnd) (outcome : OpOutcome) (s : State) : State :=
  match opDoneDesk s x with
  | some d =>
    s.onBoard fun _ b => b.notify d (.opDone o x.kind x.asset x.station x.desk how x.state x.steps outcome)
  | none => s

/-- R168: an operation ends in one event: the outcome act, the abort frame, the mark, the station, the notice and the
record, in that order.  Which outcome the notice carries is the caller's; at an end other than DONE and EQUIPMENT-CHECK it is
the absent one (DESIGN CHOICE, log entry 40). -/
def State.endOp (o : OpId) (how : OpEnd) (act : OutcomeAct) (outcome : OpOutcome) (s : State) : State :=
  match s.field.ops.find o with
  | some x =>
    let kind := (s.roster x.station).kind.getD .lamp
    let s := s.applyOutcome x.station kind x.asset act
    let s := if how = .done then s else s.sendAbortOp o x
    let s := (s.releaseMark x).clearStationOp x
    (s.notifyOpDone o x how outcome).onField (Field.freeOp o)
  | none => s

/-- R169: an operation ends LOST.  DESIGN CHOICE (log entry 40): its OP-DONE carries no outcome, that of a sweep in ENDING,
whose N is known, neither. -/
def State.loseOp (o : OpId) (how : OpEnd) (s : State) : State := s.endOp o how .none .none

/-- R111, R114, R118: the operation of a station, if it has one, ends LOST. -/
def State.loseStationOp (n : StationId) (how : OpEnd) (s : State) : State :=
  match (s.station n).op with
  | some o => s.loseOp o how
  | none => s

/-- R172: at a level 2 RESET steps 2 to 4 of R168 are carried out for an operation in flight. -/
def State.resetOp (s : State) (o : OpId) : State :=
  match s.field.ops.find o with
  | some x => ((s.sendAbortOp o x).releaseMark x).clearStationOp x
  | none => s

/-- R172: every operation in flight, in ascending order of index; then every record is free and the index last
allocated is 31. -/
def State.resetOps (s : State) : State :=
  ((fins 32).foldl State.resetOp s).onField fun f => { f with ops := {}, lastOp := 31 }

/-- R169: whether adoption ends an operation: its station VACANT, its asset outside the owned range, or its kind no
longer allowed. -/
def opMisfits (x : Op) (r : Roster) : Bool := r.vacant || !r.owns x.asset || !x.kind.allows r.kind

/-- R169: the engine's answer to adoption, in ascending order of index. -/
def State.adoptOps (s : State) : State :=
  (fins 32).foldl (fun s o =>
    match s.field.ops.find o with
    | some x => if opMisfits x (s.roster x.station) then s.loseOp o .lostReconfigured else s
    | none => s) s

/-- The operation changed. -/
def State.setOp (o : OpId) (x : Op) (s : State) : State := s.onField (Field.setOp o x)

end Sys2Proof.Machine
end

