-- ==== Sys2Proof/Machine/Census.lean ====
section
/-! DEFINITION. The chain controller's part in starting a census (R152, R153, R155). -/

namespace Sys2Proof.Machine

/-- R152: a CENSUS frame to label 255, with station count 0 and no entries. -/
def censusFrame : DownFrame := ⟨255, .census⟩

/-- R152: the census is accepted and in flight, or it fails at once; census-again is cleared in either case. -/
def State.startCensus (t : TrunkId) (s : State) : State :=
  if s.answerTo t = .accepted then
    (s.hand t censusFrame).updChain t fun c => { c with census := some (s.setup.time + censusTimeout), again := false }
  else (s.errorOn t .censusFailed (.trunk t)).updChain t fun c => { c with again := false }

/-- R152: a census trigger of a RUNNING trunk sets census-again while the chain is busy and starts a census when it is
free. -/
def State.triggerCensus (t : TrunkId) (s : State) : State :=
  if (s.trunk t).state ≠ .running then s
  else if (s.chain t).busy then s.updChain t fun c => { c with again := true }
  else s.startCensus t

/-- R153: the chain has become free: a census waiting on census-again starts if the trunk is RUNNING. -/
def State.chainFreed (t : TrunkId) (s : State) : State :=
  if (s.chain t).again && !(s.chain t).busy && decide ((s.trunk t).state = .running) then s.startCensus t else s

/-- R155: the census fails: the count and the record, no outcome, and the chain is free. -/
def State.failCensus (t : TrunkId) (s : State) : State :=
  ((s.updChain t fun c => { c with census := none }).errorOn t .censusFailed (.trunk t)).chainFreed t

end Sys2Proof.Machine
end

