-- ==== Sys2Proof/Machine/Supervision.lean ====
section
/-! DEFINITION. The supervisor's shared operations: hearing, entering ACTIVE, SILENT, PENDING and UNREACHED, the hold set,
the outcomes of a census and of a labelling, and adoption (R105 to R121). -/

namespace Sys2Proof.Machine

/-- R106: the schedule started from the part time. -/
def State.scheduleFrom (s : State) (n : StationId) : Option Nat := some (s.setup.time + (s.roster n).interval)

/-- R111: the least balance a station of this roster entry may have. -/
def Roster.floor (r : Roster) : Int := -(r.allowance : Int)

/-! ## Entering a mode -/

/-- R34, R52: a station has entered ACTIVE from another mode: the stale flags of its records clear and its incident is
restored. -/
def State.nowActive (n : StationId) (s : State) : State :=
  (s.setStale n false).onBoard fun c b => b.restoreOf c (.station n)

/-- R111: a station enters SILENT: mode, balance, schedule, wake-extra and sleep; stale records; its incident; its
operation; and, unless it comes from a census result, a census trigger (R152). -/
def State.enterSilent (n : StationId) (trigger : Bool) (s : State) : State :=
  let s := s.updStation n fun x => { x with
    mode := .silent, balance := (s.roster n).floor, nextExpiry := none, wakeExtra := false, sleepCount := 0, span := none }
  let s := (s.setStale n true).onBoard fun c b => b.faultOf c (.station n) .silent
  let s := s.loseStationOp n .lostStation
  if trigger then s.triggerCensus (stationTrunk n) else s

/-- R119, R120: a station becomes PENDING: its schedule stops; one that was ACTIVE has its operation ended; one that was
SILENT or UNREACHED keeps its records stale. -/
def State.enterPending (n : StationId) (s : State) : State :=
  let before := (s.station n).mode
  let s := s.updStation n fun x => { x with mode := .pending, nextExpiry := none }
  let s := if before = .silent ∨ before = .unreached then s.setStale n true else s
  if before = .active then s.loseStationOp n .lostStation else s

/-- R118: a station becomes UNREACHED because its trunk has left RUNNING. -/
def State.enterUnreached (s : State) (n : StationId) : State :=
  let s := s.updStation n fun x => { x with
    mode := .unreached, nextExpiry := none, wakeExtra := false, sleepCount := 0, span := none }
  (s.setStale n true).loseStationOp n .lostTrunk

/-- R118: every non-VACANT station of a trunk becomes UNREACHED.  DESIGN CHOICE (log entry 10): by rising position. -/
def State.unreachTrunk (t : TrunkId) (s : State) : State :=
  ((stationsOf t).filter fun n => !(s.roster n).vacant).foldl State.enterUnreached s

/-! ## Hearing (R107) -/

/-- R107: what hearing makes of a station's live fields. -/
def heardFields (time : Nat) (started : Option Nat) (x : Station) : Station :=
  let x := { x with lastHeard := some time }
  let next := if x.hold.held then none else started
  match x.mode with
  | .asleep =>
    { x with mode := .active, wakeExtra := true, sleepCount := 0, span := none
             nextExpiry := if x.hold.held then none else x.nextExpiry }
  | .silent => { x with mode := .active, balance := 0, nextExpiry := next }
  | .pending => { x with mode := .active, balance := 0, nextExpiry := next }
  | .active => x
  | .unreached => x
  | .vacant => x

/-- R107: whether hearing moves a station of this mode to ACTIVE. -/
def wakes (m : Mode) : Bool := m = .asleep || m = .silent || m = .pending

/-- R107: a valid frame is heard. -/
def State.hear (n : StationId) (s : State) : State :=
  let moved := wakes (s.station n).mode
  let s := s.updStation n (heardFields s.setup.time (s.scheduleFrom n))
  if moved then s.nowActive n else s

/-! ## The hold set (R114) -/

/-- R114: the hold set has become non-empty. -/
def State.holdBegins (n : StationId) (s : State) : State :=
  let s := (s.suspendTimers n).updStation n fun x =>
    if x.mode = .active then { x with nextExpiry := none } else x
  s.loseStationOp n .lostHold

/-- R114: the hold set has become empty. -/
def State.holdEnds (n : StationId) (s : State) : State :=
  (s.resumeTimers n).updStation n fun x =>
    if x.mode = .active then { x with balance := 0, nextExpiry := s.scheduleFrom n, wakeExtra := false } else x

/-- R114: what follows a change of hold set, where the set was held before or not. -/
def State.afterHoldChange (n : StationId) (wasHeld : Bool) (s : State) : State :=
  let held := (s.station n).hold.held
  if held && !wasHeld then s.holdBegins n
  else if !held && wasHeld then s.holdEnds n
  else s

/-- R114 to R117: the hold set of a station changed. -/
def State.changeHold (n : StationId) (g : HoldSet → HoldSet) (s : State) : State :=
  let wasHeld := (s.station n).hold.held
  (s.updStation n fun x => { x with hold := g x.hold }).afterHoldChange n wasHeld

/-! ## Census and labelling outcomes (R119, R120) -/

/-- R119: what being found makes of a station's live fields; `g` is the change of its hold set. -/
def foundFields (started : Option Nat) (g : HoldSet → HoldSet) (x : Station) : Station :=
  let hold := g x.hold
  let kept := x.mode = .active ∨ x.mode = .asleep
  { x with
    mode := .active, balance := 0, hold
    wakeExtra := if x.mode = .asleep then true else x.wakeExtra
    sleepCount := if x.mode = .asleep then 0 else x.sleepCount
    span := if x.mode = .asleep then none else x.span
    nextExpiry := if hold.held then none else if kept then x.nextExpiry else started }

/-- R119: a station found with its label or with a bypass marker: ACTIVE with balance 0; the hold-set change and the mode
change are one event, and R114 acts on the hold set as it stands after both. -/
def State.foundActive (n : StationId) (g : HoldSet → HoldSet) (s : State) : State :=
  let x := s.station n
  let s := s.updStation n (foundFields (s.scheduleFrom n) g)
  let s := if x.mode = .active then s else s.nowActive n
  s.afterHoldChange n x.hold.held

/-- The outcomes a census has for a non-VACANT position (R119). -/
inductive CensusOutcome where
  | full | bypass | unlabelled | otherLabel | notFound
deriving DecidableEq, Repr

/-- R119: an outcome applied.  A SILENT outcome of a census raises no trigger that is acted on (R152), and changes
nothing for a station already SILENT. -/
def State.applyCensusOutcome (n : StationId) (o : CensusOutcome) (s : State) : State :=
  match o with
  | .full => s.foundActive n fun h => { h with cabinet := false }
  | .bypass => s.foundActive n fun h => { h with cabinet := true }
  | .unlabelled => s.enterPending n
  | .otherLabel => if (s.station n).mode = .silent then s else s.enterSilent n false
  | .notFound => if (s.station n).mode = .silent then s else s.enterSilent n false

/-- R120: a LABEL-ACK for a station: the identity is recorded, and the station is ACTIVE with balance 0. -/
def State.labelled (n : StationId) (i : Identity) (s : State) : State :=
  (s.updStation n fun x => { x with identity := some i }).foundActive n id

/-! ## Adoption (R121) and the level 2 RESET (R122) -/

/-- R121: one station's answer to adoption. -/
def adoptStation (before after : Roster) (x : Station) : Station :=
  if before.vacant then
    if after.vacant then x else { mode := .pending }
  else if after.vacant then {}
  else { x with balance := max x.balance after.floor }

/-- R121: every station's answer to adoption, against the roster it replaces. -/
def State.adoptStations (old : Settings) (s : State) : State :=
  (fins 384).foldl (fun s n => s.updStation n (adoptStation (old.station n) (s.roster n))) s

/-- R122: one station at a level 2 RESET. -/
def resetStation (started : Option Nat) (x : Station) : Station :=
  let x := { x with op := none }
  match x.mode with
  | .silent => { x with mode := .active, balance := 0, nextExpiry := if x.hold.held then none else started }
  | .active => { x with balance := 0 }
  | _ => x

/-- R122: the stations at a level 2 RESET. -/
def State.resetStations (s : State) : State :=
  s.field.stations.keys.foldl (fun s n => s.updStation n (resetStation (s.scheduleFrom n))) s

end Sys2Proof.Machine
end

