-- ==== Sys2Proof/Machine/Chains.lean ====
section
/-! DEFINITION. The chain controllers: screening, labelling, comparing a census with the roster, trunk loss and adoption
(R143 to R156). -/

namespace Sys2Proof.Machine

/-! ## Screening (R145) -/

/-- R145: a label of 1 to 24 that names a position of the trunk whose roster entry is not VACANT. -/
def screen (s : State) (t : TrunkId) (label : Byte) : Option StationId :=
  match positionOf label.toNat with
  | some p => if (s.roster (stationAt t p)).vacant then none else some (stationAt t p)
  | none => none

/-- R4, R145: a frame whose label fails is dropped, counted and recorded. -/
def State.unknownLabel (t : TrunkId) (label : Byte) (s : State) : State :=
  s.errorOn t .unknownLabel (.label t label.toNat)

/-- R166, R148, R154: a stray reply is dropped, counted and recorded. -/
def State.strayReply (t : TrunkId) (place : Place) (s : State) : State := s.errorOn t .strayReply place

/-- R132: the oldest frame of a trunk's buffer, if it is of a type. -/
def oldestOf (s : State) (t : TrunkId) (k : UpType) : Option (List Byte) :=
  match (s.trunk t).buffer with
  | (b :: rest) :: _ => if upTypeOf b = some k then some (b :: rest) else none
  | _ => none

/-- R132: the oldest frame taken from the buffer. -/
def State.take (t : TrunkId) (s : State) : State := s.updTrunk t Trunk.pop

/-! ## Labelling (R147 to R149) -/

/-- R144, R147: LABEL(p) is addressed to label 0. -/
def labelFrame (p : Position) : DownFrame := ⟨0, .label p⟩

/-- R149: what every failure of a labelling brings: the no-answer outcome for the position (R120). -/
def State.noAnswer (t : TrunkId) (p : Position) (s : State) : State :=
  let n := stationAt t p
  if (s.roster n).vacant then s else s.enterPending n

/-- R149: a labelling failed by deadline or refusal: counted, recorded, and the no-answer outcome. -/
def State.labelFails (t : TrunkId) (p : Position) (s : State) : State :=
  (s.errorOn t .labelFailed (.position t (positionNumber p))).noAnswer t p

/-- R147: the labelling of the first position of the list, and of the next where a frame is refused. -/
def startLabellingSteps (t : TrunkId) : (fuel : Nat) → State → State
  | 0, s => s
  | fuel + 1, s =>
    match (s.chain t).labelling, (s.chain t).list with
    | none, p :: rest =>
      let s' := s.updChain t fun c => { c with list := rest }
      if s.answerTo t = .accepted then
        (s'.hand t (labelFrame p)).updChain t fun c => { c with labelling := some ⟨p, s.setup.time + labelTimeout⟩ }
      else startLabellingSteps t fuel (s'.labelFails t p)
    | _, _ => s

/-- R147: whenever no labelling is in flight and the list is not empty, the first position is started. -/
def State.startLabelling (t : TrunkId) (s : State) : State :=
  startLabellingSteps t ((s.chain t).list.length) s

/-- R147: a labelling has ended: the next position is started, and when the run is over the chain is free. -/
def State.labellingEnds (t : TrunkId) (s : State) : State :=
  ((s.updChain t fun c => { c with labelling := none }).startLabelling t).chainFreed t

/-- R143: a position put into the labelling list, in ascending order and once. -/
def insertPosition (p : Position) : List Position → List Position
  | [] => [p]
  | q :: rest => if p < q then p :: q :: rest else if p = q then q :: rest else q :: insertPosition p rest

/-- R147: a position joins the list, unless it is in flight. -/
def Chain.join (p : Position) (c : Chain) : Chain :=
  if (c.labelling.map (·.position)) = some p then c else { c with list := insertPosition p c.list }

/-- R148: a LABEL-ACK taken. -/
def State.takeLabelAck (t : TrunkId) (label kind first1 first0 count1 count0 : Byte) (s : State) : State :=
  match (s.chain t).labelling with
  | some l =>
    if label.toNat = positionNumber l.position then
      let n := stationAt t l.position
      if (s.roster n).vacant then s.labellingEnds t
      else
        let i : Identity := ⟨kind, half first1 first0, half count1 count0⟩
        let s := s.labelled n i
        let s := if identityAgrees (s.roster n) i then s
          else s.errorOn t .identityMismatch (.position t (positionNumber l.position))
        s.labellingEnds t
    else s.strayReply t (.label t label.toNat)
  | none => s.strayReply t (.label t label.toNat)

/-! ## Comparing a census with the roster (R154) -/

/-- R154 step 4: the outcome of a non-VACANT position, given what the census holds for it. -/
def outcomeOf (number : Nat) : Option CensusEntry → CensusOutcome
  | none => .notFound
  | some (.full label) => if label = number then .full else .otherLabel
  | some .bypass => .bypass
  | some .unlabelled => .unlabelled

/-- R154 steps 4 and 5: one position compared and its outcome handed to the supervisor. -/
def State.comparePosition (t : TrunkId) (entries : List CensusEntry) (s : State) (p : Position) : State :=
  let n := stationAt t p
  let number := positionNumber p
  let e := entries[p.val]?
  if (s.roster n).vacant then
    if e.isSome then s.errorOn t .unexpectedStation (.position t number) else s
  else
    let o := outcomeOf number e
    let s := if o = .otherLabel then s.errorOn t .labelMismatch (.position t number) else s
    let s := if o = .unlabelled then s.updChain t (Chain.join p) else s
    s.applyCensusOutcome n o

/-- R154 step 6: the first labelling starts, or the chain is free. -/
def State.afterCensus (t : TrunkId) (s : State) : State :=
  if (s.chain t).list.isEmpty then s.chainFreed t else (s.startLabelling t).chainFreed t

/-- R154: a census return taken; `count` is its station count, `rest` the symbols after it. -/
def State.takeCensusReturn (t : TrunkId) (count : Byte) (rest : List Byte) (s : State) : State :=
  if (s.chain t).census.isSome then
    match censusEntries (min count.toNat 24) rest with
    | none => s.failCensus t
    | some entries =>
      let s := s.updChain t fun c => { c with census := none }
      let s := if 24 < count.toNat then s.errorOn t .chainTooLong (.trunk t) else s
      ((fins 24).foldl (State.comparePosition t entries) s).afterCensus t
  else s.strayReply t (.trunk t)

/-! ## Trunk loss and adoption (R156) -/

/-- R156: the chain controller's answer to its trunk leaving RUNNING. -/
def State.chainLost (t : TrunkId) (s : State) : State := s.updChain t fun _ => {}

/-- R156: at adoption the positions now VACANT leave the labelling list. -/
def State.adoptChains (s : State) : State :=
  allTrunks.foldl (fun s t =>
    s.updChain t fun c => { c with list := c.list.filter fun p => !(s.roster (stationAt t p)).vacant }) s

/-! ## NO-TAKER returns (R146, R167) -/

/-- R167: the returned types that the operation has sent a frame of. -/
def sentType (x : Op) : ReturnedType → Bool
  | .probe => x.kind = .probe
  | .cycle => x.kind = .cycle
  | .sweepStep => x.kind = .sweep
  | .setLevel => x.kind = .sweep && x.state = .ending
  | _ => false

/-- R167: the engine's part: the operation of that trunk and label that has sent the type ends, reason NO-TAKER.
DESIGN CHOICE (log entry 40): its OP-DONE carries no outcome, that of a sweep in ENDING neither. -/
def State.opNoTaker (t : TrunkId) (label : Byte) (k : ReturnedType) (index : Byte) (s : State) : State :=
  match finOf 32 index.toNat with
  | some o =>
    match s.field.ops.find o with
    | some x =>
      if stationTrunk x.station = t ∧ labelOf x.station = label.toNat ∧ sentType x k = true then
        s.endOp o .noTaker .none .none
      else s
    | none => s
  | none => s

/-- R146: a NO-TAKER taken: counted, recorded, and acted on by the returned type. -/
def State.takeNoTaker (t : TrunkId) (label returned index : Byte) (s : State) : State :=
  match returnedTypeOf returned with
  | .label =>
    let s := s.errorOn t .noTaker (.position t index.toNat)
    match (s.chain t).labelling with
    | some l =>
      if index.toNat = positionNumber l.position then (s.noAnswer t l.position).labellingEnds t else s
    | none => s
  | k => (s.errorOn t .noTaker (.label t label.toNat)).opNoTaker t label k index

/-! ## LABEL-CHAIN and CENSUS (R150, R153) -/

/-- R150: the non-VACANT positions of a trunk, ascending. -/
def occupiedPositions (s : State) (t : TrunkId) : List Position :=
  (fins 24).filter fun p => !(s.roster (stationAt t p)).vacant

/-- R150: a FORGET frame to label 255. -/
def forgetFrame : DownFrame := ⟨255, .forget⟩

/-- R150: whether the send queue has room for the frames LABEL-CHAIN needs: two, or one with no non-VACANT position. -/
def labelChainFits (s : State) (t : TrunkId) : Bool :=
  (s.trunk t).queue.length + (if (occupiedPositions s t).isEmpty then 1 else 2) ≤ sendCapacity

/-- R150 steps 1 to 3: FORGET; the positions into the list; each station PENDING, and its operation ended. -/
def State.forgetLabels (t : TrunkId) (s : State) : State :=
  let ps := occupiedPositions s t
  ps.foldl (fun s p => s.enterPending (stationAt t p)) ((s.hand t forgetFrame).updChain t fun c => { c with list := ps })

/-- R150: on DONE, the four steps in their order; the last is the first labelling under R147.  DEDUCED (log entry 31): where
the ABORT-OPs of step 3 have filled the send queue, R147's refused case applies, so that every labelling fails (R149) and
the run is over. -/
def State.relabel (t : TrunkId) (s : State) : State := ((s.forgetLabels t).startLabelling t).chainFreed t

end Sys2Proof.Machine
end

