-- ==== Sys2Proof/Machine/Lines.lean ====
section
/-! DEFINITION. The trunk interfaces: starting, running, stopping, symbols, frames, faults and outages (R124 to R139). -/

namespace Sys2Proof.Machine

/-! ## Outage (R138, R139) -/

/-- R138: the grace deadline expires: with a non-VACANT roster entry on the trunk, the incident table is told that the
trunk is down. -/
def State.graceExpires (t : TrunkId) (s : State) : State :=
  let s := s.updTrunk t fun x => { x with graceDeadline := none }
  if occupied s.setup.active t = 0 then s else s.onBoard fun c b => b.faultOf c (.trunk t) .trunkDown

/-- R138: a grace of 0 expires in the event that sets it, after the other steps of that event. -/
def State.graceIfZero (t : TrunkId) (s : State) : State :=
  if s.setup.active.params.trunkGrace = 0 then s.graceExpires t else s

/-- R139: a TRUNK-ERROR notice to each desk whose maintenance flag is set in the active copy. -/
def State.trunkErrorNotices (t : TrunkId) (e : TrunkError) (s : State) : State :=
  (allDesks.filter fun d => (s.setup.active.desks[d]).maintenance).foldl
    (fun s d => s.onBoard fun c b => b.notify d (.trunkError t e c.time)) s

/-! ## Leaving RUNNING (R135) -/

/-- R135 steps 2 to 4: the frame in assembly, the send queue, the frame in transmission and the credits. -/
def Trunk.flush (x : Trunk) : Trunk :=
  { x with assembly := none, queue := [], transmitting := none, upCredit := 0, downCredit := 0, watch := false }

/-- R135 steps 2 to 7, once the state has left RUNNING. -/
def State.leaveRunning (t : TrunkId) (s : State) : State :=
  (((s.updTrunk t Trunk.flush).unreachTrunk t).chainLost t)

/-- R135: a fault of a RUNNING trunk. -/
def State.faultTrunk (t : TrunkId) (e : TrunkError) (s : State) : State :=
  let p := s.setup.active.params
  let now := s.setup.time
  let s := s.updTrunk t fun x => { x with
    state := .faulted, faultTime := some now, graceDeadline := some (now + p.trunkGrace)
    retryDeadline := some (now + p.trunkRetry) }
  let s := (s.leaveRunning t).errorOn t e (.trunk t)
  (s.trunkErrorNotices t e).graceIfZero t

/-! ## Starting and stopping (R127 to R130) -/

/-- R127: a trunk enters STARTING. -/
def Trunk.enterStarting (time : Nat) (cause : StartCause) (x : Trunk) : Trunk :=
  { x with
    state := .starting, buffer := [], assembly := none, startDeadline := some (time + startTimeout)
    retryDeadline := none, startCause := cause
    attempts := if cause = .fromOff then 1 else saturate 65535 x.attempts }

/-- R128: a STARTING trunk enters RUNNING: deadlines none, credits 0, GRANTs for the room, the watch begins. -/
def Trunk.enterRunning (x : Trunk) : Trunk :=
  ({ x with
    state := .running, startDeadline := none, retryDeadline := none, graceDeadline := none, attempts := 0
    downCredit := 0, upCredit := 0, watch := true }).sendGrants

/-- R128: the first valid FILL of a STARTING trunk. -/
def State.trunkRuns (t : TrunkId) (s : State) : State :=
  ((s.updTrunk t Trunk.enterRunning).triggerCensus t).onBoard fun c b => b.restoreOf c (.trunk t)

/-- R129: the start deadline of a STARTING trunk expires. -/
def State.startFails (t : TrunkId) (s : State) : State :=
  let p := s.setup.active.params
  let now := s.setup.time
  let cause := (s.trunk t).startCause
  let s := s.updTrunk t fun x =>
    ({ x with state := .faulted, startDeadline := none, retryDeadline := some (now + p.trunkRetry) }).count .startTimeout
  let s := if cause = .fromOff then
      s.updTrunk t fun x => { x with faultTime := some now, graceDeadline := some (now + p.trunkGrace) }
    else s
  let s := if cause = .retry then s
    else (s.recordError (.trunk .startTimeout) (.trunk t)).trunkErrorNotices t .startTimeout
  if cause = .fromOff then s.graceIfZero t else s

/-- R130: TRUNK-STOP on a trunk that is not OFF. -/
def State.stopTrunk (t : TrunkId) (s : State) : State :=
  let wasRunning := (s.trunk t).state = .running
  let s := s.updTrunk t fun x => { x with
    state := .off, startDeadline := none, retryDeadline := none, graceDeadline := none, attempts := 0 }
  let s := if wasRunning then s.leaveRunning t else s
  s.onBoard fun c b => b.restoreOf c (.trunk t)

/-! ## Upstream symbols (R125, R131, R133, R136) -/

/-- R125: a data symbol appended to the frame in assembly; beyond the 80th it is not kept and the frame is too long. -/
def appendSymbol (b : Byte) : Option Assembly → Assembly
  | none => ⟨[b], false⟩
  | some a => if a.symbols.length < longestFrame then { a with symbols := a.symbols ++ [b] } else { a with tooLong := true }

/-- R136: the checks of a closed frame, in order; none when it passes. -/
def frameError (a : Option Assembly) : Option TrunkError :=
  match a with
  | none => some .nullFrame
  | some a =>
    match a.symbols with
    | [] => some .nullFrame
    | ty :: _ =>
      if a.tooLong then some .longFrame
      else
        match upTypeOf ty with
        | none => some .unknownType
        | some k => if a.symbols.length < k.minimum then some .shortFrame else none

/-- R136: the place of a frame's error: its label, where the frame is long enough to hold one. -/
def framePlace (t : TrunkId) (a : Option Assembly) : Place :=
  match a with
  | some ⟨_ :: label :: _, _⟩ => .label t label.toNat
  | _ => .trunk t

/-- R131, R136: an END closes a frame with credit: the credit is spent, the frame enters the buffer or is dropped, and
the room it leaves is granted again. -/
def State.closeFrame (t : TrunkId) (s : State) : State :=
  let a := (s.trunk t).assembly
  match frameError a with
  | none =>
    s.updTrunk t fun x =>
      ({ x with upCredit := x.upCredit - 1, assembly := none, watch := true
                buffer := x.buffer ++ [(a.map Assembly.symbols).getD []] }).sendGrants
  | some e =>
    (s.updTrunk t fun x => ({ x with upCredit := x.upCredit - 1, assembly := none, watch := true }).sendGrants).errorOn t e
      (framePlace t a)

/-- R131: an upstream END on a RUNNING trunk. -/
def State.upstreamEnd (t : TrunkId) (s : State) : State :=
  if (s.trunk t).state ≠ .running then s
  else if (s.trunk t).upCredit = 0 then s.faultTrunk t .creditOverrun
  else s.closeFrame t

/-- R133: an upstream GRANT on a RUNNING trunk. -/
def State.upstreamGrant (t : TrunkId) (s : State) : State :=
  if (s.trunk t).state ≠ .running then s
  else if 5 ≤ (s.trunk t).downCredit then s.faultTrunk t .creditExcess
  else s.updTrunk t fun x => ({ x with downCredit := x.downCredit + 2, watch := true }).pump

end Sys2Proof.Machine
end

