-- ==== Sys2Proof/Machine/Answers.lean ====
section
/-! DEFINITION. What a command is answered, the end of an event, and the one operation by which an owner takes the
WAITING command of a desk (R85, R93, R178, R179, R181). -/

namespace Sys2Proof.Machine

/-! ## Answers (R181) -/

/-- What an owner answers to a command: termination, reason and data. -/
structure Verdict where
  termination : Termination
  reason      : Option Reason
  data        : ResultData
deriving DecidableEq, Repr

/-- R181: the command was carried out. -/
def Verdict.done (x : ResultData) : Verdict := ⟨.done, none, x⟩

/-- R181: a precondition failed. -/
def Verdict.refused (r : Reason) : Verdict := ⟨.refused, some r, .none⟩

/-- R181, R191: an argument out of the range its owning rule accepts. -/
def Verdict.invalid : Verdict := ⟨.invalid, some .badArgument, .none⟩

/-- R179, R191: a body length not allowed for the code. -/
def Verdict.badLength : Verdict := ⟨.invalid, some .badLength, .none⟩

/-- R87, R88: the answer named an offer already withdrawn. -/
def Verdict.tooLate : Verdict := ⟨.tooLate, none, .none⟩

/-- R180, R185, R186: the command was withdrawn before it was carried out. -/
def Verdict.aborted (r : Reason) : Verdict := ⟨.aborted, some r, .none⟩

/-- R181: a result joins the queue with the desk's attention flag as it stands. -/
def Link.push (code : Byte) (own : Bool) (r : Verdict) (l : Link) : Link :=
  { l with results := l.results ++ [⟨code, r.termination, r.reason, l.attention, r.data, own⟩] }

/-- A result made for a desk. -/
def State.push (d : DeskId) (code : Byte) (own : Bool) (r : Verdict) (s : State) : State :=
  s.updLink d (Link.push code own r)

/-! ## The end of an event -/

/-- R178: while the link is UP and nothing is being sent, it begins the oldest result, or else the oldest notice, which
leaves its queue. -/
def Link.begin (l : Link) : Link :=
  if l.up = true ∧ l.sending = .idle then
    match l.results, l.notices with
    | _ :: _, _ => { l with sending := .result }
    | [], n :: rest => { l with sending := .notice n, notices := rest }
    | [], [] => l
  else l

/-- R178: every link that has nothing on its line begins its next frame. -/
def Board.beginLines (b : Board) : Board := allDesks.foldl (fun b d => b.updLink d Link.begin) b

/-- R85, R178: the end of the event that led from `before` to `after`: the arbiter's runs, then the lines. -/
def State.conclude (before after : State) : State :=
  after.onBoard fun c b => (Board.runsAfter c before.board b).beginLines

/-- One event, from its effects to its end. -/
def State.event (f : State → State) (s : State) : State := s.conclude (f s)

/-! ## Commands at their owners (R179) -/

/-- R93: the desk's unresponsive flag clears. -/
def Board.respond (d : DeskId) (b : Board) : Board := b.updDesk d fun x => { x with unresponsive := false }

/-- R179, R93: a result made for a command taken, and the unresponsive flag that clears then. -/
def State.answer (d : DeskId) (code : Byte) (own : Bool) (r : Verdict) (s : State) : State :=
  (s.push d code own r).onBoard fun _ b => b.respond d

/-- R179: the arguments of the desk's WAITING command, if its code is this one. -/
def waitingArgs (s : State) (d : DeskId) (code : Byte) : Option (List Byte) :=
  match (s.board.links[d]).outstanding with
  | some ⟨c :: args, .waiting⟩ => if c = code then some args else none
  | _ => none

/-- R173, R179: the outstanding command is ANSWERING. -/
def Link.nowAnswering (l : Link) : Link :=
  { l with outstanding := l.outstanding.map fun o => { o with phase := .answering } }

/-- What an owner does with a command from a desk, given its arguments. -/
abbrev Owner := List Byte → DeskId → State → State × Verdict

/-- R179: a WAITING command carried out and its result made, then what follows the result, in one event. -/
def State.carryOut (code : Byte) (d : DeskId) (args : List Byte) (op : Owner) (after : State → State) (s : State) :
    State :=
  let a := op args d s
  s.conclude (after (((a.1).updLink d Link.nowAnswering).answer d code true a.2))

/-- R179: an owner takes the desk's WAITING command of this code; without one there is nothing to take. -/
def State.serve (code : Byte) (d : DeskId) (op : Owner) (s : State) : State :=
  match waitingArgs s d code with
  | some args => s.carryOut code d args op id
  | none => s

end Sys2Proof.Machine
end

