-- ==== Sys2Proof/Machine/Resets.lean ====
section
/-! DEFINITION. Power-on and the three levels of RESET, block by block (R42, R67, R78, R103, R104, R122, R142, R143, R172,
R185 to R187). -/

namespace Sys2Proof.Machine

/-! ## Commands withdrawn (R180, R185, R186) -/

/-- The desk has a WAITING command. -/
def Link.waiting (l : Link) : Bool :=
  match l.outstanding with
  | some o => o.phase = .waiting
  | none => false

/-- The code of the outstanding command. -/
def Link.outstandingCode (l : Link) : Byte :=
  match l.outstanding with
  | some ⟨c :: _, _⟩ => c
  | _ => Config.noCommandCode

/-- R180, R185: a WAITING command is withdrawn before its owner takes it and answered ABORTED. -/
def Link.abortWaiting (r : Reason) (l : Link) : Link :=
  if l.waiting then (l.push l.outstandingCode true (.aborted r)).nowAnswering else l

/-- R185, R186: the notice queue emptied without count, the overflow count 0 and the attention flag clear. -/
def Link.clearNotices (l : Link) : Link := { l with notices := [], overflow := 0, attention := false }

/-! ## Level 1 (R103, R185) -/

/-- R103, R185: steps 1 to 3 of a level 1 RESET. -/
def State.reset1 (d : DeskId) (s : State) : State :=
  (s.updLink d fun l => (l.abortWaiting .reset).clearNotices).onBoard fun _ b =>
    (b.withdrawSlot none d).updDesk d fun x => { x with onDuty := false }

/-! ## Level 2 (R186) -/

/-- R104: the arbiter's fields of one desk after a level 2 RESET: duty and absence timer kept. -/
def resetDesk (x : Desk) : Desk := { onDuty := x.onDuty, absence := x.absence }

/-- R80, R104: each group's pointer at its start desk. -/
def Board.resetPointers (c : Setup) (b : Board) : Board :=
  allDesks.foldl (fun b g => if startsGroup c.active g then { b with pointers := b.pointers.set g g } else b) b

/-- R67, R78, R104: the incident table, the aging schedules and the arbiter's picture emptied. -/
def Board.empty (c : Setup) (b : Board) : Board :=
  ({ b with
    incidents := {}, aging := {}, queues := Vector.replicate 6 []
    desks := b.desks.map resetDesk }).resetPointers c

/-- R186: every notice queue emptied, and a RESET notice made for each desk. -/
def Board.resetNotices (level : Nat) (b : Board) : Board :=
  allDesks.foldl (fun b d => b.updLink d fun l => l.clearNotices.take (.reset level)) b

/-- R42, R67, R78, R104, R122, R142, R172, R186: a level 2 RESET from desk `d`, to the making of its result. -/
def State.reset2 (d : DeskId) (s : State) : State :=
  let s := (s.updLink d (Link.abortWaiting .reset)).resetOps.resetStations
  ((s.onFaults fun _ => {}).onBoard fun c b => b.empty c).onBoard fun _ b => b.resetNotices 2

/-! ## Level 3 (R186) -/

/-- R173, R187: one link at a level 3 RESET, before its RESET notice. -/
def Link.reset3 (l : Link) : Link := { l.abortWaiting .reset with badCrc := 0, badFrame := 0, badKind := 0 }

/-- R186: the whole part but the clock, the lines and the queue at its power-on values. -/
def State.reset3 (s : State) : State :=
  { s with
    setup := { time := s.setup.time }
    faults := {}
    board := ({ links := s.board.links.map Link.reset3 } : Board).resetNotices 3
    field := {}
    error := {} }

/-! ## RESET as a command (R185, R186) -/

/-- R185, R186: RESET carried out by the link at once. -/
def State.carryReset (level : Nat) (d : DeskId) (s : State) : State × Verdict :=
  match level with
  | 1 => (s.reset1 d, .done (.level 1))
  | 2 => if s.setup.claim = some d then (s.reset2 d, .done (.level 2)) else (s, .refused .noClaim)
  | 3 => if s.setup.claim = some d then (s.reset3, .done (.level 3)) else (s, .refused .noClaim)
  | _ => (s, .invalid)

/-! ## Power-on (R1) -/

/-- R187: a link after power-on: as the line stands, and where it is present as having come UP (R175). -/
def powerOnLink (present : Bool) : Link := { up := present, attention := present }

/-- R1, R187: every block at its power-on values, part time 0; the steps that wait are kept. -/
def State.powerOn (lines : DeskSet) (s : State) : State :=
  { State.reset with
    board := { links := #v[powerOnLink (inSet 0 lines), powerOnLink (inSet 1 lines), powerOnLink (inSet 2 lines),
      powerOnLink (inSet 3 lines), powerOnLink (inSet 4 lines), powerOnLink (inSet 5 lines)] }
    draws := s.draws
    pending := s.pending }

end Sys2Proof.Machine
end

