-- ==== Sys2Proof/Machine/DeskLink.lean ====
section
/-! DEFINITION. The desk links: the line going and coming, the receiver, taking a command frame, and frames sent
(R173 to R180). -/

namespace Sys2Proof.Machine

/-! ## The CRC (R176) -/

/-- One bit of the CRC register, highest bit first, polynomial 0x1021. -/
def crcShift (c : Half) : Half := if c.getLsbD 15 then (c <<< 1) ^^^ 0x1021#16 else c <<< 1

/-- One byte fed in, highest bit first. -/
def crcByte (c : Half) (b : Byte) : Half :=
  let x := c ^^^ (b.setWidth 16 <<< 8)
  crcShift (crcShift (crcShift (crcShift (crcShift (crcShift (crcShift (crcShift x)))))))

/-- R176: the CRC of a run of bytes, initial value 0xFFFF, no reflection and no final inversion. -/
def crcOf (bytes : List Byte) : Half := bytes.foldl crcByte 0xFFFF#16

/-- R176: the two CRC bytes, high byte first. -/
def crcBytes (bytes : List Byte) : List Byte :=
  [(crcOf bytes).extractLsb' 8 8, (crcOf bytes).extractLsb' 0 8]

/-! ## The line (R174, R175) -/

/-- R174: a notice queue discarded, each notice counted. -/
def Link.discardNotices (l : Link) : Link :=
  { l with
    notices := [], overflow := min 255 (l.overflow + l.notices.length)
    attention := l.attention || !l.notices.isEmpty }

/-- R174: one link when its line goes.  DESIGN CHOICE (log entry 37): a notice whose sending had begun is no longer queued
(R182); it is abandoned as a partly sent result is, and raises neither the overflow count nor the attention flag. -/
def Link.lost (l : Link) : Link :=
  { l.discardNotices with up := false, receiver := none, outstanding := none, results := [], sending := .idle }

/-- R8: the claim of a desk freed, with every active value back in the shadow copy. -/
def Setup.dropClaim (d : DeskId) (c : Setup) : Setup :=
  if c.claim = some d then { c with shadow := c.active, claim := none } else c

/-- R8, R99, R174: a desk's line goes. -/
def State.linkDown (d : DeskId) (s : State) : State :=
  ((s.updLink d Link.lost).onSetup (Setup.dropClaim d)).onBoard fun c b => b.linkLost c d

/-- R100, R175: a desk's line appears. -/
def State.linkUp (d : DeskId) (s : State) : State :=
  (s.updLink d fun l => { l with up := true, attention := true, receiver := none }).updDesk d
    fun x => { x with absence := none }

/-! ## Taking a command frame (R179) -/

/-- R179: the results queued, with that of a WAITING command counted as queued. -/
def Link.load (l : Link) : Nat := l.results.length + (if l.waiting then 1 else 0)

/-- R179: the code of a command frame's body. -/
def bodyCode : List Byte → Byte
  | c :: _ => c
  | [] => Config.noCommandCode

/-- R180: ABORT carried out by the link at once. -/
def State.carryAbort (d : DeskId) (s : State) : State × Verdict :=
  let l := s.board.links[d]
  if l.waiting then (s.updLink d (Link.abortWaiting .abort), .done (.abortedCommand (some l.outstandingCode)))
  else (s, .done (.abortedCommand none))

/-- R179: what the lines of R179's table make of a command frame: none when the command becomes outstanding. -/
def State.frameVerdict (d : DeskId) (body : List Byte) (s : State) : Option (State × Verdict) :=
  match body with
  | [] => some (s, ⟨.invalid, some .unknownCommand, .none⟩)
  | code :: args =>
    if bodyLengths code.toNat = none then some (s, ⟨.invalid, some .unknownCommand, .none⟩)
    else if lengthAllowed code.toNat body.length = false then some (s, .badLength)
    else if code = 0x0E#8 then some (s.carryAbort d)
    else if code = 0x0F#8 then some (s.carryReset ((args.head?.map BitVec.toNat).getD 0) d)
    else if (s.board.links[d]).outstanding.isSome ∨ (s.board.links[d]).results ≠ [] then some (s, .refused .sequence)
    else none

/-- R179: a command frame taken. -/
def State.acceptFrame (d : DeskId) (body : List Byte) (s : State) : State :=
  match s.frameVerdict d body with
  | some a => (a.1).answer d (bodyCode body) false a.2
  | none => s.updLink d fun l => { l with outstanding := some ⟨body, .waiting⟩ }

/-- R179: whether a command frame is dropped because its result would take the queue above 3. -/
def Link.full (l : Link) : Bool := resultCapacity < l.load + 1

/-- R177, R179: a complete command frame reaches an UP link, whose receiver hunts again. -/
def State.takeFrame (d : DeskId) (body : List Byte) (s : State) : State :=
  let s := s.updLink d fun l => { l with receiver := none }
  if (s.board.links[d]).full then s else s.acceptFrame d body

/-- R177, R179: the event of a complete command frame; while the link is DOWN whatever arrives is ignored. -/
def State.commandEvent (d : DeskId) (body : List Byte) (s : State) : State :=
  if (s.board.links[d]).up then s.event (State.takeFrame d body) else s

/-! ## The receiver (R177) -/

/-- The receiver's three errors (R177). -/
inductive FrameError where
  | badCrc | badFrame | badKind
deriving DecidableEq, Repr

/-- R177: the link's counter of an error goes up by 1, and the receiver hunts. -/
def Link.countFrame (e : FrameError) (l : Link) : Link :=
  match e with
  | .badCrc => { l with badCrc := saturate 65535 l.badCrc, receiver := none }
  | .badFrame => { l with badFrame := saturate 65535 l.badFrame, receiver := none }
  | .badKind => { l with badKind := saturate 65535 l.badKind, receiver := none }

/-- R140: the code of a receiver's error. -/
def FrameError.code : FrameError → ErrorCode
  | .badCrc => .badCrc
  | .badFrame => .badFrame
  | .badKind => .badKind

/-- R177: a frame dropped with an error: counted and recorded. -/
def State.frameFails (d : DeskId) (e : FrameError) (s : State) : State :=
  (s.updLink d (Link.countFrame e)).recordError e.code (.desk d)

/-- R177: the event of an error on an UP link. -/
def State.errorEvent (d : DeskId) (e : FrameError) (s : State) : State :=
  if (s.board.links[d]).up then s.event (State.frameFails d e) else s

/-- R176: the code of a COMMAND frame (R190). -/
def commandKind : Byte := 0x01#8

/-- What a complete frame is, from the bytes after its SYNC (R177): a body, or an error. -/
def frameOf (bytes : List Byte) : FrameError ⊕ List Byte :=
  let n := bytes.length - 2
  if bytes.drop n = crcBytes (bytes.take n) then
    match bytes.take n with
    | _ :: kind :: body => if kind = commandKind then .inr body else .inl .badKind
    | _ => .inl .badKind
  else .inl .badCrc

/-- R177: a byte added to a frame in reception; `bytes` are those after SYNC, this one included. -/
def State.frameByte (d : DeskId) (bytes : List Byte) (s : State) : State :=
  match bytes with
  | [] => s
  | len :: _ =>
    if len = 0#8 then s.frameFails d .badFrame
    else if bytes.length < len.toNat + 3 then s.updLink d fun l => { l with receiver := some bytes }
    else
      match frameOf bytes with
      | .inl e => s.frameFails d e
      | .inr body => s.takeFrame d body

/-- R177: a byte reaches an UP link. -/
def State.receive (d : DeskId) (b : Byte) (s : State) : State :=
  match (s.board.links[d]).receiver with
  | none => if b = 0x7E#8 then s.updLink d fun l => { l with receiver := some [] } else s
  | some bytes => s.frameByte d (bytes ++ [b])

/-! ## Frames sent (R178) -/

/-- R178: the oldest result has been sent whole. -/
def Link.resultSent (l : Link) : Link :=
  match l.results with
  | r :: rest => { l with
      results := rest, sending := .idle, outstanding := if r.own then none else l.outstanding }
  | [] => { l with sending := .idle }

/-- The link is sending a notice. -/
def Link.sendsNotice (l : Link) : Bool :=
  match l.sending with
  | .notice _ => true
  | _ => false

/-- The link is sending a result. -/
def Link.sendsResult (l : Link) : Bool :=
  match l.sending with
  | .result => true
  | _ => false

end Sys2Proof.Machine
end

