-- ==== Sys2Proof/Machine/Staging.lean ====
section
/-! DEFINITION. Staging: the edit claim, the WRITE commands, READ-SHADOW, the four clamps, and the adoption event as every
block answers it (R7 to R20, R38, R65, R77, R101, R121, R156, R169). -/

namespace Sys2Proof.Machine

/-! ## Writing one setting of a copy -/

/-- A circuit entry written. -/
def Settings.setCircuit (c : CircuitId) (x : Circuit) (a : Settings) : Settings :=
  { a with circuits := a.circuits.store {} c x }

/-- A roster entry written. -/
def Settings.setStation (n : StationId) (x : Roster) (a : Settings) : Settings :=
  { a with roster := a.roster.store {} n x }

/-- One desk's settings written. -/
def Settings.setDesk (d : DeskId) (x : DeskSettings) (a : Settings) : Settings := { a with desks := a.desks.set d x }

/-- R12, R191: a part parameter written by its number. -/
def Params.write (number value : Nat) (p : Params) : Option Params :=
  match number with
  | 1 => some { p with lampThreshold := value }
  | 2 => some { p with loopThreshold := value }
  | 3 => some { p with signThreshold := value }
  | 4 => some { p with confirmWindow := value }
  | 5 => some { p with restoreHold := value }
  | 6 => some { p with closeDelay := value }
  | 7 => some { p with trunkGrace := value % 256 }
  | 8 => some { p with trunkRetry := value }
  | 9 => some { p with trunkWeight := value % 256 }
  | 10 => some { p with absenceGrace := value }
  | 11 => some { p with sweepStart := value }
  | 12 => some { p with sweepMargin := value }
  | 13 => some { p with cycleOffTime := value }
  | _ => none

/-- R13, R191: a part parameter read by its number. -/
def Params.read (number : Nat) (p : Params) : Option Nat :=
  match number with
  | 1 => some p.lampThreshold
  | 2 => some p.loopThreshold
  | 3 => some p.signThreshold
  | 4 => some p.confirmWindow
  | 5 => some p.restoreHold
  | 6 => some p.closeDelay
  | 7 => some p.trunkGrace
  | 8 => some p.trunkRetry
  | 9 => some p.trunkWeight
  | 10 => some p.absenceGrace
  | 11 => some p.sweepStart
  | 12 => some p.sweepMargin
  | 13 => some p.cycleOffTime
  | _ => none

/-- One scale of a period written. -/
def Scales.write (k : Cls) (q : Nat) (x : Scales) : Scales :=
  match k with
  | .lamp => { x with lamp := q }
  | .loop => { x with loop := q }
  | .sign => { x with sign := q }
  | .infra => { x with infra := q }

/-- R11: one scale written. -/
def PeriodTable.write (p : Period) (k : Cls) (q : Nat) (x : PeriodTable) : PeriodTable :=
  match p with
  | .day => { x with day := x.day.write k q }
  | .night => { x with night := x.night.write k q }
  | .peak => { x with peak := x.peak.write k q }
  | .storm => { x with storm := x.storm.write k q }

/-! ## The WRITE commands (R9 to R12) -/

/-- What a WRITE command's arguments make of the shadow copy; none where R9 to R12 call the command INVALID. -/
abbrev Edit := List Byte → Option (Settings → Settings)

/-- R9 to R12: the INVALID cases first, then the claim; then the shadow copy is written and the answer is DONE. -/
def writeShadow (e : Edit) : Owner := fun args d s =>
  match e args with
  | none => (s, .invalid)
  | some f =>
    if s.setup.claim = some d then (s.onSetup fun c => { c with shadow := f c.shadow }, .done .none)
    else (s, .refused .noClaim)

/-- R9: the entry, its bound, flags, groups, B, trip count and τ; entry 128 keeps its bound (R2). -/
def editCircuit : Edit
  | [entry, b1, b0, flags, group, alternate, weight, trip, tau] =>
    (circuitOf entry.toNat).map fun c a => a.setCircuit c
      { bound := if c = 127 then 65535 else half b1 b0
        invalid := flags.getLsbD 0, fold := flags.getLsbD 1
        group := group.toNat, alternate := alternateOf alternate
        weight := weight.toNat, trip := trip.toNat, tau := tau.toNat }
  | _ => none

/-- R10: the trunk and position, then the kind, are tested. -/
def editStation : Edit
  | [trunk, position, kind, f1, f0, c1, c0, i1, i0, allowance, sleepLimit, weight] =>
    match stationOf trunk position, kindOf kind with
    | some n, some k => some fun a => a.setStation n
        { kind := some k, first := half f1 f0, count := half c1 c0, interval := half i1 i0
          allowance := allowance.toNat, sleepLimit := sleepLimit.toNat, weight := weight.toNat }
    | _, _ => none
  | _ => none

/-- R11: a desk and its settings. -/
def editDesk : Edit
  | [desk, flags, limit, timeout] =>
    (finOf 6 desk.toNat).map fun d a => a.setDesk d
      { continues := flags.getLsbD 0, maintenance := flags.getLsbD 1, limit := limit.toNat, timeout := timeout.toNat }
  | _ => none

/-- R12: a parameter number and a value. -/
def editParam : Edit
  | [number, v1, v0] =>
    if ({} : Params).read number.toNat = none then none
    else some fun a => { a with params := (a.params.write number.toNat (half v1 v0)).getD a.params }
  | _ => none

/-- R11: a period, a class and a scale. -/
def editScale : Edit
  | [period, cls, q] =>
    match periodOf period, classOf cls with
    | some p, some k => some fun a => { a with scales := a.scales.write p k q.toNat }
    | _, _ => none
  | _ => none

/-! ## The claim (R7, R13, R14) -/

/-- R7: EDIT-BEGIN. -/
def beginEdit : Owner := fun _ d s =>
  match s.setup.claim with
  | none => (s.onSetup fun c => { c with claim := some d }, .done .none)
  | some e => if e = d then (s, .done .none) else (s, .refused .claimed)

/-- R14: DISCARD. -/
def discardEdit : Owner := fun _ d s =>
  if s.setup.claim = some d then (s.onSetup fun c => { c with shadow := c.active, claim := none }, .done .none)
  else (s, .refused .noClaim)

/-- R13, R191: the item of the shadow copy that READ-SHADOW names; none where a selector is out of range. -/
def shadowItem (a : Settings) (item x y : Byte) : Option ShadowItem :=
  if item = 2#8 then (stationOf x y).map fun n => .station (a.station n)
  else if y ≠ 0#8 then none
  else
    match item.toNat with
    | 1 => (circuitOf x.toNat).map fun c => .circuit (a.circuit c)
    | 3 => (finOf 6 x.toNat).map fun (d : DeskId) => .desk a.desks[d]
    | 4 => (a.params.read x.toNat).map .param
    | 5 => (periodOf x).map fun p => .scales (a.scales.of p)
    | _ => none

/-- R13: READ-SHADOW. -/
def readShadow : Owner := fun args _ s =>
  match args with
  | [item, x, y] =>
    match shadowItem s.setup.shadow item x y with
    | some i => (s, .done (.shadow i s.setup.claim))
    | none => (s, .invalid)
  | _ => (s, .badLength)

/-! ## The clamps (R16 to R19) -/

/-- R16: a circuit entry brought into range. -/
def clampCircuit (x : Circuit) : Circuit :=
  { x with
    group := clampTo 0 5 x.group, alternate := x.alternate.map (clampTo 0 5)
    trip := clampTo 0 64 x.trip, tau := clampTo 0 60 x.tau }

/-- R16: a roster entry brought into range; a range that would run past 65535 loses its top. -/
def clampRoster (x : Roster) : Roster :=
  let count := clampTo 0 256 x.count
  { x with
    interval := clampTo 10 3600 x.interval, allowance := clampTo 1 8 x.allowance
    sleepLimit := clampTo 1 9 x.sleepLimit, count := min count (65536 - x.first) }

/-- R16: one desk's settings brought into range. -/
def clampDesk (x : DeskSettings) : DeskSettings :=
  { x with limit := clampTo 1 32 x.limit, timeout := clampTo 5 255 x.timeout }

/-- R16: the part parameters brought into range; trunk grace and trunk weight fill their byte. -/
def clampParams (p : Params) : Params :=
  { p with
    lampThreshold := clampTo 1 15 p.lampThreshold, loopThreshold := clampTo 1 15 p.loopThreshold
    signThreshold := clampTo 1 15 p.signThreshold, confirmWindow := clampTo 0 600 p.confirmWindow
    restoreHold := clampTo 0 3600 p.restoreHold, closeDelay := clampTo 0 3600 p.closeDelay
    trunkRetry := clampTo 1 255 p.trunkRetry, absenceGrace := clampTo 0 600 p.absenceGrace
    sweepStart := clampTo 1 15 p.sweepStart, sweepMargin := clampTo 1 4 p.sweepMargin
    cycleOffTime := clampTo 1 30 p.cycleOffTime }

/-- R16: the scales of one period brought into range. -/
def clampScales (x : Scales) : Scales :=
  { lamp := clampTo 0 32 x.lamp, loop := clampTo 0 32 x.loop, sign := clampTo 0 32 x.sign
    infra := clampTo 0 32 x.infra }

/-- R16: the first clamp.  An entry that a table does not list holds its power-on values, which are in range. -/
def clampRanges (a : Settings) : Settings :=
  let a := a.circuits.keys.foldl (fun a c => a.setCircuit c (clampCircuit (a.circuit c))) a
  let a := a.roster.keys.foldl (fun a n => a.setStation n (clampRoster (a.station n))) a
  { a with
    desks := a.desks.map clampDesk, params := clampParams a.params
    scales := ⟨clampScales a.scales.day, clampScales a.scales.night, clampScales a.scales.peak,
      clampScales a.scales.storm⟩ }

/-- R17: one step of the second clamp, which carries the bound of the entry before. -/
def clampBound (acc : Settings × Nat) (c : CircuitId) : Settings × Nat :=
  let x := acc.1.circuit c
  if x.bound < acc.2 then (acc.1.setCircuit c { x with bound := acc.2 }, acc.2) else (acc.1, x.bound)

/-- R17: the second clamp, which makes the bounds non-decreasing. -/
def clampBounds (a : Settings) : Settings := ((fins 128).foldl clampBound (a, 0)).1

/-- A range of asset numbers, first and last. -/
structure Range where
  first : Nat
  last  : Nat
deriving DecidableEq, Repr

/-- Two ranges overlap. -/
def Range.overlaps (x y : Range) : Bool := x.first ≤ y.last && y.first ≤ x.last

/-- R18: the first asset of a range raised above the overlapping earlier ranges, until it overlaps none or passes the
last asset.  Each raise clears at least one earlier range. -/
def raiseFirst (earlier : List Range) (last : Nat) : (fuel first : Nat) → Nat
  | 0, first => first
  | fuel + 1, first =>
    match (earlier.filter fun r => r.overlaps ⟨first, last⟩).map (·.last) with
    | [] => first
    | x :: rest =>
      let raised := rest.foldl max x + 1
      if last < raised then raised else raiseFirst earlier last fuel raised

/-- R18: one roster entry truncated against the earlier ranges. -/
def truncated (earlier : List Range) (x : Roster) : Roster :=
  let last := x.first + x.count - 1
  let first := raiseFirst earlier last (earlier.length + 1) x.first
  if first = x.first then x
  else if last < first then { x with first := if first ≤ 65535 then first else x.first, count := 0 }
  else { x with first, count := last + 1 - first }

/-- The range of a non-VACANT roster entry. -/
def Roster.range (x : Roster) : Range := ⟨x.first, x.first + x.count - 1⟩

/-- R18: one step of the third clamp, which carries the ranges of the earlier entries. -/
def truncateEntry (acc : Settings × List Range) (n : StationId) : Settings × List Range :=
  let x := acc.1.station n
  if x.vacant then acc
  else
    let y := truncated acc.2 x
    (acc.1.setStation n y, if y.vacant then acc.2 else y.range :: acc.2)

/-- R18: the third clamp, in trunk-then-position order. -/
def clampRosters (a : Settings) : Settings := ((fins 384).foldl truncateEntry (a, [])).1

/-- R19: one circuit's groups brought to the start of a group. -/
def clampGroups (a : Settings) (x : Circuit) : Circuit :=
  { x with
    group := (groupStart a (groupOf x.group)).val
    alternate := x.alternate.map fun g => (groupStart a (groupOf g)).val }

/-- R19: the fourth clamp.  An entry that the table does not list names group 0, which desk 0 starts. -/
def clampCircuitGroups (a : Settings) : Settings :=
  a.circuits.keys.foldl (fun a c => a.setCircuit c (clampGroups a (a.circuit c))) a

/-- R15 step 1: the clamps of R16 to R19, in that order. -/
def clampAll (a : Settings) : Settings := clampCircuitGroups (clampRosters (clampBounds (clampRanges a)))

/-! ## The three counts of ADOPT (R15) -/

/-- The number of entries in which two lists differ. -/
def differences {α : Type} [DecidableEq α] : List α → List α → Nat
  | x :: xs, y :: ys => (if x = y then 0 else 1) + differences xs ys
  | _, _ => 0

/-- The circuit entries that the clamps changed. -/
def circuitsChanged (a b : Settings) : Nat :=
  ((fins 128).filter fun c => decide (a.circuit c ≠ b.circuit c)).length

/-- The roster entries that the clamps changed. -/
def rostersChanged (a b : Settings) : Nat :=
  ((fins 384).filter fun n => decide (a.station n ≠ b.station n)).length

/-- The desk settings, part parameters and scales of a copy, one number each. -/
def otherSettings (a : Settings) : List Nat :=
  (allDesks.flatMap fun d => [(a.desks[d]).limit, (a.desks[d]).timeout]) ++
    [a.params.lampThreshold, a.params.loopThreshold, a.params.signThreshold, a.params.confirmWindow,
      a.params.restoreHold, a.params.closeDelay, a.params.trunkGrace, a.params.trunkRetry, a.params.trunkWeight,
      a.params.absenceGrace, a.params.sweepStart, a.params.sweepMargin, a.params.cycleOffTime] ++
    [a.scales.day, a.scales.night, a.scales.peak, a.scales.storm].flatMap
      fun q => [q.lamp, q.loop, q.sign, q.infra]

/-- The desk settings, part parameters and scales that the clamps changed. -/
def othersChanged (a b : Settings) : Nat := differences (otherSettings a) (otherSettings b)

/-! ## The incident table and the urgency unit at adoption (R65, R77) -/

/-- R65: an incident moved to its new home group, if its home group has changed. -/
def rehome (c : Setup) (old : Settings) (i : Incident) : Incident :=
  let home := homeGroup c.active i.subject i.tripped
  if home ≠ homeGroup old i.subject i.tripped ∧ home ≠ i.group then moveGroup home i else i

/-- R65: an incident whose group no longer starts a group moved to the start of the group that has that desk. -/
def toGroupStart (c : Setup) (i : Incident) : Incident :=
  if startsGroup c.active i.group then i else moveGroup (groupStart c.active i.group) i

/-- R65: the subject's station is now VACANT, or its trunk has no station left. -/
def subjectGone (c : Setup) : Subject → Bool
  | .circuit _ => false
  | .station n => (c.active.station n).vacant
  | .trunk t => occupied c.active t = 0

/-- R65: one incident's answer to adoption. -/
def adoptIncident (c : Setup) (old : Settings) (i : Incident) : Incident :=
  if subjectGone c i.subject then closeNow c i else toGroupStart c (rehome c old i)

/-- R65: the incident table's answer to adoption, in ascending order of index. -/
def Board.adoptIncidents (c : Setup) (old : Settings) (b : Board) : Board :=
  b.allIncidents.foldl (fun b i =>
    match b.incident i with
    | some x => if x.live then b.commit .table i (adoptIncident c old x) else b
    | none => b) b

/-- R77: one incident's schedule set afresh from the new aging step. -/
def Board.reschedule (c : Setup) (i : IncidentId) (b : Board) : Board :=
  match b.incident i with
  | some x =>
    if x.live then
      let tau := tauOf c x.subject
      b.setAging i (boundaryAfter tau x.openedAt (ageOf c x / tau))
    else b
  | none => b

/-- R77: the urgency unit's answer to adoption. -/
def Board.adoptUrgency (c : Setup) (b : Board) : Board :=
  b.allIncidents.foldl (fun b i => (b.recompute c i).reschedule c i) b

/-- R101 steps 1 and 2: the arbiter's answer to adoption, but for the runs, which R85 puts at the end of the event
(`State.runEvery`). -/
def Board.adoptOffers (c : Setup) (b : Board) : Board := (b.formGroups c).withdrawStrays c

/-! ## ADOPT (R15, R20) -/

/-- R20: the adoption event, answered block by block, up to the arbiter's runs; `old` is the copy that has been
replaced. -/
def State.adoption (old : Settings) (s : State) : State :=
  let s := ((s.adoptStations old).adoptChains).reexamineAll
  let s := s.onBoard fun c b => b.adoptIncidents c old
  let s := s.onBoard fun c b => b.adoptUrgency c
  let s := s.onBoard fun c b => b.adoptOffers c
  s.adoptOps

/-- R15: ADOPT. -/
def adoptEdit : Owner := fun _ d s =>
  if s.setup.claim = some d then
    let written := s.setup.shadow
    let clamped := clampAll written
    let old := s.setup.active
    let s := s.onSetup fun c => { c with active := clamped, shadow := clamped, claim := none }
    (s.adoption old, .done (.adopted (circuitsChanged written clamped) (rostersChanged written clamped)
      (othersChanged written clamped)))
  else (s, .refused .noClaim)

/-- R85, R101 step 3: every group run, once the other effects of an adoption are made, its result and the clearing of the
unresponsive flag (R93) among them. -/
def State.runEvery (s : State) : State := s.onBoard Board.runAll

end Sys2Proof.Machine
end

