-- ==== Sys2Proof/Machine/Operations.lean ====
section
/-! DEFINITION. The operations engine: starting an operation, taking a reply, walking a sweep, and the deadlines
(R159 to R167). -/

namespace Sys2Proof.Machine

/-! ## Starting (R159) -/

/-- R159: the non-VACANT roster entry of the active copy whose owned range holds an asset. -/
def ownerOf (a : Settings) (asset : Nat) : Option StationId :=
  (fins 384).find? fun n => !(a.station n).vacant && (a.station n).owns asset

/-- R159: the opening frame of an operation. -/
def openingFrame (o : OpId) (k : OpKind) (asset : Nat) (p : Params) : Payload :=
  match k with
  | .probe => .probe o asset
  | .cycle => .cycle o asset p.cycleOffTime
  | .sweep => .sweepStep o asset p.sweepStart

/-- R159: the time an operation, or the first step of a sweep, has from the acceptance of its opening frame. -/
def openingLimit (k : OpKind) (p : Params) : Nat :=
  match k with
  | .probe => probeLimit
  | .cycle => p.cycleOffTime + cycleExtra
  | .sweep => stepTimeout

/-- R159: the record of an operation at its start. -/
def newOp (s : State) (k : OpKind) (d : DeskId) (n : StationId) (asset : Nat) : Op :=
  let p := s.setup.active.params
  { kind := k, desk := d, station := n, asset, state := .sent
    level := if k = .sweep then some p.sweepStart else none, direction := none, steps := 0, retried := false
    deadline := s.setup.time + openingLimit k p, offTime := p.cycleOffTime, startLevel := p.sweepStart
    margin := p.sweepMargin, noise := none }

/-- R159: the operation starts in one event. -/
def State.startOp (o : OpId) (k : OpKind) (d : DeskId) (n : StationId) (asset : Nat) (s : State) : State :=
  let x := newOp s k d n asset
  let s := (s.setOp o x).onField fun f => { f with lastOp := o }
  let s := s.hand (stationTrunk n) (toStation n (openingFrame o k asset s.setup.active.params))
  let s := s.updStation n fun y => { y with op := some o }
  if k.marks then s.markAsset asset else s

/-- R159: PROBE, CYCLE and SWEEP; the first line that applies decides. -/
def requestOp (k : OpKind) : Owner := fun args d s =>
  match args with
  | [a1, a0] =>
    match ownerOf s.setup.active (half a1 a0) with
    | none => (s, .refused .noStation)
    | some n =>
      if k.allows (s.roster n).kind = false then (s, .invalid)
      else if (s.board.desks[d]).onDuty = false then (s, .refused .offDuty)
      else if (s.trunk (stationTrunk n)).state ≠ .running then (s, .refused .notRunning)
      else if (s.station n).mode ≠ .active then (s, .refused .notActive)
      else if (s.station n).hold.held then (s, .refused .held)
      else if (s.station n).op.isSome then (s, .refused .busy)
      else
        match s.field.freeOpIndex with
        | none => (s, .refused .full)
        | some o =>
          if (s.trunk (stationTrunk n)).queueFull then (s, .refused .full)
          else
            (s.startOp o k d n (half a1 a0),
              .done (.started o k n (s.setup.time + openingLimit k s.setup.active.params)))
  | _ => (s, .badLength)

/-! ## Replies (R160 to R166) -/

/-- R166: the reply kinds that an operation takes in a state. -/
def takesReply (k : OpKind) (x : OpState) (r : Reply) : Bool :=
  match k, x, r with
  | .probe, .sent, .probeReading _ => true
  | .cycle, .sent, .cycleOff => true
  | .cycle, .sent, .cycleFinal _ => true
  | .cycle, .settling, .cycleFinal _ => true
  | .sweep, .sent, .sample _ _ => true
  | .sweep, .stepping, .sample _ _ => true
  | .sweep, .ending, .sample _ _ => true
  | .sweep, .ending, .confirmation _ => true
  | _, _, .rejected => true
  | _, _, _ => false

/-- R162, R163: where a sample at the level asked takes a sweep. -/
inductive Walk where
  | ask (level : Nat)
  | check (c : Condition)
  | found (n : Nat)
deriving DecidableEq, Repr

/-- R162: the direction that the first sample sets; later samples keep it. -/
def walkDirection (x : Op) (detects : Bool) : Direction :=
  match x.direction with
  | some d => d
  | none => if detects then .down else .up

/-- R162, R163: the tables of the first sample and of the later ones. -/
def walk (x : Op) (level : Nat) (detects : Bool) : Walk :=
  match walkDirection x detects, detects with
  | .up, false => if level < 15 then .ask (level + 1) else .check .loopOpen
  | .up, true => .found level
  | .down, true => if 1 < level then .ask (level - 1) else .check .stuckOn
  | .down, false => .found (level + 1)

/-- R163, R165: the level a margin below the noise level, or 1. -/
def operatingLevel (n margin : Nat) : Nat := max 1 (n - margin)

/-- R163, R164, R165, R167: a frame of a sweep handed to the trunk: accepted, the record becomes `y`; refused as full, the
operation ends.  DESIGN CHOICE (log entry 40): its OP-DONE carries no outcome, also where the frame is a SET-LEVEL, whose
level and N are known. -/
def State.sendStep (o : OpId) (y : Op) (p : Payload) (s : State) : State :=
  let t := stationTrunk y.station
  if s.answerTo t = .accepted then (s.hand t (toStation y.station p)).setOp o y else s.endOp o .full .none .none

/-- R163: a sample taken as a step: steps up by 1, the retry used flag clear, the direction set. -/
def stepped (x : Op) (detects : Bool) : Op :=
  { x with steps := x.steps + 1, retried := false, direction := some (walkDirection x detects) }

/-- R162, R163, R165: a sample at the level asked. -/
def State.takeSample (o : OpId) (x : Op) (level : Nat) (detects : Bool) (s : State) : State :=
  let y := stepped x detects
  let s := s.setOp o y
  let deadline := s.setup.time + stepTimeout
  match walk x level detects with
  | .ask l => s.sendStep o { y with state := .stepping, level := some l, deadline } (.sweepStep o x.asset l)
  | .check c => s.endOp o .equipmentCheck (.equipment c) (.condition c)
  | .found n =>
    let l := operatingLevel n x.margin
    s.sendStep o { y with state := .ending, level := some l, deadline, noise := some n } (.setLevel o x.asset l)

/-- R166: a reading that no asset of the kind can have.  DESIGN CHOICE (log entry 40): the OP-DONE carries no outcome. -/
def State.badReply (o : OpId) (x : Op) (s : State) : State :=
  (s.errorOn (stationTrunk x.station) .badCondition (.position (stationTrunk x.station) (labelOf x.station))).endOp o
    .badReply .none .none

/-- R160, R161, R166: a condition read by PROBE or CYCLE: an applied report and DONE, or BAD-REPLY where it is not
reportable for the asset's kind. -/
def State.takeReading (o : OpId) (x : Op) (c : Option Condition) (s : State) : State :=
  match (s.roster x.station).kind, c with
  | some k, some c =>
    if reportable k c then s.endOp o .done (.report c) (.condition c) else s.badReply o x
  | _, _ => s.badReply o x

/-- R160 to R166: a reply that the engine takes.  DESIGN CHOICE (log entry 40): the OP-DONE of a rejected operation carries
no outcome. -/
def State.actOnReply (o : OpId) (x : Op) (r : Reply) (s : State) : State :=
  match r with
  | .probeReading c => s.takeReading o x c
  | .cycleOff => s.setOp o { x with state := .settling }
  | .cycleFinal c => s.takeReading o x c
  | .sample level detects =>
    if x.state = .ending ∨ x.level ≠ some level then s else s.takeSample o x level detects
  | .confirmation level =>
    if x.level = some level then s.endOp o .done .lockRemedy (.levels (x.noise.getD 0) level) else s
  | .rejected => s.endOp o .rejected .none .none

/-- R166: the operation that a reply from a station matches, with the reply. -/
def matchReply (s : State) (n : StationId) (index a1 a0 kind v1 v2 : Byte) : Option (OpId × Op × Reply) :=
  match finOf 32 index.toNat, replyOf kind v1 v2 with
  | some o, some r =>
    match s.field.ops.find o with
    | some x =>
      if x.station = n ∧ x.asset = half a1 a0 ∧ takesReply x.kind x.state r = true then some (o, x, r) else none
    | none => none
  | _, _ => none

/-- R166: an OP-REPLY of a station that has been heard. -/
def State.takeReply (n : StationId) (index a1 a0 kind v1 v2 : Byte) (s : State) : State :=
  match matchReply s n index a1 a0 kind v1 v2 with
  | some (o, x, r) => s.actOnReply o x r
  | none => s.strayReply (stationTrunk n) (.label (stationTrunk n) (labelOf n))

/-! ## Deadlines (R160, R161, R164, R165) -/

/-- The operation of a kind at an index whose deadline has come. -/
def dueOp (s : State) (o : OpId) (k : OpKind) : Option Op :=
  match s.field.ops.find o with
  | some x => if x.kind = k ∧ x.deadline ≤ s.setup.time then some x else none
  | none => none

/-- R164, R165: a step deadline: the frame sent a second time, or the end of the sweep.  DESIGN CHOICE (log entry 40): the
OP-DONE of a sweep that ends NO-ANSWER carries no outcome, that of one in ENDING neither. -/
def State.stepExpires (o : OpId) (x : Op) (s : State) : State :=
  if x.retried then s.endOp o .noAnswer .none .none
  else
    let level := x.level.getD x.startLevel
    let y := { x with retried := true, deadline := s.setup.time + stepTimeout }
    s.sendStep o y (if x.state = .ending then .setLevel o x.asset level else .sweepStep o x.asset level)

/-! ## ABORT-OP (R170) -/

/-- R170: ABORT-OP; the first line that applies decides. -/
def abortOperation : Owner := fun args d s =>
  match args with
  | [index] =>
    match finOf 32 index.toNat with
    | none => (s, .invalid)
    | some o =>
      if (s.board.desks[d]).onDuty = false then (s, .refused .offDuty)
      else
        match s.field.ops.find o with
        | none => (s, .refused .notInFlight)
        | some x => (s.loseOp o .lostAborted, .done (.abortedOp x.kind x.asset x.station x.state))
  | _ => (s, .badLength)

end Sys2Proof.Machine
end

