-- ==== Sys2Proof/WellFormed.lean ====
section
/-! DEFINITION. What a step must satisfy beyond its type to be a step of the part: a command frame must fit a desk
frame, and an asset number must be one of 0 to 65535.  Every other operand is a number of its own bounded type. -/

namespace Sys2Proof

/-- R176: the length byte counts the kind byte and the body and is at most 255, so a body holds 0 to 254 bytes. -/
def bodyFits (body : List Byte) : Bool := body.length ≤ 254

/-- 00_scope, Terms: asset numbers run 0 to 65535. -/
def assetFits (asset : Nat) : Bool := asset ≤ 65535

/-- The steps that can reach the part. -/
def Instr.wf : Instr → Bool
  | .commandFrame _ body => bodyFits body
  | .confirmWindowExpiry a => assetFits a
  | .restoreHoldExpiry a => assetFits a
  | _ => true

end Sys2Proof
end

