-- ==== Sys2Proof/Machine/LinkEvents.lean ====
section
/-! DEFINITION. The meanings of the rows on power, desk lines, command frames, ABORT and RESET. -/

namespace Sys2Proof.Machine

/-- POWER_ON (R1, R187). -/
def execPowerOn (lines : DeskSet) (s : State) : Answer := .next (s.powerOn lines)

/-- LINK_DOWN (R174, R8, R99); a link that is DOWN already takes no such event. -/
def execLinkDown (d : DeskId) (s : State) : Answer :=
  .next (if (s.board.links[d]).up then s.event (State.linkDown d) else s)

/-- LINK_UP (R175, R100); a link that is UP already takes no such event. -/
def execLinkUp (d : DeskId) (s : State) : Answer :=
  .next (if (s.board.links[d]).up then s else s.event (State.linkUp d))

/-- COMMAND_FRAME (R179). -/
def execCommandFrame (d : DeskId) (body : List Byte) (s : State) : Answer :=
  if bodyFits body then .next (s.commandEvent d body) else .fault .notAFrame

/-- BAD_CRC (R177). -/
def execBadCrc (d : DeskId) (s : State) : Answer := .next (s.errorEvent d .badCrc)

/-- BAD_KIND (R177). -/
def execBadKind (d : DeskId) (s : State) : Answer := .next (s.errorEvent d .badKind)

/-- BAD_FRAME (R177): a length byte of 0. -/
def execBadFrame (d : DeskId) (s : State) : Answer := .next (s.errorEvent d .badFrame)

/-- BYTE_TIMEOUT (R177): it abandons a frame in reception; a hunting receiver has none. -/
def execByteTimeout (d : DeskId) (s : State) : Answer :=
  .next (if (s.board.links[d]).receiver.isSome then s.errorEvent d .badFrame else s)

/-- DESK_BYTE (R177). -/
def execDeskByte (d : DeskId) (b : Byte) (s : State) : Answer :=
  .next (if (s.board.links[d]).up then s.event (State.receive d b) else s)

/-- RESULT_SENT (R178). -/
def execResultSent (d : DeskId) (s : State) : Answer :=
  .next (if (s.board.links[d]).sendsResult then s.event (State.updLink d Link.resultSent) else s)

/-- NOTICE_SENT (R178). -/
def execNoticeSent (d : DeskId) (s : State) : Answer :=
  .next (if (s.board.links[d]).sendsNotice then s.event (State.updLink d fun l => { l with sending := .idle }) else s)

/-- ABORT (R180): the frame of that code taken by the link at once. -/
def execAbort (d : DeskId) (s : State) : Answer := .next (s.commandEvent d [0x0E#8])

/-- RESET_LEVEL_1 (R185): the frame of that code and level taken by the link at once. -/
def execResetLevel1 (d : DeskId) (s : State) : Answer := .next (s.commandEvent d [0x0F#8, 1#8])

/-- RESET_LEVEL_2 (R185, R186). -/
def execResetLevel2 (d : DeskId) (s : State) : Answer := .next (s.commandEvent d [0x0F#8, 2#8])

/-- RESET_LEVEL_3 (R185, R186). -/
def execResetLevel3 (d : DeskId) (s : State) : Answer := .next (s.commandEvent d [0x0F#8, 3#8])

end Sys2Proof.Machine
end

