-- ==== Sys2Proof/Machine/DeskCommands.lean ====
section
/-! DEFINITION. The meanings of the desk commands on desks, offers, incidents and the period: identity and status, duty,
answers to offers, held incidents, and reading the fault picture. -/

namespace Sys2Proof.Machine

/-! ## Identity and status (R183, R184) -/

/-- R184: IDENTIFY. -/
def identifyPart : Owner := fun _ _ s => (s, .done (.identity s.setup.time))

/-- IDENTIFY (R184). -/
def execIdentify (d : DeskId) (s : State) : Answer := .next (s.serve 0x01#8 d identifyPart)

/-- R183: the status of a desk as it stands. -/
def senseData (d : DeskId) (s : State) : SenseData :=
  let x := s.board.desks[d]
  let l := s.board.links[d]
  { onDuty := x.onDuty, slot := x.slot, assigned := x.assigned, lastWithdrawn := x.lastWithdrawn
    overflow := l.overflow, unresponsive := x.unresponsive, holdsClaim := s.setup.claim = some d
    notices := l.notices.length, badCrc := l.badCrc, badFrame := l.badFrame, badKind := l.badKind
    time := s.setup.time, period := s.setup.period }

/-- R183: SENSE. -/
def senseDesk : Owner := fun _ d s => (s, .done (.sense (senseData d s)))

/-- R183: after the status has been taken, the overflow count becomes 0 and the attention flag clears. -/
def Link.sensed (l : Link) : Link := { l with overflow := 0, attention := false }

/-- SENSE (R183): the clearing comes after the result, which carries the flag as it was. -/
def execSense (d : DeskId) (s : State) : Answer :=
  .next (match waitingArgs s d 0x02#8 with
    | some args => s.carryOut 0x02#8 d args senseDesk (State.updLink d Link.sensed)
    | none => s)

/-! ## Duty (R97, R98) -/

/-- R97: SIGN-ON. -/
def signOnDesk : Owner := fun _ d s =>
  (s.updDesk d fun x => { x with onDuty := true }, .done (.count (s.board.desks[d]).assigned))

/-- SIGN_ON (R97). -/
def execSignOn (d : DeskId) (s : State) : Answer := .next (s.serve 0x03#8 d signOnDesk)

/-- R98: SIGN-OFF; the first line that applies decides. -/
def signOffDesk : Owner := fun args d s =>
  match args with
  | [option] =>
    match optionOf option with
    | none => (s, .invalid)
    | some all =>
      if 0 < (s.board.desks[d]).assigned ∧ all = false then (s, .refused .holdsIncidents)
      else (s.onBoard fun _ b => (b.signOff d all).2, .done (.count (s.board.signOff d all).1))
  | _ => (s, .badLength)

/-- SIGN_OFF (R98). -/
def execSignOff (d : DeskId) (s : State) : Answer := .next (s.serve 0x04#8 d signOffDesk)

/-! ## Incident indices -/

/-- The incident an index names, in the event that takes it. -/
def withIndex (hi lo : Byte) (s : State) (g : IncidentId → State × Verdict) : State × Verdict :=
  match finOf 640 (half hi lo) with
  | some i => g i
  | none => (s, .invalid)

/-! ## Answers to offers (R87, R88) -/

/-- The desk's offer slot holds the incident (R87, R88). -/
def Desk.offers (x : Desk) (i : IncidentId) : Bool := (x.slot.map (·.incident)) = some i

/-- R87: ACCEPT; the first line that applies decides. -/
def acceptIncident : Owner := fun args d s =>
  match args with
  | [hi, lo] => withIndex hi lo s fun i =>
    let x := s.board.desks[d]
    if x.offers i then
      let s := s.onBoard fun _ b => b.acceptOffer d i
      (s, .done (.accepted i (s.board.change i) (s.board.desks[d]).assigned))
    else if x.lastWithdrawn = some i then (s, .tooLate)
    else (s, .refused .notOffered)
  | _ => (s, .badLength)

/-- ACCEPT (R87). -/
def execAccept (d : DeskId) (s : State) : Answer := .next (s.serve 0x20#8 d acceptIncident)

/-- R88: DECLINE; the first line that applies decides. -/
def declineIncident : Owner := fun args d s =>
  match args with
  | [hi, lo] => withIndex hi lo s fun i =>
    let x := s.board.desks[d]
    if x.offers i then
      let s := s.onBoard fun c b => b.declineOffer c d i
      (s, .done (.incident i (s.board.change i)))
    else if x.lastWithdrawn = some i then (s, .tooLate)
    else (s, .refused .notOffered)
  | _ => (s, .badLength)

/-- DECLINE (R88). -/
def execDecline (d : DeskId) (s : State) : Answer := .next (s.serve 0x21#8 d declineIncident)

/-! ## Giving up incidents (R95, R96) -/

/-- R95: RELEASE; the first line that applies decides. -/
def releaseIncident : Owner := fun args d s =>
  match args with
  | [hi, lo] => withIndex hi lo s fun i =>
    match s.board.incident i with
    | none => (s, .refused .closed)
    | some x =>
      if x.state = .closed then (s, .refused .closed)
      else if x.assigned ≠ some d then (s, .refused .notHolder)
      else
        let s := s.onBoard fun _ b => b.releaseOne d i
        (s, .done (.incident i (s.board.change i)))
  | _ => (s, .badLength)

/-- RELEASE (R95). -/
def execRelease (d : DeskId) (s : State) : Answer := .next (s.serve 0x22#8 d releaseIncident)

/-- R96: HANDOVER; the first line that applies decides, and a desk that is no start stands for its group's start. -/
def handOverIncident : Owner := fun args d s =>
  match args with
  | [hi, lo, desk] => withIndex hi lo s fun i =>
    match finOf 6 desk.toNat with
    | none => (s, .invalid)
    | some g =>
      match s.board.incident i with
      | none => (s, .refused .closed)
      | some x =>
        if x.state = .closed then (s, .refused .closed)
        else if x.assigned ≠ some d then (s, .refused .notHolder)
        else if x.state = .restored then (s, .refused .restored)
        else
          let start := groupStart s.setup.active g
          let s := s.onBoard fun _ b => b.handOver d start i
          (s, .done (.handedOver i (s.board.change i) start))
  | _ => (s, .badLength)

/-- HANDOVER (R96). -/
def execHandover (d : DeskId) (s : State) : Answer := .next (s.serve 0x23#8 d handOverIncident)

/-! ## CLOSE and TAG (R62 to R64) -/

/-- R62: the refusal that CLOSE meets, if any; the first line that applies decides. -/
def closeRefusal (x : Incident) (d : DeskId) (onDuty forget : Bool) : Option Reason :=
  match x.state with
  | .closed => some .closed
  | .opened => some .notAssigned
  | .offered => some .notAssigned
  | _ =>
    if x.assigned.isSome ∧ x.assigned ≠ some d then some .notHolder
    else if x.assigned = none ∧ onDuty = false then some .offDuty
    else if x.isCircuit ∧ x.hasFaults ∧ forget = false then some .membersPresent
    else none

/-- R63: the members forgotten and the unrecorded count zeroed; the class keeps its value. -/
def forgotten (x : Incident) : Incident :=
  if x.isCircuit then { x with members := [], unrecorded := 0, worst := none } else x

/-- R62: the incident closed on a desk's word. -/
def State.closeIncident (i : IncidentId) (x : Incident) (forget : Bool) (s : State) : State :=
  let s := if forget && x.isCircuit then s.onFaults (Faults.forget x.members) else s
  s.onBoard fun c b => b.commit .command i (closeNow c (if forget then forgotten x else x))

/-- R62: CLOSE. -/
def closeCommand : Owner := fun args d s =>
  match args with
  | [hi, lo, option] => withIndex hi lo s fun i =>
    match optionOf option with
    | none => (s, .invalid)
    | some forget =>
      match s.board.incident i with
      | none => (s, .refused .closed)
      | some x =>
        match closeRefusal x d (s.board.desks[d]).onDuty forget with
        | some r => (s, .refused r)
        | none =>
          let s := s.closeIncident i x forget
          (s, .done (.change (s.board.change i)))
  | _ => (s, .badLength)

/-- CLOSE (R62). -/
def execClose (d : DeskId) (s : State) : Answer := .next (s.serve 0x24#8 d closeCommand)

/-- R64: a printable character. -/
def printable (b : Byte) : Bool := 0x20 ≤ b.toNat && b.toNat ≤ 0x7E

/-- R64: the crew tag that a text sets; a text of 0 characters clears it. -/
def tagOf (text : List Byte) : Option (List Byte) := if text.isEmpty then none else some text

/-- R64: TAG. -/
def tagCommand : Owner := fun args d s =>
  match args with
  | hi :: lo :: text => withIndex hi lo s fun i =>
    if 16 < text.length ∨ text.all printable = false then (s, .invalid)
    else
      match s.board.incident i with
      | none => (s, .refused .closed)
      | some x =>
        if x.state = .closed then (s, .refused .closed)
        else if x.assigned.isSome ∧ x.assigned ≠ some d then (s, .refused .notHolder)
        else if x.assigned = none ∧ (s.board.desks[d]).onDuty = false then (s, .refused .offDuty)
        else
          let s := s.onBoard fun _ b => b.commit .command i { x with tag := tagOf text }
          (s, .done (.change (s.board.change i)))
  | _ => (s, .badLength)

/-- TAG (R64). -/
def execTag (d : DeskId) (s : State) : Answer := .next (s.serve 0x25#8 d tagCommand)

/-! ## The period (R76) -/

/-- R76: the period changed and every live incident computed. -/
def State.changePeriod (p : Period) (s : State) : State :=
  (s.onSetup fun c => { c with period := p }).onBoard fun c b => b.allIncidents.foldl (fun b i => b.recompute c i) b

/-- R76: SET-PERIOD; the first line that applies decides. -/
def setPeriodCommand : Owner := fun args d s =>
  match args with
  | [code] =>
    match periodOf code with
    | none => (s, .invalid)
    | some p =>
      if (s.board.desks[d]).onDuty = false then (s, .refused .offDuty)
      else if p = s.setup.period then (s, .done (.period p p))
      else (s.changePeriod p, .done (.period p s.setup.period))
  | _ => (s, .badLength)

/-- SET_PERIOD (R76). -/
def execSetPeriod (d : DeskId) (s : State) : Answer := .next (s.serve 0x48#8 d setPeriodCommand)

/-! ## Reading (R41, R66, R102) -/

/-- R102: one entry of a pending queue. -/
def pendingEntry (b : Board) (i : IncidentId) : Option PendingEntry :=
  (b.incident i).map fun x =>
    { index := i, subject := x.subject, cls := x.cls, urgency := x.urgency, openedAt := x.openedAt
      rounds := x.rounds, declined := x.declined, change := b.change i }

/-- R102: LIST-PENDING.  DESIGN CHOICE (log entry 38): the code of an absent offset (R189) is read as the number 65535. -/
def listQueue : Owner := fun args _ s =>
  match args with
  | [desk, o1, o0] =>
    match finOf 6 desk.toNat with
    | none => (s, .invalid)
    | some d =>
      let g := groupStart s.setup.active d
      let queue := s.board.queues[g]
      (s, .done (.pendingPage
        { group := g, desks := groupSet s.setup.active g, timeout := s.board.timeouts[g]
          pointer := s.board.pointers[g], total := queue.length, offset := half o1 o0
          entries := ((queue.drop (half o1 o0)).take 15).filterMap (pendingEntry s.board) }))
  | _ => (s, .badLength)

/-- LIST_PENDING (R102). -/
def execListPending (d : DeskId) (s : State) : Answer := .next (s.serve 0x10#8 d listQueue)

/-- R66: READ-INCIDENT.  DESIGN CHOICE (log entry 38): the code of an absent offset (R189) is read as the number 65535. -/
def readIncidentRecord : Owner := fun args _ s =>
  match args with
  | [hi, lo, o1, o0] => withIndex hi lo s fun i =>
    let r := s.board.record i
    let members := (r.body.map (·.members)).getD []
    (s, .done (.incidentPage
      { index := i, change := r.change, body := r.body.map fun x => { x with members := [] }
        total := members.length, members := (members.drop (half o1 o0)).take 21 }))
  | _ => (s, .badLength)

/-- READ_INCIDENT (R66). -/
def execReadIncident (d : DeskId) (s : State) : Answer := .next (s.serve 0x11#8 d readIncidentRecord)

/-- R41: READ-FAULT. -/
def readFaultRecord : Owner := fun args _ s =>
  match args with
  | [a1, a0] =>
    let asset := half a1 a0
    (s, .done (.faultView
      { record := s.faults.find asset, marked := s.faults.marked asset, records := s.faults.records.length
        dropped := s.faults.dropped }))
  | _ => (s, .badLength)

/-- READ_FAULT (R41). -/
def execReadFault (d : DeskId) (s : State) : Answer := .next (s.serve 0x12#8 d readFaultRecord)

end Sys2Proof.Machine
end

