-- ==== Sys2Proof/Machine/FieldCommands.lean ====
section
/-! DEFINITION. The meanings of the desk commands on stations, trunks, chains, operations and settings. -/

namespace Sys2Proof.Machine

/-! ## Stations (R115, R116, R123) -/

/-- R115, R116: the hold set and mode after the command. -/
def heldData (n : StationId) (s : State) : ResultData := .held (s.station n).hold (s.station n).mode

/-- R115: HOLD; the first line that applies decides. -/
def holdStation : Owner := fun args d s =>
  match args with
  | [trunk, position] =>
    match stationOf trunk position with
    | none => (s, .invalid)
    | some n =>
      if (s.board.desks[d]).onDuty = false then (s, .refused .offDuty)
      else if (s.roster n).vacant then (s, .refused .vacant)
      else
        let s := s.changeHold n fun h => { h with desk := true }
        (s, .done (heldData n s))
  | _ => (s, .badLength)

/-- HOLD (R115). -/
def execHold (d : DeskId) (s : State) : Answer := .next (s.serve 0x30#8 d holdStation)

/-- R116: UNHOLD; the first line that applies decides. -/
def unholdStation : Owner := fun args d s =>
  match args with
  | [trunk, position] =>
    match stationOf trunk position with
    | none => (s, .invalid)
    | some n =>
      if (s.board.desks[d]).onDuty = false then (s, .refused .offDuty)
      else if (s.roster n).vacant then (s, .refused .vacant)
      else if (s.station n).hold = ⟨false, true⟩ then (s, .refused .heldAtCabinet)
      else
        let s := s.changeHold n fun h => { h with desk := false }
        (s, .done (heldData n s))
  | _ => (s, .badLength)

/-- UNHOLD (R116). -/
def execUnhold (d : DeskId) (s : State) : Answer := .next (s.serve 0x31#8 d unholdStation)

/-- R123: READ-STATION. -/
def readStationRecord : Owner := fun args _ s =>
  match args with
  | [trunk, position] =>
    match stationOf trunk position with
    | none => (s, .invalid)
    | some n =>
      let x := s.station n
      (s, .done (.stationView
        { roster := s.roster n, live := x, trunk := (s.trunk (stationTrunk n)).state
          agrees := (x.identity.map (identityAgrees (s.roster n))).getD false }))
  | _ => (s, .badLength)

/-- READ_STATION (R123). -/
def execReadStation (d : DeskId) (s : State) : Answer := .next (s.serve 0x13#8 d readStationRecord)

/-! ## Trunks (R127, R130, R141) -/

/-- The trunk that a command names. -/
def withTrunk (trunk : Byte) (s : State) (g : TrunkId → State × Verdict) : State × Verdict :=
  match finOf 16 trunk.toNat with
  | some t => g t
  | none => (s, .invalid)

/-- R127: TRUNK-START; the first line that applies decides. -/
def startTrunkCommand : Owner := fun args _ s =>
  match args with
  | [trunk] => withTrunk trunk s fun t =>
    match (s.trunk t).state with
    | .running => (s, .refused .running)
    | .starting => (s, .done .none)
    | .off => (s.updTrunk t (Trunk.enterStarting s.setup.time .fromOff), .done .none)
    | .faulted => (s.updTrunk t (Trunk.enterStarting s.setup.time .commandFromFaulted), .done .none)
  | _ => (s, .badLength)

/-- TRUNK_START (R127). -/
def execTrunkStart (d : DeskId) (s : State) : Answer := .next (s.serve 0x40#8 d startTrunkCommand)

/-- R130: TRUNK-STOP. -/
def stopTrunkCommand : Owner := fun args _ s =>
  match args with
  | [trunk] => withTrunk trunk s fun t =>
    if (s.trunk t).state = .off then (s, .done .none) else (s.stopTrunk t, .done .none)
  | _ => (s, .badLength)

/-- TRUNK_STOP (R130). -/
def execTrunkStop (d : DeskId) (s : State) : Answer := .next (s.serve 0x41#8 d stopTrunkCommand)

/-- R141: the fields of a trunk and of its chain controller.  DESIGN CHOICE (log entry 33): the labelling in flight is
shown by its position alone, without the label deadline that R143 holds with it. -/
def trunkView (t : TrunkId) (s : State) : TrunkView :=
  let x := s.trunk t
  let c := s.chain t
  { state := x.state, upCredit := x.upCredit, downCredit := x.downCredit, buffered := x.buffer.length
    queued := x.queue.length, transmitting := x.transmitting.isSome, startDeadline := x.startDeadline
    retryDeadline := x.retryDeadline, graceDeadline := x.graceDeadline, faultTime := x.faultTime
    attempts := x.attempts, counters := x.counters, census := c.census.isSome, again := c.again
    labelling := c.labelling.map (·.position), occupied := occupied s.setup.active t }

/-- R141: READ-TRUNK. -/
def readTrunkRecord : Owner := fun args _ s =>
  match args with
  | [trunk] => withTrunk trunk s fun t => (s, .done (.trunkView (trunkView t s)))
  | _ => (s, .badLength)

/-- READ_TRUNK (R141). -/
def execReadTrunk (d : DeskId) (s : State) : Answer := .next (s.serve 0x14#8 d readTrunkRecord)

/-- R141: READ-ERROR. -/
def readErrorRecord : Owner := fun _ _ s => (s, .done (.errorView s.error))

/-- READ_ERROR (R141). -/
def execReadError (d : DeskId) (s : State) : Answer := .next (s.serve 0x15#8 d readErrorRecord)

/-! ## Chains (R150, R153) -/

/-- R153: CENSUS; the first line that applies decides. -/
def censusCommand : Owner := fun args _ s =>
  match args with
  | [trunk] => withTrunk trunk s fun t =>
    if (s.trunk t).state ≠ .running then (s, .refused .notRunning)
    else if (s.chain t).busy then (s.updChain t fun c => { c with again := true }, .done (.census false))
    else if (s.trunk t).queueFull then (s, .refused .full)
    else (s.startCensus t, .done (.census true))
  | _ => (s, .badLength)

/-- CENSUS (R153). -/
def execCensus (d : DeskId) (s : State) : Answer := .next (s.serve 0x42#8 d censusCommand)

/-- R150: LABEL-CHAIN; the first line that applies decides. -/
def labelChainCommand : Owner := fun args _ s =>
  match args with
  | [trunk] => withTrunk trunk s fun t =>
    if (s.trunk t).state ≠ .running then (s, .refused .notRunning)
    else if (s.chain t).busy then (s, .refused .busy)
    else if labelChainFits s t = false then (s, .refused .full)
    else (s.relabel t, .done (.labelled (occupiedPositions s t).length))
  | _ => (s, .badLength)

/-- LABEL_CHAIN (R150). -/
def execLabelChain (d : DeskId) (s : State) : Answer := .next (s.serve 0x43#8 d labelChainCommand)

/-! ## Operations (R159, R170) -/

/-- PROBE (R159). -/
def execProbe (d : DeskId) (s : State) : Answer := .next (s.serve 0x38#8 d (requestOp .probe))

/-- CYCLE (R159). -/
def execCycle (d : DeskId) (s : State) : Answer := .next (s.serve 0x39#8 d (requestOp .cycle))

/-- SWEEP (R159). -/
def execSweep (d : DeskId) (s : State) : Answer := .next (s.serve 0x3A#8 d (requestOp .sweep))

/-- ABORT_OP (R170). -/
def execAbortOp (d : DeskId) (s : State) : Answer := .next (s.serve 0x3B#8 d abortOperation)

/-! ## Staging (R7 to R15) -/

/-- EDIT_BEGIN (R7). -/
def execEditBegin (d : DeskId) (s : State) : Answer := .next (s.serve 0x50#8 d beginEdit)

/-- WRITE_CIRCUIT (R9). -/
def execWriteCircuit (d : DeskId) (s : State) : Answer := .next (s.serve 0x51#8 d (writeShadow editCircuit))

/-- WRITE_STATION (R10). -/
def execWriteStation (d : DeskId) (s : State) : Answer := .next (s.serve 0x52#8 d (writeShadow editStation))

/-- WRITE_DESK (R11). -/
def execWriteDesk (d : DeskId) (s : State) : Answer := .next (s.serve 0x53#8 d (writeShadow editDesk))

/-- WRITE_PARAM (R12). -/
def execWriteParam (d : DeskId) (s : State) : Answer := .next (s.serve 0x54#8 d (writeShadow editParam))

/-- WRITE_SCALE (R11). -/
def execWriteScale (d : DeskId) (s : State) : Answer := .next (s.serve 0x55#8 d (writeShadow editScale))

/-- READ_SHADOW (R13). -/
def execReadShadow (d : DeskId) (s : State) : Answer := .next (s.serve 0x56#8 d readShadow)

/-- ADOPT (R15): where the claim lets it be carried out, every group is run at the end of its event (R85), after the
result. -/
def execAdopt (d : DeskId) (s : State) : Answer :=
  .next (match waitingArgs s d 0x57#8 with
    | some args => s.carryOut 0x57#8 d args adoptEdit (if s.setup.claim = some d then State.runEvery else id)
    | none => s)

/-- DISCARD (R14). -/
def execDiscard (d : DeskId) (s : State) : Answer := .next (s.serve 0x58#8 d discardEdit)

end Sys2Proof.Machine
end

