-- ==== Sys2Proof/Machine/Timers.lean ====
section
/-! DEFINITION. The meanings of the rows on timers.  A timer acts when its deadline has come; before that, and where it
does not run, the event cannot happen and nothing changes. -/

namespace Sys2Proof.Machine

/-! ## Fault records (R25, R28) -/

/-- The record of an asset whose running state timer of a kind has come to its deadline (R25, R28). -/
def dueRecord (s : State) (asset : Nat) (k : TimerKind) : Option FaultRecord :=
  match s.faults.find asset with
  | some r =>
    match r.timer with
    | .running k' deadline => if k' = k ∧ deadline ≤ s.setup.time then some r else none
    | _ => none
  | none => none

/-- R25, R28: the event of a state timer. -/
def State.recordTimer (asset : Nat) (k : TimerKind) (s : State) : State :=
  match dueRecord s asset k with
  | some r => s.event (State.timerExpires r)
  | none => s

/-- CONFIRM_WINDOW_EXPIRY (R25). -/
def execConfirmWindowExpiry (asset : Nat) (s : State) : Answer :=
  if assetFits asset then .next (s.recordTimer asset .confirmWindow) else .fault .noSuchAsset

/-- RESTORE_HOLD_EXPIRY (R28). -/
def execRestoreHoldExpiry (asset : Nat) (s : State) : Answer :=
  if assetFits asset then .next (s.recordTimer asset .restoreHold) else .fault .noSuchAsset

/-! ## Incidents (R55, R75) -/

/-- CLOSE_DELAY_EXPIRY (R55). -/
def execCloseDelayExpiry (i : IncidentId) (s : State) : Answer :=
  .next (match s.board.incident i with
    | some x =>
      if x.state = .restored ∧ due x.closeDelay s.setup.time = true then
        s.event (State.onBoard fun c b => b.commit .table i (closeNow c x))
      else s
    | none => s)

/-- R75: one boundary taken: the urgency computed, and the schedule set to the next boundary or to none. -/
def Board.ageBoundary (c : Setup) (i : IncidentId) (k : Nat) (b : Board) : Board :=
  match b.incident i with
  | some x => (b.recompute c i).setAging i (boundaryAfter (tauOf c x.subject) x.openedAt k)
  | none => b

/-- AGING_BOUNDARY (R75). -/
def execAgingBoundary (i : IncidentId) (s : State) : Answer :=
  .next (match s.board.aging.find i with
    | some y => if y.due ≤ s.setup.time then s.event (State.onBoard fun c b => b.ageBoundary c i y.k) else s
    | none => s)

/-! ## Desks (R89, R100) -/

/-- OFFER_EXPIRY (R89). -/
def execOfferExpiry (d : DeskId) (s : State) : Answer :=
  .next (match (s.board.desks[d]).slot with
    | some o =>
      if o.deadline ≤ s.setup.time then s.event (State.onBoard fun c b => b.expireOffer c d o.incident) else s
    | none => s)

/-- ABSENCE_EXPIRY (R100). -/
def execAbsenceExpiry (d : DeskId) (s : State) : Answer :=
  .next (if due (s.board.desks[d]).absence s.setup.time then s.event (State.onBoard fun _ b => b.expireAbsence d) else s)

/-! ## Stations (R110, R113) -/

/-- R106: the next expiry after one that has come. -/
def State.nextGrid (n : StationId) (s : State) : Option Nat :=
  (s.station n).nextExpiry.map fun e => e + (s.roster n).interval

/-- R110: an expiry of an ACTIVE station with an empty hold set. -/
def State.debit (n : StationId) (s : State) : State :=
  if (s.roster n).floor < (s.station n).balance then
    s.updStation n fun x => { x with balance := x.balance - 1, nextExpiry := s.nextGrid n }
  else s.enterSilent n true

/-- R113: an expiry of an ASLEEP station: the sleep counted, and at its span the station wakes. -/
def State.countSleep (n : StationId) (s : State) : State :=
  let x := s.station n
  let next := s.nextGrid n
  if x.span.getD 0 ≤ x.sleepCount + 1 then
    (s.updStation n fun x => { x with
      mode := .active, wakeExtra := true, sleepCount := 0, span := none
      nextExpiry := if x.hold.held then none else next }).nowActive n
  else s.updStation n fun x => { x with sleepCount := x.sleepCount + 1, nextExpiry := next }

/-- R106, R110, R113: an expiry of the interval schedule. -/
def State.intervalExpires (n : StationId) (s : State) : State :=
  match (s.station n).mode with
  | .active => if (s.station n).hold.held then s else s.debit n
  | .asleep => s.countSleep n
  | _ => s

/-- INTERVAL_EXPIRY (R110, R113). -/
def execIntervalExpiry (n : StationId) (s : State) : Answer :=
  .next (if due (s.station n).nextExpiry s.setup.time then s.event (State.intervalExpires n) else s)

/-! ## Trunks and chains (R129, R138, R149, R155) -/

/-- START_DEADLINE (R129). -/
def execStartDeadline (t : TrunkId) (s : State) : Answer :=
  .next (if (s.trunk t).state = .starting ∧ due (s.trunk t).startDeadline s.setup.time = true then
      s.event (State.startFails t)
    else s)

/-- RETRY_DEADLINE (R129). -/
def execRetryDeadline (t : TrunkId) (s : State) : Answer :=
  .next (if (s.trunk t).state = .faulted ∧ due (s.trunk t).retryDeadline s.setup.time = true then
      s.event (State.updTrunk t (Trunk.enterStarting s.setup.time .retry))
    else s)

/-- GRACE_DEADLINE (R138). -/
def execGraceDeadline (t : TrunkId) (s : State) : Answer :=
  .next (if due (s.trunk t).graceDeadline s.setup.time then s.event (State.graceExpires t) else s)

/-- LABEL_DEADLINE (R149). -/
def execLabelDeadline (t : TrunkId) (s : State) : Answer :=
  .next (match (s.chain t).labelling with
    | some l =>
      if l.deadline ≤ s.setup.time then s.event fun s => (s.labelFails t l.position).labellingEnds t else s
    | none => s)

/-- CENSUS_DEADLINE (R155). -/
def execCensusDeadline (t : TrunkId) (s : State) : Answer :=
  .next (if due (s.chain t).census s.setup.time then s.event (State.failCensus t) else s)

/-! ## Operations (R160, R161, R164, R165) -/

/-- PROBE_DEADLINE (R160). -/
def execProbeDeadline (o : OpId) (s : State) : Answer :=
  .next (match dueOp s o .probe with
    | some _ => s.event (State.endOp o .timeout .none .none)
    | none => s)

/-- CYCLE_DEADLINE (R161). -/
def execCycleDeadline (o : OpId) (s : State) : Answer :=
  .next (match dueOp s o .cycle with
    | some _ => s.event (State.endOp o .timeout .none .none)
    | none => s)

/-- STEP_DEADLINE (R164, R165). -/
def execStepDeadline (o : OpId) (s : State) : Answer :=
  .next (match dueOp s o .sweep with
    | some x => s.event (State.stepExpires o x)
    | none => s)

end Sys2Proof.Machine
end

