-- ==== Sys2Proof/Machine/Clock.lean ====
section
/-! DEFINITION. The clock (R1): it counts seconds, and at each second it raises the timers that have run out. -/

namespace Sys2Proof.Machine

/-- The last second that part time, held in 32 bits, can show (00_scope, Conventions). -/
def lastSecond : Nat := 4294967295

/-! ## Timers that have run out (R1) -/

/-- The row of a record's state timer that has run out (R25, R28). -/
def recordRow (s : State) (asset : Nat) : List Instr :=
  (if (dueRecord s asset .confirmWindow).isSome then [.confirmWindowExpiry asset] else []) ++
    (if (dueRecord s asset .restoreHold).isSome then [.restoreHoldExpiry asset] else [])

/-- The rows of an incident's timers that have run out: its close delay (R55) and its aging boundary (R75). -/
def incidentRows (s : State) (i : IncidentId) : List Instr :=
  (match s.board.incident i with
    | some x => if x.state = .restored ∧ due x.closeDelay s.setup.time = true then [.closeDelayExpiry i] else []
    | none => []) ++
  (if due ((s.board.aging.find i).map (·.due)) s.setup.time then [.agingBoundary i] else [])

/-- The rows of a desk's timers that have run out: its offer (R89) and its absence (R100). -/
def deskRows (s : State) (d : DeskId) : List Instr :=
  let x := s.board.desks[d]
  (if due (x.slot.map (·.deadline)) s.setup.time then [.offerExpiry d] else []) ++
    (if due x.absence s.setup.time then [.absenceExpiry d] else [])

/-- The row of a station's schedule that has run out (R106). -/
def stationRow (s : State) (n : StationId) : List Instr :=
  if due (s.station n).nextExpiry s.setup.time then [.intervalExpiry n] else []

/-- The rows of a trunk's and its chain's deadlines that have run out (R129, R138, R149, R155). -/
def trunkRows (s : State) (t : TrunkId) : List Instr :=
  let x := s.trunk t
  let c := s.chain t
  let now := s.setup.time
  (if x.state = .starting ∧ due x.startDeadline now = true then [.startDeadline t] else []) ++
    (if x.state = .faulted ∧ due x.retryDeadline now = true then [.retryDeadline t] else []) ++
    (if due x.graceDeadline now then [.graceDeadline t] else []) ++
    (if due (c.labelling.map (·.deadline)) now then [.labelDeadline t] else []) ++
    (if due c.census now then [.censusDeadline t] else [])

/-- The row of an operation's deadline that has run out (R160, R161, R164, R165). -/
def opRow (s : State) (o : OpId) : List Instr :=
  match s.field.ops.find o with
  | some x =>
    if x.deadline ≤ s.setup.time then
      match x.kind with
      | .probe => [.probeDeadline o]
      | .cycle => [.cycleDeadline o]
      | .sweep => [.stepDeadline o]
    else []
  | none => []

/-- R1: the rows of every timer that has run out. -/
def dueRows (s : State) : List Instr :=
  (s.faults.records.map (·.asset)).flatMap (recordRow s) ++ (fins 640).flatMap (incidentRows s) ++
    allDesks.flatMap (deskRows s) ++ (fins 384).flatMap (stationRow s) ++ allTrunks.flatMap (trunkRows s) ++
    (fins 32).flatMap (opRow s)

/-! ## The order within a second -/

/-- The rows in an order that the spec leaves open (log entry 32): each row is placed among those after it by a fresh
free value. -/
def openOrder : (draw : Nat) → List Instr → List Instr
  | _, [] => []
  | _, [i] => [i]
  | k, i :: rest =>
    let placed := openOrder (k + 1) rest
    let place := Config.sameSecond k % (placed.length + 1)
    placed.take place ++ i :: placed.drop place

/-! ## One second -/

/-- R1: part time counts one whole second.  What the clock shows after the last second is not stated: a fresh free value
(log entry 4). -/
def State.countSecond (s : State) : State :=
  if s.setup.time < lastSecond then s.onSetup fun c => { c with time := c.time + 1 }
  else { s.onSetup fun c => { c with time := (Config.clockPastTop s.draws).toNat } with draws := s.draws + 1 }

/-- R1: the rows of the timers that have run out wait behind those that wait already. -/
def State.raiseTimers (s : State) : State :=
  { s with pending := s.pending ++ openOrder s.draws (dueRows s), draws := s.draws + (dueRows s).length }

/-- R1: one second passes: the clock counts it, and the timers that have then run out are raised. -/
def State.tick (s : State) : State := s.countSecond.raiseTimers

end Sys2Proof.Machine
end

