-- ==== Sys2Proof/Machine/FieldFrames.lean ====
section
/-! DEFINITION. The meanings of the rows on trunks: frames taken from an upstream buffer, and the symbols of the line. -/

namespace Sys2Proof.Machine

/-! ## Taking a frame (R132, R145) -/

/-- R132: the event of taking the oldest frame of a trunk, if it is of a type; `f` is what the frame then does.  DESIGN
CHOICE (log entry 35): the event comes as a row from outside, as a desk's owner taking its command does; no other event
and no second raises it. -/
def State.takeOldest (t : TrunkId) (k : UpType) (f : List Byte → State → State) (s : State) : State :=
  match oldestOf s t k with
  | some frame => s.event fun s => f frame (s.take t)
  | none => s

/-- R107, R145: a frame screened by its label; one that passes is heard, and then does `f`, which is given whether the
hearing moved the station. -/
def State.screened (t : TrunkId) (frame : List Byte) (f : StationId → Bool → State → State) (s : State) : State :=
  match frame with
  | _ :: label :: _ =>
    match screen s t label with
    | some n => f n (wakes (s.station n).mode) (s.hear n)
    | none => s.unknownLabel t label
  | _ => s

/-! ## CHECK-IN, SLEEP and the cabinet switch (R109, R112, R117) -/

/-- R109: what a check-in earns. -/
def State.creditCheckIn (n : StationId) (moved : Bool) (s : State) : State :=
  let x := s.station n
  if moved = false ∧ x.mode = .active ∧ x.hold.held = false then
    s.updStation n fun x => { x with balance := min balanceCap (x.balance + 1), wakeExtra := false }
  else s

/-- CHECK_IN (R109). -/
def execCheckIn (t : TrunkId) (s : State) : Answer :=
  .next (s.takeOldest t .checkIn fun frame s => s.screened t frame State.creditCheckIn)

/-- R112: the number of the first test that a request fails; none when it is granted. -/
def sleepDenial (r : Roster) (x : Station) (span : Nat) : Option Nat :=
  if x.mode ≠ .active then some 1
  else if x.hold.held then some 2
  else if x.balance < 0 then some 3
  else if x.wakeExtra then some 4
  else if x.op.isSome then some 5
  else if span < 1 ∨ r.sleepLimit < span then some 6
  else none

/-- R112: the request judged as the hearing leaves the station; an answer that cannot be queued is not sent, and a grant
is then not made. -/
def State.judgeSleep (n : StationId) (span : Nat) (s : State) : State :=
  let t := stationTrunk n
  match sleepDenial (s.roster n) (s.station n) span with
  | some reason => s.hand t (toStation n (.sleepDeny reason))
  | none =>
    if s.answerTo t = .accepted then
      (s.hand t (toStation n (.sleepGrant span))).updStation n
        fun x => { x with mode := .asleep, sleepCount := 0, span := some span }
    else s

/-- SLEEP (R112). -/
def execSleep (t : TrunkId) (s : State) : Answer :=
  .next (s.takeOldest t .sleep fun frame s => s.screened t frame fun n _ s =>
    match frame with
    | _ :: _ :: span :: _ => s.judgeSleep n span.toNat
    | _ => s)

/-- BYPASS_ON (R117). -/
def execBypassOn (t : TrunkId) (s : State) : Answer :=
  .next (s.takeOldest t .bypassOn fun frame s => s.screened t frame fun n _ s =>
    s.changeHold n fun h => { h with cabinet := true })

/-- BYPASS_OFF (R117). -/
def execBypassOff (t : TrunkId) (s : State) : Answer :=
  .next (s.takeOldest t .bypassOff fun frame s => s.screened t frame fun n _ s =>
    s.changeHold n fun h => { h with cabinet := false })

/-! ## ASSET-STATE (R4, R6, R108) -/

/-- A report that has passed the four checks of R4. -/
structure Checked where
  station   : StationId
  asset     : Nat
  kind      : Kind
  condition : Condition
  repeated  : Bool
deriving DecidableEq, Repr

/-- R4: the checks, in order; the first that fails decides the error. -/
def checkReport (s : State) (t : TrunkId) (label a1 a0 kind condition flags : Byte) : TrunkError ⊕ Checked :=
  match screen s t label with
  | none => .inl .unknownLabel
  | some n =>
    let asset := half a1 a0
    if (s.roster n).owns asset = false then .inl .notOwned
    else
      match kindOf kind with
      | none => .inl .kindMismatch
      | some k =>
        if (s.roster n).kind ≠ some k then .inl .kindMismatch
        else
          match conditionOf condition with
          | none => .inl .badCondition
          | some c =>
            if reportable k c then .inr ⟨n, asset, k, c, flags.getLsbD 0⟩ else .inl .badCondition

/-- R6: a report looked up and handed on, or dropped as INVALID. -/
def State.classify (t : TrunkId) (x : Checked) (s : State) : State :=
  let circuit := circuitFor s.setup.active x.asset
  let found := (s.setup.active.circuit circuit).outcome
  if found = .invalid then s.errorOn t .invalidCircuit (.position t (labelOf x.station))
  else
    s.takeReport { asset := x.asset, station := x.station, kind := x.kind, condition := x.condition
                   repeated := x.repeated, circuit, fold := found = .fold }

/-- R108: a checked report is heard, and then dropped under a hold or classified. -/
def State.takeChecked (t : TrunkId) (x : Checked) (s : State) : State :=
  let s := s.hear x.station
  if (s.station x.station).hold.held then
    s.updStation x.station fun y => { y with droppedHeld := saturate 65535 y.droppedHeld }
  else s.classify t x

/-- ASSET_STATE (R4). -/
def execAssetState (t : TrunkId) (s : State) : Answer :=
  .next (s.takeOldest t .assetState fun frame s =>
    match frame with
    | _ :: label :: a1 :: a0 :: kind :: condition :: flags :: _ =>
      match checkReport s t label a1 a0 kind condition flags with
      | .inl e => s.errorOn t e (.label t label.toNat)
      | .inr x => s.takeChecked t x
    | _ => s)

/-! ## Frames of the chain controller and of the engine (R146, R148, R154, R166) -/

/-- LABEL_ACK (R148). -/
def execLabelAck (t : TrunkId) (s : State) : Answer :=
  .next (s.takeOldest t .labelAck fun frame s =>
    match frame with
    | _ :: label :: kind :: f1 :: f0 :: c1 :: c0 :: _ => s.takeLabelAck t label kind f1 f0 c1 c0
    | _ => s)

/-- CENSUS_RETURN (R154). -/
def execCensusReturn (t : TrunkId) (s : State) : Answer :=
  .next (s.takeOldest t .censusReturn fun frame s =>
    match frame with
    | _ :: _ :: count :: entries => s.takeCensusReturn t count entries
    | _ => s)

/-- NO_TAKER (R146). -/
def execNoTaker (t : TrunkId) (s : State) : Answer :=
  .next (s.takeOldest t .noTaker fun frame s =>
    match frame with
    | _ :: label :: returned :: index :: _ => s.takeNoTaker t label returned index
    | _ => s)

/-- OP_REPLY (R166). -/
def execOpReply (t : TrunkId) (s : State) : Answer :=
  .next (s.takeOldest t .opReply fun frame s => s.screened t frame fun n _ s =>
    match frame with
    | _ :: _ :: index :: a1 :: a0 :: kind :: v1 :: v2 :: _ => s.takeReply n index a1 a0 kind v1 v2
    | _ => s)

/-! ## Symbols (R125, R128, R131, R133, R134) -/

/-- R125: an effect on a RUNNING trunk, which starts its disconnect watch again; in any other state, none. -/
def State.onRunning (t : TrunkId) (g : Trunk → Trunk) (s : State) : State :=
  if (s.trunk t).state = .running then s.event (State.updTrunk t fun x => { g x with watch := true }) else s

/-- R125, R128: an upstream FILL with a good check bit: it makes a STARTING trunk RUNNING, starts the disconnect watch of a
RUNNING trunk again, and is ignored by a trunk that is OFF or FAULTED. -/
def State.fillEvent (t : TrunkId) (s : State) : State :=
  match (s.trunk t).state with
  | .starting => s.event (State.trunkRuns t)
  | .running => s.onRunning t id
  | _ => s

/-- CHAIN_VALID_FILL (R128). -/
def execChainValidFill (t : TrunkId) (s : State) : Answer := .next (s.fillEvent t)

/-- FILL (R125, R134). -/
def execFill (t : TrunkId) (s : State) : Answer := .next (s.fillEvent t)

/-- DATA_SYMBOL (R125). -/
def execDataSymbol (t : TrunkId) (b : Byte) (s : State) : Answer :=
  .next (s.onRunning t fun x => { x with assembly := some (appendSymbol b x.assembly) })

/-- FRAME_END (R131). -/
def execFrameEnd (t : TrunkId) (s : State) : Answer :=
  .next (if (s.trunk t).state = .running then s.event (State.upstreamEnd t) else s)

/-- ABORT_SYMBOL (R125). -/
def execAbortSymbol (t : TrunkId) (s : State) : Answer :=
  .next (s.onRunning t fun x => { x with assembly := none })

/-- GRANT (R133): an upstream GRANT. -/
def execGrant (t : TrunkId) (s : State) : Answer :=
  .next (if (s.trunk t).state = .running then s.event (State.upstreamGrant t) else s)

/-- PARITY (R134): a symbol with a bad check bit. -/
def execParity (t : TrunkId) (s : State) : Answer :=
  .next (if (s.trunk t).state = .running then s.event (State.faultTrunk t .parity) else s)

/-- DISCONNECT (R134). -/
def execDisconnect (t : TrunkId) (s : State) : Answer :=
  .next (if (s.trunk t).state = .running ∧ (s.trunk t).watch = true then s.event (State.faultTrunk t .disconnect) else s)

/-- R133: the END of the frame in transmission has been sent, and the next may begin.  DESIGN CHOICE (log entry 36): it
begins in the event of that END, where the queue and the credit allow. -/
def Trunk.frameSent (x : Trunk) : Trunk := ({ x with transmitting := none }).pump

/-- DOWNSTREAM_FRAME_SENT (R133). -/
def execDownstreamFrameSent (t : TrunkId) (s : State) : Answer :=
  .next (if (s.trunk t).state = .running ∧ (s.trunk t).transmitting.isSome = true then
      s.event (State.updTrunk t Trunk.frameSent)
    else s)

end Sys2Proof.Machine
end

