-- ==== Sys2Proof/Machine/Layout.lean ====
section
/-! DEFINITION. The frames the part sends, byte by byte: results and notices to desks, frames to stations, and which row of
the table a symbol of a trunk is (R176, R181, R182, R188 to R196). -/

namespace Sys2Proof.Machine

/-! ## Widths (R188) and codes (R189) -/

/-- A one-byte number. -/
def one (n : Nat) : List Byte := [BitVec.ofNat 8 n]

/-- R188: a two-byte number, high byte first. -/
def two (n : Nat) : List Byte := [BitVec.ofNat 8 (n / 256), BitVec.ofNat 8 n]

/-- R188: a part time, four bytes, high byte first. -/
def four (n : Nat) : List Byte :=
  [BitVec.ofNat 8 (n / 16777216), BitVec.ofNat 8 (n / 65536), BitVec.ofNat 8 (n / 256), BitVec.ofNat 8 n]

/-- R189: a part time or deadline that may be absent. -/
def timeOrNone (t : Option Nat) : List Byte := four (t.getD 0xFFFFFFFF)

/-- R189: an incident index that may be absent. -/
def indexOrNone (i : Option IncidentId) : List Byte := two ((i.map Fin.val).getD 0xFFFF)

/-- R189: a desk, group, position, operation or level that may be absent. -/
def smallOrNone (x : Option Nat) : List Byte := one (x.getD 0xFF)

/-- R189: a yes-or-no item. -/
def yesNo (b : Bool) : List Byte := one (if b then 1 else 0)

/-- R189: flags in one byte, bit 0 first. -/
def flagsByte : List Bool → Nat
  | [] => 0
  | b :: rest => (if b then 1 else 0) + 2 * flagsByte rest

/-- R189: flags. -/
def flags (bs : List Bool) : List Byte := one (flagsByte bs)

/-- R189: a set of desks. -/
def setByte (x : DeskSet) : List Byte := one x.toNat

/-- R189: station and asset kinds. -/
def Kind.code : Kind → Nat
  | .lamp => 1
  | .loop => 2
  | .sign => 3

/-- R189: classes. -/
def Cls.code : Cls → Nat
  | .lamp => 1
  | .loop => 2
  | .sign => 3
  | .infra => 4

/-- R189: conditions. -/
def Condition.code : Condition → Nat
  | .ok => 0
  | .out => 1
  | .degraded => 2
  | .cycling => 3
  | .loopOpen => 4
  | .loopShort => 5
  | .drift => 6
  | .stuckOn => 7
  | .dark => 8
  | .pixel => 9
  | .comms => 10
  | .silent => 11
  | .trunkDown => 12

/-- R189: periods. -/
def Period.code : Period → Nat
  | .day => 0
  | .night => 1
  | .peak => 2
  | .storm => 3

/-- R189: station modes. -/
def Mode.code : Mode → Nat
  | .vacant => 0
  | .pending => 1
  | .active => 2
  | .asleep => 3
  | .silent => 4
  | .unreached => 5

/-- R189: incident states; FREE is 0. -/
def IncidentState.code : IncidentState → Nat
  | .opened => 1
  | .offered => 2
  | .assigned => 3
  | .restored => 4
  | .closed => 5

/-- R189: trunk states. -/
def TrunkState.code : TrunkState → Nat
  | .off => 0
  | .starting => 1
  | .running => 2
  | .faulted => 3

/-- R189: fault record states. -/
def FaultState.code : FaultState → Nat
  | .suspect => 1
  | .confirmed => 2
  | .restoring => 3

/-- R189: state timer kinds; none is 0. -/
def TimerKind.code : TimerKind → Nat
  | .confirmWindow => 1
  | .restoreHold => 2

/-- R189: operation kinds. -/
def OpKind.code : OpKind → Nat
  | .probe => 1
  | .cycle => 2
  | .sweep => 3

/-- R189: operation states. -/
def OpState.code : OpState → Nat
  | .sent => 1
  | .stepping => 2
  | .settling => 3
  | .ending => 4

/-- R190: termination codes. -/
def Termination.code : Termination → Nat
  | .done => 0
  | .refused => 1
  | .invalid => 2
  | .aborted => 3
  | .tooLate => 4

/-- R190: reason codes, from 1 in the order of R181's table. -/
def Reason.code : Reason → Nat
  | .sequence => 1
  | .unknownCommand => 2
  | .badLength => 3
  | .badArgument => 4
  | .abort => 5
  | .reset => 6
  | .claimed => 7
  | .noClaim => 8
  | .offDuty => 9
  | .notOffered => 10
  | .notHolder => 11
  | .notAssigned => 12
  | .closed => 13
  | .restored => 14
  | .membersPresent => 15
  | .holdsIncidents => 16
  | .vacant => 17
  | .heldAtCabinet => 18
  | .noStation => 19
  | .notActive => 20
  | .held => 21
  | .busy => 22
  | .full => 23
  | .notInFlight => 24
  | .running => 25
  | .notRunning => 26

/-- R190: the causes of WITHDRAWN. -/
def WithdrawCause.code : WithdrawCause → Nat
  | .expired => 1
  | .restored => 2
  | .rerouted => 3
  | .closed => 4
  | .signedOff => 5

/-- R168, R190: the operation termination and the reason, numbered from 1 per termination.  The reason byte of DONE, which
has no reason, is not stated: a free value (log entry 6). -/
def OpEnd.codes : OpEnd → Byte × Byte
  | .done => (0, Config.noEndReason)
  | .timeout => (1, 1)
  | .noAnswer => (1, 2)
  | .equipmentCheck => (1, 3)
  | .noTaker => (1, 4)
  | .full => (1, 5)
  | .badReply => (1, 6)
  | .rejected => (2, 1)
  | .lostStation => (3, 1)
  | .lostTrunk => (3, 2)
  | .lostHold => (3, 3)
  | .lostReconfigured => (3, 4)
  | .lostReset => (3, 5)
  | .lostAborted => (3, 6)

/-- R195: the codes of trunk errors, 1 to 22 in R137's order. -/
def TrunkError.code (e : TrunkError) : Nat := e.index.val + 1

/-- R195: the most-recent-error codes. -/
def ErrorCode.code : ErrorCode → Nat
  | .none => 0
  | .trunk e => e.code
  | .badCrc => 23
  | .badFrame => 24
  | .badKind => 25

/-- R195: the place field, three bytes. -/
def Place.bytes : Place → List Byte
  | .none => one 0 ++ one 0xFF ++ one 0xFF
  | .trunk t => one 1 ++ one t.val ++ one 0xFF
  | .label t k => one 2 ++ one t.val ++ one k
  | .position t k => one 3 ++ one t.val ++ one k
  | .desk d => one 4 ++ one d.val ++ one 0xFF

/-- R189: a subject, three bytes. -/
def Subject.bytes : Subject → List Byte
  | .circuit c => one 1 ++ one (circuitNumber c) ++ one 0
  | .station n => one 2 ++ one (stationTrunk n).val ++ one (labelOf n)
  | .trunk t => one 3 ++ one t.val ++ one 0

/-- A station as trunk and position. -/
def stationBytes (n : StationId) : List Byte := one (stationTrunk n).val ++ one (labelOf n)

/-- R189: a hold set. -/
def HoldSet.bytes (h : HoldSet) : List Byte := flags [h.desk, h.cabinet]

/-- A kind, or the code of none (log entry 6). -/
def kindOrNone (k : Option Kind) : List Byte := [(k.map fun k => BitVec.ofNat 8 k.code).getD Config.noKindCode]

/-- A condition, or the code of none (log entry 6). -/
def conditionOrNone (c : Option Condition) : List Byte :=
  [(c.map fun c => BitVec.ofNat 8 c.code).getD Config.noConditionCode]

/-! ## The data of results (R192) -/

/-- R183: the fields of SENSE. -/
def SenseData.bytes (x : SenseData) : List Byte :=
  yesNo x.onDuty ++ indexOrNone (x.slot.map (·.incident)) ++ timeOrNone (x.slot.map (·.deadline)) ++ two x.assigned ++
    indexOrNone x.lastWithdrawn ++ one x.overflow ++ yesNo x.unresponsive ++ yesNo x.holdsClaim ++ one x.notices ++
    two x.badCrc ++ two x.badFrame ++ two x.badKind ++ four x.time ++ one x.period.code

/-- R192: an entry of LIST-PENDING, 16 bytes. -/
def PendingEntry.bytes (x : PendingEntry) : List Byte :=
  two x.index.val ++ x.subject.bytes ++ one x.cls.code ++ two x.urgency ++ four x.openedAt ++ one x.rounds ++
    setByte x.declined ++ two x.change

/-- R192: LIST-PENDING: the header of 8 bytes, then the entries. -/
def PendingPage.bytes (x : PendingPage) : List Byte :=
  one x.group.val ++ setByte x.desks ++ one x.timeout ++ one x.pointer.val ++ two x.total ++ two x.offset ++
    x.entries.flatMap PendingEntry.bytes

/-- R192: a member, 9 bytes. -/
def Member.bytes (m : Member) : List Byte :=
  two m.asset ++ one m.kind.code ++ one m.condition.code ++ four m.confirmedAt ++ flags [m.stale, m.underOp]

/-- R192: a crew tag, its length and 16 bytes. -/
def tagBytes (tag : Option (List Byte)) : List Byte :=
  let text := tag.getD []
  one text.length ++ text ++ List.replicate (16 - text.length) Config.tagPadding

/-- R192: READ-INCIDENT of a record that holds an incident, to its urgency and times. -/
def Incident.bytes (x : Incident) : List Byte :=
  one x.state.code ++ x.subject.bytes ++ one x.cls.code ++ one x.group.val ++ smallOrNone (x.assigned.map Fin.val) ++
    two x.unrecorded ++ conditionOrNone x.worst ++ flags [x.tripped] ++ one x.rounds ++ setByte x.declined ++
    two x.urgency ++ four x.openedAt ++ timeOrNone x.restoredAt ++ timeOrNone x.closeDelay ++ timeOrNone x.closedAt

/-- R66, R192: the same fields of a FREE record, which R66 only calls empty.  The subject, the class and the absent worst
condition are free values (log entry 6).  DESIGN CHOICE (log entry 42): the desk group and the opened time, to which R43 gives
no absent value, are sent as R189's absent group and part time, 0xFF and 0xFFFFFFFF, and the unrecorded count, the rounds and
the urgency as 0. -/
def freeIncidentBytes : List Byte :=
  one 0 ++ [Config.emptySubjectByte 0, Config.emptySubjectByte 1, Config.emptySubjectByte 2, Config.emptyClassCode] ++
    smallOrNone none ++ smallOrNone none ++ two 0 ++ conditionOrNone none ++ flags [] ++ one 0 ++ setByte 0 ++ two 0 ++
    timeOrNone none ++ timeOrNone none ++ timeOrNone none ++ timeOrNone none

/-- R192: READ-INCIDENT: 55 bytes, then the members. -/
def IncidentPage.bytes (x : IncidentPage) : List Byte :=
  two x.index.val ++ (x.body.map Incident.bytes).getD freeIncidentBytes ++ two x.change ++
    tagBytes (x.body.bind (·.tag)) ++ two x.total ++ one x.members.length ++ x.members.flatMap Member.bytes

/-- R41, R188: a state timer as its kind, whether it is suspended, and its deadline, a part time of 4 bytes, or its
remaining time, a duration of at most 3600 s and so of 2 bytes. -/
def StateTimer.bytes : StateTimer → List Byte
  | .none => one 0 ++ yesNo false ++ timeOrNone Option.none
  | .running k deadline => one k.code ++ yesNo false ++ four deadline
  | .suspended k remaining => one k.code ++ yesNo true ++ two remaining

/-- R21, R41: the fields of a fault record in R21's order. -/
def FaultRecord.bytes (r : FaultRecord) : List Byte :=
  two r.asset ++ stationBytes r.station ++ one (circuitNumber r.circuit) ++ one r.kind.code ++ one r.condition.code ++
    one r.state.code ++ one r.confirms ++ one r.flips ++ four r.firstSeen ++ timeOrNone r.confirmedAt ++
    four r.lastReport ++ one r.reports ++ r.timer.bytes ++ flags [r.stale, r.underOp] ++ indexOrNone r.incident

/-- R41: READ-FAULT. -/
def FaultView.bytes (x : FaultView) : List Byte :=
  yesNo x.record.isSome ++ (x.record.map FaultRecord.bytes).getD [] ++ yesNo x.marked ++ two x.records ++ two x.dropped

/-- R10: roster parameters in their order. -/
def Roster.bytes (r : Roster) : List Byte :=
  kindOrNone r.kind ++ two r.first ++ two r.count ++ two r.interval ++ one r.allowance ++ one r.sleepLimit ++
    one r.weight

/-- R105: a balance; R188 and R189 give no code for one below 0 (log entry 6). -/
def balanceByte (b : Int) : List Byte := if b < 0 then [Config.negativeBalanceCode b] else one b.toNat

/-- R105: a reported identity, or none (log entry 6). -/
def identityBytes : Option Identity → List Byte
  | some i => [i.kind] ++ two i.first ++ two i.count
  | none => [Config.noKindCode] ++ two Config.noIdentityRange.toNat ++ two Config.noIdentityRange.toNat

/-- R105: the live fields of a station in their order. -/
def Station.bytes (x : Station) : List Byte :=
  one x.mode.code ++ x.hold.bytes ++ balanceByte x.balance ++ timeOrNone x.nextExpiry ++ yesNo x.wakeExtra ++
    one x.sleepCount ++ [(x.span.map (BitVec.ofNat 8)).getD Config.noSpanCode] ++ identityBytes x.identity ++
    timeOrNone x.lastHeard ++ two x.applied ++ two x.droppedHeld ++ two x.transients ++
    smallOrNone (x.op.map Fin.val)

/-- R123: READ-STATION. -/
def StationView.bytes (x : StationView) : List Byte :=
  x.roster.bytes ++ x.live.bytes ++ one x.trunk.code ++ yesNo x.agrees

/-- R141, R192: READ-TRUNK.  DESIGN CHOICE (log entry 33): of the labelling in flight, which R143 holds as a position with
a label deadline, the position alone is sent. -/
def TrunkView.bytes (x : TrunkView) : List Byte :=
  one x.state.code ++ one x.upCredit ++ one x.downCredit ++ one x.buffered ++ one x.queued ++ yesNo x.transmitting ++
    timeOrNone x.startDeadline ++ timeOrNone x.retryDeadline ++ timeOrNone x.graceDeadline ++ timeOrNone x.faultTime ++
    two x.attempts ++ x.counters.toList.flatMap two ++ flags [x.census, x.again] ++
    smallOrNone (x.labelling.map positionNumber) ++ one x.occupied

/-- R140, R141: READ-ERROR. -/
def ErrorRecord.bytes (x : ErrorRecord) : List Byte :=
  one x.code.code ++ x.place.bytes ++ timeOrNone x.time ++ two x.writes

/-- R13: an item of the shadow copy: a circuit entry in the order of R2, roster parameters in that of R10, scales in that of
R68.  DESIGN CHOICE (log entry 41): a desk's settings, which R7 and R11 list with the two flags apart, are sent as R191 lays
out WRITE-DESK: both flags in one leading byte, then limit and timeout.  R191 gives no layout of the result. -/
def ShadowItem.bytes : ShadowItem → List Byte
  | .circuit c =>
    two c.bound ++ flags [c.invalid, c.fold] ++ one c.group ++ smallOrNone c.alternate ++ one c.weight ++ one c.trip ++
      one c.tau
  | .station r => r.bytes
  | .desk d => flags [d.continues, d.maintenance] ++ one d.limit ++ one d.timeout
  | .param v => two v
  | .scales q => one q.lamp ++ one q.loop ++ one q.sign ++ one q.infra

/-- R191: the vendor code, part code and revision of IDENTIFY. -/
def identityCodes : List Byte := [0x48, 0x56, 0x0F, 0x16, 0x01]

/-- R184: the check pattern of IDENTIFY. -/
def checkPattern : List Byte := [0x3C, 0xC3, 0x5A, 0xA5]

/-- R192: the data of a result, in the order in which its owning rule lists it. -/
def ResultData.bytes : ResultData → List Byte
  | .none => []
  | .identity time => identityCodes ++ four time ++ checkPattern
  | .sense x => x.bytes
  | .count n => two n
  | .abortedCommand code => [code.getD Config.nothingAbortedCode]
  | .level n => one n
  | .pendingPage p => p.bytes
  | .incidentPage p => p.bytes
  | .faultView v => v.bytes
  | .stationView v => v.bytes
  | .trunkView v => v.bytes
  | .errorView e => e.bytes
  | .accepted i number assigned => two i.val ++ two number ++ two assigned
  | .incident i number => two i.val ++ two number
  | .handedOver i number group => two i.val ++ two number ++ one group.val
  | .change n => two n
  | .held hold mode => hold.bytes ++ one mode.code
  | .started o k n deadline => one o.val ++ one k.code ++ stationBytes n ++ four deadline
  | .abortedOp k asset n x => one k.code ++ two asset ++ stationBytes n ++ one x.code
  | .census yes => [Config.censusAnswerCode yes]
  | .labelled n => one n
  | .period now before => one now.code ++ one before.code
  | .shadow item holder => item.bytes ++ smallOrNone (holder.map Fin.val)
  | .adopted circuits rosters others => one circuits ++ two rosters ++ one others

/-- R190: the body of a RESULT frame. -/
def Result.body (r : Result) : List Byte :=
  [r.code] ++ one r.termination.code ++ one ((r.reason.map Reason.code).getD 0) ++ flags [r.attention] ++ r.data.bytes

/-! ## Notices (R190) -/

/-- R168, R189: the levels of a SWEEP's outcome, N and the operating level, either of which may be absent. -/
def levelBytes (noise operating : Option Nat) : List Byte := smallOrNone noise ++ smallOrNone operating

/-- R168: the outcome of an ended operation of a kind.  An absent outcome of a SWEEP is two absent levels (R189); that of a
PROBE or CYCLE would be a condition, and the layouts give no code for the lack of one: a free value (log entry 6). -/
def OpOutcome.bytes (k : OpKind) : OpOutcome → List Byte
  | .none =>
    match k with
    | .probe => Config.noOutcomeData
    | .cycle => Config.noOutcomeData
    | .sweep => levelBytes Option.none Option.none
  | .condition c => one c.code
  | .levels noise operating => levelBytes (some noise) (some operating)

/-- R190: the body of a NOTICE frame: the notice kind, and the fields its rule names in that rule's order. -/
def Notice.body : Notice → List Byte
  | .offer i change urgency deadline => one 1 ++ two i.val ++ two change ++ two urgency ++ four deadline
  | .withdrawn i change cause => one 2 ++ two i.val ++ two change ++ one cause.code
  | .changed i change => one 3 ++ two i.val ++ two change
  | .restored i change => one 4 ++ two i.val ++ two change
  | .closed i change => one 5 ++ two i.val ++ two change
  | .released i change => one 6 ++ two i.val ++ two change
  | .opDone o k asset n desk how x steps outcome =>
    one 7 ++ one o.val ++ one k.code ++ two asset ++ stationBytes n ++ one desk.val ++ [how.codes.1, how.codes.2] ++
       one x.code ++ one steps ++ outcome.bytes k
  | .trunkError t cause time => one 8 ++ one t.val ++ one cause.code ++ four time
  | .reset level => one 9 ++ one level

/-! ## Whole desk frames (R176) -/

/-- R176, R190: a desk frame of a kind: SYNC, length, kind, body, CRC. -/
def deskFrame (kind : Byte) (body : List Byte) : List Byte :=
  let bytes := BitVec.ofNat 8 (body.length + 1) :: kind :: body
  0x7E#8 :: (bytes ++ crcBytes bytes)

/-- R190: a COMMAND frame, as a desk sends it. -/
def commandFrameBytes (body : List Byte) : List Byte := deskFrame commandKind body

/-- R178: the frame on a link's line, if it is sending one. -/
def Link.frameOnLine (l : Link) : Option (List Byte) :=
  match l.sending with
  | .idle => none
  | .result => (l.results.head?).map fun r => deskFrame 0x02#8 r.body
  | .notice n => some (deskFrame 0x03#8 n.body)

/-! ## Downstream frames (R193, R194) -/

/-- R194: the fields of an operation frame before the field its type adds. -/
def opFields (o : OpId) (asset : Nat) : List Byte := one o.val ++ two asset

/-- R194: the type symbol and the fields after the label. -/
def Payload.symbols : Payload → Byte × List Byte
  | .label p => (0x81#8, one (positionNumber p))
  | .forget => (0x82#8, [])
  | .census => (0x83#8, one 0)
  | .sleepGrant span => (0x84#8, one span)
  | .sleepDeny reason => (0x85#8, one reason)
  | .probe o asset => (0x86#8, opFields o asset)
  | .cycle o asset offTime => (0x87#8, opFields o asset ++ one offTime)
  | .sweepStep o asset level => (0x88#8, opFields o asset ++ one level)
  | .setLevel o asset level => (0x89#8, opFields o asset ++ one level)
  | .abortOp o asset => (0x8A#8, opFields o asset)

/-- R193: a downstream frame as its data symbols: type, label, fields. -/
def DownFrame.symbols (f : DownFrame) : List Byte :=
  (f.payload.symbols).1 :: (one f.label ++ (f.payload.symbols).2)

/-! ## What a trunk sends (R126, R131, R196) -/

/-- R196: the symbol of a FILL. -/
def fillSymbol : BitVec 10 := symbolBits true 0x00#8

/-- R196: the symbol of a GRANT. -/
def grantSymbol : BitVec 10 := symbolBits true 0x01#8

/-- R196: the symbol of an END. -/
def endSymbol : BitVec 10 := symbolBits true 0x02#8

/-- R126, R193: a frame on the line, from its first data symbol to its END. -/
def DownFrame.onLine (f : DownFrame) : List (BitVec 10) := f.symbols.map (symbolBits false) ++ [endSymbol]

/-- R126: what the part sends on a trunk by the trunk's state, the GRANTs aside: nothing in OFF and FAULTED, FILL
continuously in STARTING, and in RUNNING the frame in transmission, or else FILL. -/
def Trunk.sends (x : Trunk) : List (BitVec 10) :=
  match x.state with
  | .off => []
  | .faulted => []
  | .starting => [fillSymbol]
  | .running => (x.transmitting.map DownFrame.onLine).getD [fillSymbol]

/-- R131: the upstream credit and the buffered frames together, which only a GRANT makes more. -/
def Trunk.claimed (x : Trunk) : Nat := x.upCredit + x.buffer.length

/-- R126, R131: the GRANTs sent in an event that found the trunk as `before` and left it as `after`.  Each adds 2 to the
credit; in the same event at most one frame leaves the buffer, or is dropped with its credit spent.  On entering RUNNING
the credit counts from 0 (R128). -/
def grantsSent (before after : Trunk) : List (BitVec 10) :=
  let had := if before.state = .running then before.claimed else before.buffer.length
  if after.state = .running then List.replicate ((after.claimed + 1 - had) / 2) grantSymbol else []

/-! ## Symbols of a trunk (R125, R196) -/

/-- R125, R196: the row of the table that an upstream symbol of ten bits is. -/
def symbolRow (t : TrunkId) (x : BitVec 10) : Instr :=
  match symbolOf x with
  | .data b => .dataSymbol t b
  | .fill => .fill t
  | .grant => .grant t
  | .frameEnd => .frameEnd t
  | .abort => .abortSymbol t
  | .bad => .parity t

/-- R132, R145: the row by which a frame of a type is taken from the buffer. -/
def takeRow (t : TrunkId) : UpType → Instr
  | .checkIn => .checkIn t
  | .assetState => .assetState t
  | .sleep => .sleep t
  | .bypassOn => .bypassOn t
  | .bypassOff => .bypassOff t
  | .labelAck => .labelAck t
  | .opReply => .opReply t
  | .censusReturn => .censusReturn t
  | .noTaker => .noTaker t

end Sys2Proof.Machine
end

