-- ==== Sys2Proof/Machine/Dispatch.lean ====
section
/-! DEFINITION. One arm for every row of the table: a direct call of the row's meaning. -/

namespace Sys2Proof.Machine

/-- The effect of one row on everything but the queue of the steps that wait. -/
def exec (i : Instr) (s : State) : Host.Outcome State Fault Refusal :=
  match i with
  | .powerOn lines => Sys2Proof.Machine.execPowerOn lines s
  | .linkDown d => Sys2Proof.Machine.execLinkDown d s
  | .linkUp d => Sys2Proof.Machine.execLinkUp d s
  | .commandFrame d body => Sys2Proof.Machine.execCommandFrame d body s
  | .badCrc d => Sys2Proof.Machine.execBadCrc d s
  | .badKind d => Sys2Proof.Machine.execBadKind d s
  | .badFrame d => Sys2Proof.Machine.execBadFrame d s
  | .byteTimeout d => Sys2Proof.Machine.execByteTimeout d s
  | .resultSent d => Sys2Proof.Machine.execResultSent d s
  | .noticeSent d => Sys2Proof.Machine.execNoticeSent d s
  | .identify d => Sys2Proof.Machine.execIdentify d s
  | .sense d => Sys2Proof.Machine.execSense d s
  | .signOn d => Sys2Proof.Machine.execSignOn d s
  | .signOff d => Sys2Proof.Machine.execSignOff d s
  | .abort d => Sys2Proof.Machine.execAbort d s
  | .resetLevel1 d => Sys2Proof.Machine.execResetLevel1 d s
  | .resetLevel2 d => Sys2Proof.Machine.execResetLevel2 d s
  | .resetLevel3 d => Sys2Proof.Machine.execResetLevel3 d s
  | .listPending d => Sys2Proof.Machine.execListPending d s
  | .readIncident d => Sys2Proof.Machine.execReadIncident d s
  | .readFault d => Sys2Proof.Machine.execReadFault d s
  | .readStation d => Sys2Proof.Machine.execReadStation d s
  | .readTrunk d => Sys2Proof.Machine.execReadTrunk d s
  | .readError d => Sys2Proof.Machine.execReadError d s
  | .accept d => Sys2Proof.Machine.execAccept d s
  | .decline d => Sys2Proof.Machine.execDecline d s
  | .release d => Sys2Proof.Machine.execRelease d s
  | .handover d => Sys2Proof.Machine.execHandover d s
  | .close d => Sys2Proof.Machine.execClose d s
  | .tag d => Sys2Proof.Machine.execTag d s
  | .hold d => Sys2Proof.Machine.execHold d s
  | .unhold d => Sys2Proof.Machine.execUnhold d s
  | .probe d => Sys2Proof.Machine.execProbe d s
  | .cycle d => Sys2Proof.Machine.execCycle d s
  | .sweep d => Sys2Proof.Machine.execSweep d s
  | .abortOp d => Sys2Proof.Machine.execAbortOp d s
  | .trunkStart d => Sys2Proof.Machine.execTrunkStart d s
  | .trunkStop d => Sys2Proof.Machine.execTrunkStop d s
  | .census d => Sys2Proof.Machine.execCensus d s
  | .labelChain d => Sys2Proof.Machine.execLabelChain d s
  | .setPeriod d => Sys2Proof.Machine.execSetPeriod d s
  | .editBegin d => Sys2Proof.Machine.execEditBegin d s
  | .writeCircuit d => Sys2Proof.Machine.execWriteCircuit d s
  | .writeStation d => Sys2Proof.Machine.execWriteStation d s
  | .writeDesk d => Sys2Proof.Machine.execWriteDesk d s
  | .writeParam d => Sys2Proof.Machine.execWriteParam d s
  | .writeScale d => Sys2Proof.Machine.execWriteScale d s
  | .readShadow d => Sys2Proof.Machine.execReadShadow d s
  | .adopt d => Sys2Proof.Machine.execAdopt d s
  | .discard d => Sys2Proof.Machine.execDiscard d s
  | .confirmWindowExpiry asset => Sys2Proof.Machine.execConfirmWindowExpiry asset s
  | .restoreHoldExpiry asset => Sys2Proof.Machine.execRestoreHoldExpiry asset s
  | .closeDelayExpiry n => Sys2Proof.Machine.execCloseDelayExpiry n s
  | .agingBoundary n => Sys2Proof.Machine.execAgingBoundary n s
  | .offerExpiry d => Sys2Proof.Machine.execOfferExpiry d s
  | .absenceExpiry d => Sys2Proof.Machine.execAbsenceExpiry d s
  | .intervalExpiry n => Sys2Proof.Machine.execIntervalExpiry n s
  | .checkIn t => Sys2Proof.Machine.execCheckIn t s
  | .sleep t => Sys2Proof.Machine.execSleep t s
  | .bypassOn t => Sys2Proof.Machine.execBypassOn t s
  | .bypassOff t => Sys2Proof.Machine.execBypassOff t s
  | .assetState t => Sys2Proof.Machine.execAssetState t s
  | .chainValidFill t => Sys2Proof.Machine.execChainValidFill t s
  | .frameEnd t => Sys2Proof.Machine.execFrameEnd t s
  | .abortSymbol t => Sys2Proof.Machine.execAbortSymbol t s
  | .grant t => Sys2Proof.Machine.execGrant t s
  | .parity t => Sys2Proof.Machine.execParity t s
  | .disconnect t => Sys2Proof.Machine.execDisconnect t s
  | .downstreamFrameSent t => Sys2Proof.Machine.execDownstreamFrameSent t s
  | .startDeadline t => Sys2Proof.Machine.execStartDeadline t s
  | .retryDeadline t => Sys2Proof.Machine.execRetryDeadline t s
  | .graceDeadline t => Sys2Proof.Machine.execGraceDeadline t s
  | .labelAck t => Sys2Proof.Machine.execLabelAck t s
  | .labelDeadline t => Sys2Proof.Machine.execLabelDeadline t s
  | .censusReturn t => Sys2Proof.Machine.execCensusReturn t s
  | .censusDeadline t => Sys2Proof.Machine.execCensusDeadline t s
  | .noTaker t => Sys2Proof.Machine.execNoTaker t s
  | .opReply t => Sys2Proof.Machine.execOpReply t s
  | .probeDeadline o => Sys2Proof.Machine.execProbeDeadline o s
  | .cycleDeadline o => Sys2Proof.Machine.execCycleDeadline o s
  | .stepDeadline o => Sys2Proof.Machine.execStepDeadline o s
  | .dataSymbol t b => Sys2Proof.Machine.execDataSymbol t b s
  | .fill t => Sys2Proof.Machine.execFill t s
  | .deskByte d b => Sys2Proof.Machine.execDeskByte d b s

end Sys2Proof.Machine
end

