-- ==== Sys2Proof/Machine/Step.lean ====
section
/-! DEFINITION. One step: the row at the front of the queue is taken; on an empty queue the clock ticks. -/

namespace Sys2Proof.Machine

/-- One step of the part.  With a row waiting, the row at the front is taken and carried out with the rest of the queue;
with none, one second passes (log entry 3).  DESIGN CHOICE (log entry 35): that second raises the timers that have run out
and no other row, so that a frame in an upstream buffer (R132) waits for the row that takes it. -/
def step (s : State) : Host.Outcome State Fault Refusal :=
  match s.pending with
  | [] => .next s.tick
  | i :: rest => exec i { s with pending := rest }

/-- The state with the row that a word spells at the front of its queue; unchanged where the word spells none. -/
def State.withFetchWord (s : State) (nbits w : Nat) : State :=
  match decodeTableWord nbits w with
  | some i => { s with pending := i :: s.pending }
  | none => s

end Sys2Proof.Machine
end

