-- ==== Sys2Proof/Safety.lean ====
section
/-! DEFINITION. What a sound state of the part is, what the incident table makes of one incident, what the end of an event
may still do, and what an answered command leaves: the terms in which the claims speak. -/

namespace Sys2Proof.Machine

/-! ## Bounds and agreements that the rules say hold after every event -/

/-- R124, R131, R133: outstanding upstream credit plus buffered frames never exceeds 6, downstream credit never exceeds 6,
and the send queue holds at most 8 frames. -/
structure Trunk.Sound (x : Trunk) : Prop where
  up    : x.upCredit + x.buffer.length ≤ 6
  down  : x.downCredit ≤ 6
  queue : x.queue.length ≤ 8

/-- R173, R179, R182: a notice queue holds at most 16 notices, and a result queue, with the result of a WAITING command
counted as queued, at most 3 results; the overflow count is at most 255. -/
structure Link.Sound (l : Link) : Prop where
  notices  : l.notices.length ≤ 16
  results  : l.load ≤ 3
  overflow : l.overflow ≤ 255

/-- R43, R70: urgency 0 to 1023, at most 3 escalation rounds, an unrecorded count of at most 65535. -/
structure Incident.Sound (i : Incident) : Prop where
  urgency    : i.urgency ≤ 1023
  rounds     : i.rounds ≤ 3
  unrecorded : i.unrecorded ≤ 65535

/-- R2: every upper bound is at most 65535, and entry 128's is 65535. -/
structure Settings.Bounded (a : Settings) : Prop where
  all : ∀ c, (a.circuit c).bound ≤ 65535
  top : (a.circuit 127).bound = 65535

/-- Staging settings, R2, R8: both copies are bounded, and while no desk holds the edit claim they are equal. -/
structure Setup.Sound (c : Setup) : Prop where
  active : c.active.Bounded
  shadow : c.shadow.Bounded
  agrees : c.claim = none → c.shadow = c.active

/-- Every incident of the table is sound. -/
def Board.IncidentsSound (b : Board) : Prop := ∀ i x, b.incident i = some x → x.Sound

/-- Every desk link is sound. -/
def Board.LinksSound (b : Board) : Prop := ∀ d : DeskId, (b.links[d]).Sound

/-- Every trunk is sound. -/
def Field.TrunksSound (f : Field) : Prop := ∀ t : TrunkId, (f.trunks[t]).Sound

/-- R21: at most 2048 records, at most one for an asset, held by rising asset number. -/
structure Faults.Sound (f : Faults) : Prop where
  fit    : f.records.length ≤ 2048
  rising : f.records.Pairwise fun x y => x.asset < y.asset

/-- R157: an operation field holds the index of an operation in flight at that station. -/
def Field.OpsAgree (f : Field) : Prop :=
  ∀ n o, (f.station n).op = some o → ∃ x, f.ops.find o = some x ∧ x.station = n

/-- R74: of two incidents of a queue, the first stands ahead: by urgency, highest first; then by opened time, earliest
first; then by index. -/
def Board.InOrder (b : Board) (i j : IncidentId) : Prop :=
  ∀ x y, b.incident i = some x → b.incident j = some y →
    y.urgency < x.urgency ∨
      (x.urgency = y.urgency ∧ (x.openedAt < y.openedAt ∨ (x.openedAt = y.openedAt ∧ i < j)))

/-- R44, R74, R81, R83, R94: the incident table is in canonical order and holds at most one live incident of a subject;
each queue holds the OPEN incidents of its group, each once, in queue order; an incident is OFFERED exactly when it stands
in a slot, and no incident stands in two; an OPEN or OFFERED incident has no assigned desk; and a desk's assigned count is
the number of ASSIGNED and RESTORED incidents that it holds. -/
structure Board.Arranged (b : Board) : Prop where
  rising  : b.incidents.rising = true
  single  : ∀ i j x y, b.incident i = some x → b.incident j = some y → x.live = true → y.live = true →
    x.subject = y.subject → i = j
  queued  : ∀ (g : DeskId) i, i ∈ b.queues[g] ↔ ∃ x, b.incident i = some x ∧ x.state = .opened ∧ x.group = g
  once    : ∀ g : DeskId, (b.queues[g]).Nodup
  sorted  : ∀ g : DeskId, (b.queues[g]).Pairwise b.InOrder
  offered : ∀ (d : DeskId) o, (b.desks[d]).slot = some o → ∃ x, b.incident o.incident = some x ∧ x.state = .offered
  stands  : ∀ i x, b.incident i = some x → x.state = .offered →
    ∃ d : DeskId, (b.desks[d]).slot.map (·.incident) = some i
  apart   : ∀ (d e : DeskId) o p, (b.desks[d]).slot = some o → (b.desks[e]).slot = some p →
    o.incident = p.incident → d = e
  free    : ∀ i x, b.incident i = some x → x.state = .opened ∨ x.state = .offered → x.assigned = none
  counts  : ∀ d : DeskId, (b.desks[d]).assigned = (b.heldBy d).length

/-! ## What the incident table's steps make of one incident (R45, R50, R56 to R58) -/

/-- R45: a circuit incident as it is opened, before the event that opens it acts on it. -/
def circuitOpened (c : Setup) (k : CircuitId) (cls : Cls) : Incident :=
  { subject := .circuit k, state := .opened, cls, group := groupOf (c.active.circuit k).group, assigned := none
    members := [], unrecorded := 0, worst := none, tripped := false, rounds := 0, declined := 0, urgency := 0
    openedAt := c.time, restoredAt := none, closeDelay := none, closedAt := none, tag := none }

/-- R45: the subject's incident has just been opened, for a station or a trunk. -/
structure InfraOpened (c : Setup) (about : Subject) (k : Condition) (x : Incident) : Prop where
  subject  : x.subject = about
  state    : x.state = .opened
  cls      : x.cls = .infra
  worst    : x.worst = some k
  openedAt : x.openedAt = c.time
  group    : x.group = homeGroup c.active about false
  assigned : x.assigned = none
  members  : x.members = [] ∧ x.unrecorded = 0
  rounds   : x.rounds = 0 ∧ x.declined = 0 ∧ x.tripped = false
  times    : x.restoredAt = none ∧ x.closeDelay = none ∧ x.closedAt = none
  tag      : x.tag = none
  urgency  : x.urgency = urgencyOf (urgencyInputs c x)

/-- R50: the worst condition and the class are those of the earliest of the members with the highest condition weight. -/
def Incident.Ranked (x : Incident) : Prop :=
  ∃ front w rest, x.members = front ++ w :: rest ∧ x.worst = some w.condition ∧ x.cls = w.kind.cls ∧
    (∀ m ∈ front, m.condition.weight < w.condition.weight) ∧ ∀ m ∈ rest, m.condition.weight ≤ w.condition.weight

/-- R56: the state of an incident that a join, a count or its subject's fault acts on: a RESTORED one is reopened. -/
def Incident.reopenedState (x : Incident) : IncidentState :=
  if x.state = .restored then (if x.assigned = none then .opened else .assigned) else x.state

/-- R56 to R58: what a join or a count of +1 that brings circuit `k`'s faults to `n` makes of the incident `x` besides its
members, count, worst condition, class and urgency: it is reopened if it was RESTORED, and where it trips it moves to the
circuit's alternate group, where an OFFERED incident returns to OPEN. -/
structure Stirred (c : Setup) (k : CircuitId) (n : Nat) (x y : Incident) : Prop where
  tripped : y.tripped = true ↔ x.tripped = true ∨ ((c.active.circuit k).trip ≠ 0 ∧ (c.active.circuit k).trip ≤ n)
  moves   : ∀ a, x.tripped = false → (c.active.circuit k).trip ≠ 0 → (c.active.circuit k).trip ≤ n →
    (c.active.circuit k).alternate = some a → groupOf a ≠ x.group →
    y.group = groupOf a ∧ y.declined = 0 ∧
      y.state = if x.reopenedState = .offered then .opened else x.reopenedState
  stays   : x.tripped = true ∨ (c.active.circuit k).trip = 0 ∨ n < (c.active.circuit k).trip ∨
      (∀ a, (c.active.circuit k).alternate = some a → groupOf a = x.group) →
    y.group = x.group ∧ y.declined = x.declined ∧ y.state = x.reopenedState
  times   : y.restoredAt = (if x.state = .restored then none else x.restoredAt) ∧
    y.closeDelay = if x.state = .restored then none else x.closeDelay
  kept    : y.subject = x.subject ∧ y.assigned = x.assigned ∧ y.rounds = x.rounds ∧ y.openedAt = x.openedAt ∧
    y.closedAt = x.closedAt ∧ y.tag = x.tag

/-! ## Waiting commands and their answers (R179, R181, R93) -/

/-- R179: the desk's outstanding command is this body, WAITING. -/
abbrev State.waits (s : State) (d : DeskId) (body : List Byte) : Prop :=
  (s.board.links[d]).outstanding = some ⟨body, .waiting⟩

/-- R179, R181: a result joins the desk's result queue with the attention flag as it stands, and the flag that says that
the desk does not answer clears (R93). -/
def State.withResult (d : DeskId) (code : Byte) (own : Bool) (v : Verdict) (s : State) : State :=
  (s.updLink d fun l => { l with
    results := l.results ++ [⟨code, v.termination, v.reason, l.attention, v.data, own⟩] }).updDesk d
      fun x => { x with unresponsive := false }

/-- R179: the owner's answer to the desk's WAITING command, which is ANSWERING from then on. -/
def State.answered (d : DeskId) (code : Byte) (v : Verdict) (s : State) : State :=
  (s.updLink d fun l => { l with
    outstanding := l.outstanding.map fun o => { o with phase := .answering } }).withResult d code true v

/-! ## What the end of an event may still do (R84 to R86, R178) -/

/-- A run makes a desk no offer, or it makes an eligible desk one: the slot fills, and the OFFER notice is queued or, at a
full queue, dropped. -/
def Offered (able : Bool) (l m : Link) (x y : Desk) : Prop :=
  (y = x ∧ m = l) ∨
    (able = true ∧ ∃ o change urgency,
      y = { x with slot := some o } ∧ m = l.take (.offer o.incident change urgency o.deadline))

/-- The end of an event makes a desk at most one offer, if it is eligible, and the line then begins its next frame. -/
def DeskEnd (able : Bool) (l m : Link) (x y : Desk) : Prop := ∃ k, Offered able l k x y ∧ m = k.begin

/-- The end of an event leaves an incident record as it is, or makes its incident OFFERED with the next change number. -/
def RecordEnd (r r' : IncidentRecord) : Prop :=
  r' = r ∨ ∃ x, r.body = some x ∧ x.state ≠ .offered ∧ r' = ⟨(r.change + 1) % 65536, some { x with state := .offered }⟩

/-- R83: every incident that a queue lists is of the queue's group. -/
def Board.QueuesOwn (b : Board) : Prop := ∀ (g : DeskId) i x, i ∈ b.queues[g] → b.incident i = some x → x.group = g

/-- From the state `s` before an event and the state `u` that the event's own effects have made of it, to the state `t` at
its end.  An incident leaves a queue only by being offered, a pointer moves only to a desk of its group that has been
offered one, and the queue and the pointer of a group that the event does not run (R85) are as they were. -/
structure EventEnd (s u t : State) : Prop where
  setup    : t.setup = u.setup
  faults   : t.faults = u.faults
  field    : t.field = u.field
  error    : t.error = u.error
  draws    : t.draws = u.draws
  pending  : t.pending = u.pending
  aging    : t.board.aging = u.board.aging
  timeouts : t.board.timeouts = u.board.timeouts
  stirs    : t.board.stirs = u.board.stirs
  desks    : ∀ d : DeskId, DeskEnd (eligible u.setup.active u.board d) u.board.links[d] t.board.links[d]
    u.board.desks[d] t.board.desks[d]
  records  : ∀ i, RecordEnd (u.board.record i) (t.board.record i)
  queues   : ∀ g : DeskId, (t.board.queues[g]).Sublist u.board.queues[g] ∧
    ∀ i ∈ u.board.queues[g], i ∉ t.board.queues[g] → t.board.record i ≠ u.board.record i
  pointers : ∀ g : DeskId, t.board.pointers[g] = u.board.pointers[g] ∨
    ∃ d : DeskId, t.board.pointers[g] = d ∧ inGroup u.setup.active g d = true ∧ (u.board.desks[d]).slot = none ∧
      (t.board.desks[d]).slot ≠ none
  quiet    : ∀ g : DeskId, runDue u.setup s.board u.board g = false → t.board.pointers[g] = u.board.pointers[g] ∧
    (u.board.QueuesOwn → t.board.queues[g] = u.board.queues[g])

/-- A step whose own effects make `u` of `s`: it answers a next state, and that is `u` at the end of its event. -/
def Does (i : Instr) (s u : State) : Prop := ∃ t, exec i s = .next t ∧ EventEnd s u t

/-- A step that has nothing to act on leaves the state as it is. -/
def Stays (i : Instr) (s : State) : Prop := exec i s = .next s

/-- The bytes of a desk's line taken one after another (R177). -/
def State.feed (d : DeskId) : List Byte → State → Answer
  | [], s => .next s
  | b :: rest, s =>
    match exec (.deskByte d b) s with
    | .next t => State.feed d rest t
    | .fault f => .fault f
    | .refused r => .refused r

/-- A read command that changes nothing (R184): the result is queued and the lines begin their next frames. -/
def Answers (i : Instr) (d : DeskId) (code : Byte) (v : Verdict) (s : State) : Prop :=
  Does i s (s.answered d code v) ∧
    ((s.board.desks[d]).unresponsive = false →
      exec i s = .next ((s.answered d code v).onBoard fun _ b => b.beginLines))

end Sys2Proof.Machine
end

