-- ==== Sys2Proof/Certificates/Slice0/Obligations.lean ====
section
/-! DEFINITION. The statements about the part, in the order of the spec's blocks.  `Does i s u` says that the step `i`
answers a next state from `s`, which is `u` at the end of its event; `Answers` that it changes nothing but the result. -/

open Sys2Proof Sys2Proof.Machine

/-! ## The queue and the clock -/

/-- A step takes the row at the front of the queue and is that row with the rest of the queue. -/
def Obligations.StepTakesFront : Prop :=
  ∀ (i : Instr) (s : State), step { s with pending := i :: s.pending } = exec i s

/-- On an empty queue one second passes (the model's choice, log entry 3): the clock counts it, past the last second that
32 bits hold to an open value (log entry 4), and the rows of exactly the timers that have then run out are queued, in an
order that the spec leaves open (log entry 32). Nothing else changes; no second takes a buffered frame (log entry 35). -/
def Obligations.IdleStepCountsSecond : Prop :=
  ∀ s : State, s.pending = [] → ∃ t : State, step s = .next t ∧
    t.faults = s.faults ∧ t.board = s.board ∧ t.field = s.field ∧ t.error = s.error ∧
    { t.setup with time := s.setup.time } = s.setup ∧
    (s.setup.time < 4294967295 → t.setup.time = s.setup.time + 1) ∧
    (4294967295 ≤ s.setup.time → t.setup.time ≤ 4294967295) ∧
    t.pending.Perm (dueRows t) ∧
    let now := t.setup.time
    ∀ i : Instr, i ∈ t.pending ↔
      (∃ r e, s.faults.find r.asset = some r ∧ e ≤ now ∧
        ((r.timer = .running .confirmWindow e ∧ i = .confirmWindowExpiry r.asset) ∨
          (r.timer = .running .restoreHold e ∧ i = .restoreHoldExpiry r.asset))) ∨
      (∃ n x e, s.board.incident n = some x ∧ x.state = .restored ∧ x.closeDelay = some e ∧ e ≤ now ∧
        i = .closeDelayExpiry n) ∨
      (∃ n y, s.board.aging.find n = some y ∧ y.due ≤ now ∧ i = .agingBoundary n) ∨
      (∃ (d : DeskId) (o : Offer), (s.board.desks[d]).slot = some o ∧ o.deadline ≤ now ∧ i = .offerExpiry d) ∨
      (∃ (d : DeskId) (e : Nat), (s.board.desks[d]).absence = some e ∧ e ≤ now ∧ i = .absenceExpiry d) ∨
      (∃ n e, (s.station n).nextExpiry = some e ∧ e ≤ now ∧ i = .intervalExpiry n) ∨
      (∃ t e, e ≤ now ∧
        (((s.trunk t).state = .starting ∧ (s.trunk t).startDeadline = some e ∧ i = .startDeadline t) ∨
          ((s.trunk t).state = .faulted ∧ (s.trunk t).retryDeadline = some e ∧ i = .retryDeadline t) ∨
          ((s.trunk t).graceDeadline = some e ∧ i = .graceDeadline t) ∨
          ((s.chain t).census = some e ∧ i = .censusDeadline t) ∨
          (∃ p, (s.chain t).labelling = some ⟨p, e⟩ ∧ i = .labelDeadline t))) ∨
      (∃ o x, s.field.ops.find o = some x ∧ x.deadline ≤ now ∧
        ((x.kind = .probe ∧ i = .probeDeadline o) ∨ (x.kind = .cycle ∧ i = .cycleDeadline o) ∨
          (x.kind = .sweep ∧ i = .stepDeadline o)))

/-- No row but POWER_ON moves the clock, and none touches the queue or draws an open value. -/
def Obligations.RowsKeepQueueAndClock : Prop :=
  ∀ (i : Instr) (s t : State), exec i s = .next t →
    t.pending = s.pending ∧ t.draws = s.draws ∧
      ((∀ lines, i ≠ .powerOn lines) → t.setup.time = s.setup.time)

/-! ## Power -/

/-- POWER_ON: every block at its power-on values, and each link as its line stands; and what those values are. The
rows' operand is log entry 11. -/
def Obligations.PowerOnValues : Prop :=
  (∀ (lines : DeskSet) (s : State), ∃ t, exec (.powerOn lines) s = .next t ∧
    t.setup = State.reset.setup ∧ t.faults = State.reset.faults ∧ t.field = State.reset.field ∧
    t.error = State.reset.error ∧ t.draws = s.draws ∧ t.pending = s.pending ∧
    (∀ d : DeskId, t.board.links[d] = { up := inSet d lines, attention := inSet d lines }) ∧
    { t.board with links := State.reset.board.links } = State.reset.board) ∧
  let s := State.reset
  s.setup.time = 0 ∧ s.setup.claim = none ∧ s.setup.period = .day ∧ s.setup.shadow = s.setup.active ∧
  (∀ c, s.setup.active.circuit c =
    { bound := 65535, invalid := true, fold := false, group := 0, alternate := none, weight := 0, trip := 0, tau := 0 }) ∧
  (∀ n, s.roster n =
    { kind := none, first := 0, count := 0, interval := 60, allowance := 2, sleepLimit := 9, weight := 64 }) ∧
  (∀ d : DeskId, s.setup.active.desks[d] = { continues := false, maintenance := false, limit := 8, timeout := 45 }) ∧
  s.setup.active.params =
    { lampThreshold := 2, loopThreshold := 3, signThreshold := 1, confirmWindow := 120, restoreHold := 300
      closeDelay := 600, trunkGrace := 15, trunkRetry := 10, trunkWeight := 200, absenceGrace := 120, sweepStart := 8
      sweepMargin := 2, cycleOffTime := 5 } ∧
  (∀ p k, (s.setup.active.scales.of p).of k = 16) ∧
  s.faults = { records := [], marks := [], dropped := 0 } ∧
  (∀ i, s.board.record i = { change := 0, body := none } ∧ s.board.aging.find i = none) ∧
  (∀ g : DeskId, s.board.queues[g] = [] ∧ s.board.pointers[g] = g ∧ s.board.timeouts[g] = 45) ∧
  (∀ d : DeskId, s.board.desks[d] =
    { onDuty := false, slot := none, lastWithdrawn := none, unresponsive := false, assigned := 0, absence := none }) ∧
  (∀ n, s.station n =
    { mode := .vacant, hold := ⟨false, false⟩, balance := 0, nextExpiry := none, wakeExtra := false, sleepCount := 0
      span := none, identity := none, lastHeard := none, applied := 0, droppedHeld := 0, transients := 0, op := none }) ∧
  (∀ t, (s.trunk t).state = .off ∧ (s.trunk t).upCredit = 0 ∧ (s.trunk t).downCredit = 0 ∧ (s.trunk t).buffer = [] ∧
    (s.trunk t).queue = [] ∧ (s.trunk t).assembly = none ∧ (s.trunk t).transmitting = none ∧
    (s.trunk t).startDeadline = none ∧ (s.trunk t).retryDeadline = none ∧ (s.trunk t).graceDeadline = none ∧
    (s.trunk t).faultTime = none ∧ (s.trunk t).attempts = 0 ∧ ∀ e : Fin 22, (s.trunk t).counters[e] = 0) ∧
  (∀ t, s.chain t = { census := none, again := false, labelling := none, list := [] }) ∧
  (∀ o, s.field.ops.find o = none) ∧ s.field.lastOp = 31 ∧
  s.error = { code := .none, place := .none, time := none, writes := 0 }

/-! ## Desk links -/

/-- LINK_DOWN: the link's frames go, the edit claim of the desk is freed, and the arbiter takes the desk off duty with its
offer, whose incident is OPEN in its queue again with no notice, and starts the absence timer, which a grace of 0 runs
out at once. A notice whose sending had begun goes uncounted, which is the model's choice (log entry 37). -/
def Obligations.LinkDownTakesOffDuty : Prop :=
  (∀ (d : DeskId) (s : State), (s.board.links[d]).up = true →
    Does (.linkDown d) s
      (((s.updLink d fun l => { l with
          up := false, receiver := none, outstanding := none, results := [], sending := .idle, notices := []
          overflow := min 255 (l.overflow + l.notices.length)
          attention := l.attention || decide (l.notices ≠ []) }).onSetup fun c =>
            if c.claim = some d then { c with shadow := c.active, claim := none } else c).onBoard
        fun c b => b.linkLost c d)) ∧
  ∀ (c : Setup) (d : DeskId) (b : Board),
    let x := b.desks[d]
    let grace := c.active.params.absenceGrace
    (b.linkLost c d).desks[d] =
      { onDuty := false, slot := none, unresponsive := x.unresponsive
        lastWithdrawn := match x.slot with
          | some o => some o.incident
          | none => x.lastWithdrawn
        assigned := if grace = 0 then 0 else x.assigned
        absence := if grace = 0 then none else some (c.time + grace) } ∧
    (∀ e, e ≠ d → (b.linkLost c d).desks[e] = b.desks[e] ∧ (b.linkLost c d).links[e] = b.links[e]) ∧
    (grace ≠ 0 → (b.linkLost c d).links[d] = b.links[d]) ∧
    (∀ o y, x.slot = some o → b.incident o.incident = some y → y.state = .offered →
      (b.linkLost c d).record o.incident = ⟨(b.change o.incident + 1) % 65536, some { y with state := .opened }⟩ ∧
      o.incident ∈ (b.linkLost c d).queues[y.group])

/-- LINK_UP: the link is UP with its attention flag set and its receiver hunting, and the absence timer stops; the desk's
duty is as it was. -/
def Obligations.LinkUpSetsAttention : Prop :=
  ∀ (d : DeskId) (s : State), (s.board.links[d]).up = false →
    Does (.linkUp d) s
      ((s.updLink d fun l => { l with up := true, attention := true, receiver := none }).updDesk d
        fun x => { x with absence := none })

/-- COMMAND_FRAME, R179's last line: with no command outstanding and no result queued, a command becomes outstanding,
WAITING. CommandAnsweredByTheLink gives the table of the body lengths allowed. -/
def Obligations.CommandBecomesOutstanding : Prop :=
  ∀ (d : DeskId) (code : Byte) (args : List Byte) (s : State),
    (s.board.links[d]).up = true → (s.board.links[d]).outstanding = none → (s.board.links[d]).results = [] →
    lengthAllowed code.toNat (args.length + 1) = true → code ≠ 0x0E#8 → code ≠ 0x0F#8 →
    Does (.commandFrame d (code :: args)) s
      (s.updLink d fun l => { l with receiver := none, outstanding := some ⟨code :: args, .waiting⟩ })

/-- COMMAND_FRAME, the other lines of R179: a frame whose result would take the queue above 3 is dropped; an unknown code, a
body length that is not allowed and a command out of turn are answered at once; a frame that carries ABORT or a RESET of
level 1 to 3 is that row, and a RESET of another level is INVALID. The code of the result to an empty body is an open value
(log entry 5). And the table of the command codes with the body lengths that each allows; every other code is unknown. An
answer other than DONE carries no data (log entry 25). -/
def Obligations.CommandAnsweredByTheLink : Prop :=
  (∀ (d : DeskId) (s : State),
    exec (.commandFrame d [0x0E#8]) s = exec (.abort d) s ∧
    exec (.commandFrame d [0x0F#8, 1#8]) s = exec (.resetLevel1 d) s ∧
    exec (.commandFrame d [0x0F#8, 2#8]) s = exec (.resetLevel2 d) s ∧
    exec (.commandFrame d [0x0F#8, 3#8]) s = exec (.resetLevel3 d) s ∧
    ∀ level : Byte, level.toNat = 0 ∨ 3 < level.toNat →
      (s.board.links[d]).up = true → (s.board.links[d]).load ≤ 2 →
      Does (.commandFrame d [0x0F#8, level]) s ((s.updLink d fun l => { l with receiver := none }).withResult d 0x0F#8
        false ⟨.invalid, some .badArgument, .none⟩)) ∧
  (∀ (d : DeskId) (body : List Byte) (s : State), (s.board.links[d]).up = true → body.length ≤ 254 →
    let hunting := s.updLink d fun l => { l with receiver := none }
    (3 ≤ (s.board.links[d]).load → Does (.commandFrame d body) s hunting) ∧
    ((s.board.links[d]).load ≤ 2 →
      (body = [] →
        Does (.commandFrame d body) s
          (hunting.withResult d Config.noCommandCode false ⟨.invalid, some .unknownCommand, .none⟩)) ∧
      ∀ code args, body = code :: args →
        (bodyLengths code.toNat = none →
          Does (.commandFrame d body) s (hunting.withResult d code false ⟨.invalid, some .unknownCommand, .none⟩)) ∧
        ((bodyLengths code.toNat).isSome → lengthAllowed code.toNat body.length = false →
          Does (.commandFrame d body) s (hunting.withResult d code false ⟨.invalid, some .badLength, .none⟩)) ∧
        (lengthAllowed code.toNat body.length = true → code ≠ 0x0E#8 → code ≠ 0x0F#8 →
          (s.board.links[d]).outstanding ≠ none ∨ (s.board.links[d]).results ≠ [] →
          Does (.commandFrame d body) s (hunting.withResult d code false ⟨.refused, some .sequence, .none⟩)))) ∧
  let rows : List (List Nat × Nat × Nat) :=
    [([0x01, 0x02, 0x03, 0x0E, 0x15, 0x50, 0x57, 0x58], 1, 1), ([0x04, 0x0F], 2, 2), ([0x40, 0x41, 0x42, 0x43, 0x14], 2, 2),
      ([0x3B, 0x48], 2, 2), ([0x20, 0x21, 0x22], 3, 3), ([0x12, 0x38, 0x39, 0x3A], 3, 3), ([0x30, 0x31, 0x13], 3, 3),
      ([0x24, 0x23, 0x10, 0x54, 0x55, 0x56], 4, 4), ([0x11, 0x53], 5, 5), ([0x51], 10, 10), ([0x52], 13, 13),
      ([0x25], 3, 19)]
  (∀ row ∈ rows, ∀ code ∈ row.1, bodyLengths code = some row.2) ∧
  (∀ code : Nat, (∀ row ∈ rows, code ∉ row.1) → bodyLengths code = none) ∧
  ∀ code len : Nat, lengthAllowed code len = true ↔ ∃ least most, bodyLengths code = some (least, most) ∧ least ≤ len ∧
    len ≤ most

/-- Every step of the part answers a next state from every state; a term that stands for no step (a body that no desk
frame can carry, a number that is no asset) faults, and nothing is ever refused. A row whose event cannot happen in a
state leaves it as it is (log entry 2); the two faults are log entry 27. -/
def Obligations.EveryRowCompletes : Prop :=
  ∀ (i : Instr) (s : State),
    ((i.wf = true ↔ ∃ t, exec i s = .next t) ∧ (i.wf = false ↔ ∃ f, exec i s = .fault f)) ∧
    (∀ d : DeskId, ∀ p ∈ [
        (0x01#8, Instr.identify d), (0x02#8, .sense d), (0x03#8, .signOn d), (0x04#8, .signOff d),
        (0x10#8, .listPending d), (0x11#8, .readIncident d), (0x12#8, .readFault d), (0x13#8, .readStation d),
        (0x14#8, .readTrunk d), (0x15#8, .readError d), (0x20#8, .accept d), (0x21#8, .decline d),
        (0x22#8, .release d), (0x23#8, .handover d), (0x24#8, .close d), (0x25#8, .tag d), (0x30#8, .hold d),
        (0x31#8, .unhold d), (0x38#8, .probe d), (0x39#8, .cycle d), (0x3A#8, .sweep d), (0x3B#8, .abortOp d),
        (0x40#8, .trunkStart d), (0x41#8, .trunkStop d), (0x42#8, .census d), (0x43#8, .labelChain d),
        (0x48#8, .setPeriod d), (0x50#8, .editBegin d), (0x51#8, .writeCircuit d), (0x52#8, .writeStation d),
        (0x53#8, .writeDesk d), (0x54#8, .writeParam d), (0x55#8, .writeScale d), (0x56#8, .readShadow d),
        (0x57#8, .adopt d), (0x58#8, .discard d)],
      (∀ args, ¬s.waits d (p.1 :: args)) → Stays p.2 s) ∧
    (∀ (d : DeskId) (body : List Byte) (b : Byte),
      let l := s.board.links[d]
      (l.up = true → Stays (.linkUp d) s) ∧
      (l.up = false → body.length ≤ 254 → ∀ row ∈ [Instr.linkDown d, .commandFrame d body, .badCrc d, .badKind d,
        .badFrame d, .byteTimeout d, .deskByte d b, .abort d, .resetLevel1 d, .resetLevel2 d, .resetLevel3 d],
        Stays row s) ∧
      (l.receiver = none → Stays (.byteTimeout d) s) ∧
      (l.sending ≠ .result → Stays (.resultSent d) s) ∧
      ((∀ n, l.sending ≠ .notice n) → Stays (.noticeSent d) s)) ∧
    (∀ t : TrunkId,
      let x := s.trunk t
      (∀ p ∈ [(0x01#8, Instr.checkIn t), (0x02#8, .assetState t), (0x03#8, .sleep t), (0x04#8, .bypassOn t),
          (0x05#8, .bypassOff t), (0x06#8, .labelAck t), (0x07#8, .opReply t), (0x08#8, .censusReturn t),
          (0x09#8, .noTaker t)],
        (∀ rest, x.buffer.head? ≠ some (p.1 :: rest)) → Stays p.2 s) ∧
      (x.state ≠ .running → Stays (.parity t) s) ∧
      (x.state ≠ .running ∨ x.watch = false → Stays (.disconnect t) s) ∧
      (x.state ≠ .running ∨ x.transmitting = none → Stays (.downstreamFrameSent t) s)) ∧
    let now := s.setup.time
    (∀ asset, asset ≤ 65535 →
      ((∀ r e, s.faults.find asset = some r → r.timer = .running .confirmWindow e → now < e) →
        Stays (.confirmWindowExpiry asset) s) ∧
      ((∀ r e, s.faults.find asset = some r → r.timer = .running .restoreHold e → now < e) →
        Stays (.restoreHoldExpiry asset) s)) ∧
    (∀ n, ((∀ x e, s.board.incident n = some x → x.state = .restored → x.closeDelay = some e → now < e) →
        Stays (.closeDelayExpiry n) s) ∧
      ((∀ y, s.board.aging.find n = some y → now < y.due) → Stays (.agingBoundary n) s)) ∧
    (∀ d : DeskId,
      ((∀ o, (s.board.desks[d]).slot = some o → now < o.deadline) → Stays (.offerExpiry d) s) ∧
      ((∀ e, (s.board.desks[d]).absence = some e → now < e) → Stays (.absenceExpiry d) s)) ∧
    (∀ n, (∀ e, (s.station n).nextExpiry = some e → now < e) → Stays (.intervalExpiry n) s) ∧
    (∀ t,
      ((s.trunk t).state ≠ .starting ∨ (∀ e, (s.trunk t).startDeadline = some e → now < e) →
        Stays (.startDeadline t) s) ∧
      ((s.trunk t).state ≠ .faulted ∨ (∀ e, (s.trunk t).retryDeadline = some e → now < e) →
        Stays (.retryDeadline t) s) ∧
      ((∀ e, (s.trunk t).graceDeadline = some e → now < e) → Stays (.graceDeadline t) s) ∧
      ((∀ l, (s.chain t).labelling = some l → now < l.deadline) → Stays (.labelDeadline t) s) ∧
      ((∀ e, (s.chain t).census = some e → now < e) → Stays (.censusDeadline t) s)) ∧
    ∀ o,
      ((∀ x, s.field.ops.find o = some x → x.kind = .probe → now < x.deadline) → Stays (.probeDeadline o) s) ∧
      ((∀ x, s.field.ops.find o = some x → x.kind = .cycle → now < x.deadline) → Stays (.cycleDeadline o) s) ∧
      ((∀ x, s.field.ops.find o = some x → x.kind = .sweep → now < x.deadline) → Stays (.stepDeadline o) s)

/-- The receiver's errors: each counts on its link, writes the most-recent-error record and leaves the receiver hunting;
no result is made. A count that has reached its upper limit stays there. -/
def Obligations.FrameErrorsAreCounted : Prop :=
  (∀ top n : Nat, saturate top n = if n < top then n + 1 else top) ∧
  ∀ (d : DeskId) (s : State), (s.board.links[d]).up = true →
    let errored (e : ErrorCode) : ErrorRecord := ⟨e, .desk d, some s.setup.time, (s.error.writes + 1) % 65536⟩
    Does (.badCrc d) s { s.updLink d fun l => { l with badCrc := saturate 65535 l.badCrc, receiver := none } with
      error := errored .badCrc } ∧
    Does (.badKind d) s { s.updLink d fun l => { l with badKind := saturate 65535 l.badKind, receiver := none } with
      error := errored .badKind } ∧
    Does (.badFrame d) s { s.updLink d fun l => { l with badFrame := saturate 65535 l.badFrame, receiver := none } with
      error := errored .badFrame } ∧
    ((s.board.links[d]).receiver ≠ none →
      Does (.byteTimeout d) s { s.updLink d fun l => { l with badFrame := saturate 65535 l.badFrame, receiver := none } with
        error := errored .badFrame })

/-- DESK_BYTE: a hunting receiver ignores all but SYNC, which begins a frame; a length byte of 0 is a
framing error; a byte that does not complete a frame is kept.  The byte that completes a frame: a CRC that does not agree is
BAD-CRC, whatever the kind; one that agrees with a kind other than COMMAND is BAD-KIND; and with both right the frame is the
command frame of its body. -/
def Obligations.DeskByteInReception : Prop :=
  ∀ (d : DeskId) (b : Byte) (s : State), (s.board.links[d]).up = true →
    ((s.board.links[d]).receiver = none → b ≠ 0x7E#8 → Does (.deskByte d b) s s) ∧
    ((s.board.links[d]).receiver = none → b = 0x7E#8 →
      Does (.deskByte d b) s (s.updLink d fun l => { l with receiver := some [] })) ∧
    ((s.board.links[d]).receiver = some [] → b = 0#8 →
      Does (.deskByte d b) s { s.updLink d fun l => { l with badFrame := saturate 65535 l.badFrame, receiver := none } with
        error := ⟨.badFrame, .desk d, some s.setup.time, (s.error.writes + 1) % 65536⟩ }) ∧
    ((s.board.links[d]).receiver = some [] → b ≠ 0#8 →
      Does (.deskByte d b) s (s.updLink d fun l => { l with receiver := some [b] })) ∧
    ∀ len rest, (s.board.links[d]).receiver = some (len :: rest) → len ≠ 0#8 →
      (rest.length + 1 < len.toNat + 2 →
        Does (.deskByte d b) s (s.updLink d fun l => { l with receiver := some (len :: rest ++ [b]) })) ∧
      (rest.length + 1 = len.toNat + 2 →
        let checked := (len :: rest ++ [b]).take (len.toNat + 1)
        let agrees := (len :: rest ++ [b]).drop (len.toNat + 1) = crcBytes checked
        (¬agrees →
          Does (.deskByte d b) s { s.updLink d fun l => { l with badCrc := saturate 65535 l.badCrc, receiver := none } with
            error := ⟨.badCrc, .desk d, some s.setup.time, (s.error.writes + 1) % 65536⟩ }) ∧
        (agrees → rest.head? ≠ some 0x01#8 →
          Does (.deskByte d b) s { s.updLink d fun l => { l with badKind := saturate 65535 l.badKind, receiver := none } with
            error := ⟨.badKind, .desk d, some s.setup.time, (s.error.writes + 1) % 65536⟩ }) ∧
        (agrees → ∀ body, checked = len :: 0x01#8 :: body →
          exec (.deskByte d b) s = exec (.commandFrame d body) s))

/-- The bytes of a command frame, taken one by one by a hunting receiver whose lines have begun their frames, are the
command frame; those bytes, and how the CRC is reckoned, with the spec's nine bytes. -/
def Obligations.BytesMakeTheFrame : Prop :=
  (∀ (d : DeskId) (body : List Byte) (s : State), (s.board.links[d]).up = true → (s.board.links[d]).receiver = none →
    s.board.beginLines = s.board → body.length ≤ 254 →
    s.feed d (commandFrameBytes body) = exec (.commandFrame d body) s) ∧
  (∀ body : List Byte,
    let bytes : List Byte := BitVec.ofNat 8 (body.length + 1) :: 0x01#8 :: body
    commandFrameBytes body = 0x7E#8 :: bytes ++ crcBytes bytes) ∧
  crcOf [] = 0xFFFF#16 ∧
  (∀ (bytes : List Byte) (b : Byte), crcOf (bytes ++ [b]) =
    (List.range 8).foldl (fun (c : Half) _ => if c.getLsbD 15 = true then (c <<< 1) ^^^ 0x1021#16 else c <<< 1)
      (crcOf bytes ^^^ (b.setWidth 16 <<< 8))) ∧
  (∀ bytes : List Byte, crcBytes bytes = [(crcOf bytes).extractLsb' 8 8, (crcOf bytes).extractLsb' 0 8]) ∧
  crcOf [0x31#8, 0x32#8, 0x33#8, 0x34#8, 0x35#8, 0x36#8, 0x37#8, 0x38#8, 0x39#8] = 0x29B1#16

/-- RESULT_SENT and NOTICE_SENT: the oldest result leaves its queue, and the command stops being outstanding if the
result was its own; a notice sent has left its queue already. A line that sends nothing begins the oldest result, or
else the oldest notice, which leaves its queue.  Then the frame on the line byte by byte: the numbers and codes, the RESULT
with its header and its data (the data of SENSE and of the read commands stand with those commands), and the NOTICE with
its kind and data.  Codes that the layouts do not state are free values, and so is the absent outcome of a PROBE's or CYCLE's
OP-DONE (log entry 6); a SWEEP's is two absent levels, and at which ends it is sent is log entry 40; the order of the fields
of WITHDRAWN is log entry 23. -/
def Obligations.FramesSent : Prop :=
  (∀ (d : DeskId) (s : State),
    (∀ r rest, (s.board.links[d]).sending = .result → (s.board.links[d]).results = r :: rest →
      Does (.resultSent d) s (s.updLink d fun l => { l with
        results := rest, sending := .idle, outstanding := if r.own then none else l.outstanding })) ∧
    ∀ n, (s.board.links[d]).sending = .notice n →
      Does (.noticeSent d) s (s.updLink d fun l => { l with sending := .idle })) ∧
  ∀ l : Link,
    (l.up = true → l.sending = .idle → l.results ≠ [] → l.begin = { l with sending := .result }) ∧
    (∀ n rest, l.up = true → l.sending = .idle → l.results = [] → l.notices = n :: rest →
      l.begin = { l with sending := .notice n, notices := rest }) ∧
    (l.up = false ∨ l.sending ≠ .idle ∨ (l.results = [] ∧ l.notices = []) → l.begin = l) ∧
    (l.sending = .idle → l.frameOnLine = none) ∧
    (∀ r rest, l.sending = .result → l.results = r :: rest → l.frameOnLine = some (deskFrame 0x02#8 r.body)) ∧
    (∀ n, l.sending = .notice n → l.frameOnLine = some (deskFrame 0x03#8 n.body)) ∧
    (∀ (kind : Byte) (body : List Byte),
      let bytes : List Byte := BitVec.ofNat 8 (body.length + 1) :: kind :: body
      deskFrame kind body = 0x7E#8 :: bytes ++ crcBytes bytes) ∧
    let byte (n : Nat) : Byte := BitVec.ofNat 8 n
    let bit (b : Bool) : Nat := if b = true then 1 else 0
    (∀ n : Nat, two n = [byte (n / 256), byte n] ∧
      four n = [byte (n / 16777216), byte (n / 65536), byte (n / 256), byte n] ∧
      timeOrNone (some n) = four n ∧ smallOrNone (some n) = [byte n]) ∧
    timeOrNone none = [0xFF#8, 0xFF#8, 0xFF#8, 0xFF#8] ∧ smallOrNone none = [0xFF#8] ∧
    indexOrNone none = [0xFF#8, 0xFF#8] ∧ (∀ i : IncidentId, indexOrNone (some i) = two i.val) ∧
    (∀ b : Bool, yesNo b = [byte (bit b)]) ∧
    (∀ a b : Bool, flags [a] = [byte (bit a)] ∧ flags [a, b] = [byte (bit a + 2 * bit b)]) ∧
    (∀ set : DeskSet, setByte set = [set.setWidth 8]) ∧
    [Kind.lamp, .loop, .sign].map Kind.code = [1, 2, 3] ∧ [Cls.lamp, .loop, .sign, .infra].map Cls.code = [1, 2, 3, 4] ∧
    [Condition.ok, .out, .degraded, .cycling, .loopOpen, .loopShort, .drift, .stuckOn, .dark, .pixel, .comms, .silent,
      .trunkDown].map Condition.code = List.range 13 ∧
    [Period.day, .night, .peak, .storm].map Period.code = [0, 1, 2, 3] ∧
    [Mode.vacant, .pending, .active, .asleep, .silent, .unreached].map Mode.code = List.range 6 ∧
    [IncidentState.opened, .offered, .assigned, .restored, .closed].map IncidentState.code = [1, 2, 3, 4, 5] ∧
    [TrunkState.off, .starting, .running, .faulted].map TrunkState.code = [0, 1, 2, 3] ∧
    [FaultState.suspect, .confirmed, .restoring].map FaultState.code = [1, 2, 3] ∧
    [TimerKind.confirmWindow, .restoreHold].map TimerKind.code = [1, 2] ∧
    [OpKind.probe, .cycle, .sweep].map OpKind.code = [1, 2, 3] ∧
    [OpState.sent, .stepping, .settling, .ending].map OpState.code = [1, 2, 3, 4] ∧
    [TrunkError.parity, .disconnect, .creditOverrun, .creditExcess, .startTimeout, .nullFrame, .longFrame, .unknownType,
      .shortFrame, .unknownLabel, .notOwned, .kindMismatch, .badCondition, .invalidCircuit, .noTaker, .identityMismatch,
      .strayReply, .labelFailed, .censusFailed, .chainTooLong, .unexpectedStation, .labelMismatch].map TrunkError.code =
        List.range' 1 22 ∧
    [Termination.done, .refused, .invalid, .aborted, .tooLate].map Termination.code = [0, 1, 2, 3, 4] ∧
    [Reason.sequence, .unknownCommand, .badLength, .badArgument, .abort, .reset, .claimed, .noClaim, .offDuty, .notOffered,
      .notHolder, .notAssigned, .closed, .restored, .membersPresent, .holdsIncidents, .vacant, .heldAtCabinet, .noStation,
      .notActive, .held, .busy, .full, .notInFlight, .running, .notRunning].map Reason.code = List.range' 1 26 ∧
    (∀ r : Result, r.body =
      [r.code, byte r.termination.code, byte (match r.reason with
        | some x => x.code
        | none => 0), byte (bit r.attention)] ++ r.data.bytes) ∧
    ResultData.none.bytes = [] ∧
    (∀ n : Nat, (ResultData.count n).bytes = two n ∧ (ResultData.change n).bytes = two n ∧
      (ResultData.level n).bytes = [byte n] ∧ (ResultData.labelled n).bytes = [byte n]) ∧
    (∀ code : Byte, (ResultData.abortedCommand (some code)).bytes = [code]) ∧
    (∀ (i : IncidentId) (change n : Nat) (g : DeskId),
      (ResultData.accepted i change n).bytes = two i.val ++ two change ++ two n ∧
      (ResultData.incident i change).bytes = two i.val ++ two change ∧
      (ResultData.handedOver i change g).bytes = two i.val ++ two change ++ [byte g.val]) ∧
    (∀ (h : HoldSet) (m : Mode), (ResultData.held h m).bytes = [byte (bit h.desk + 2 * bit h.cabinet), byte m.code]) ∧
    (∀ (o : OpId) (k : OpKind) (n : StationId) (x : OpState) (asset deadline : Nat),
      (ResultData.started o k n deadline).bytes =
        [byte o.val, byte k.code, byte (stationTrunk n).val, byte ((stationPosition n).val + 1)] ++ four deadline ∧
      (ResultData.abortedOp k asset n x).bytes =
        byte k.code :: two asset ++ [byte (stationTrunk n).val, byte ((stationPosition n).val + 1), byte x.code]) ∧
    (∀ now before : Period, (ResultData.period now before).bytes = [byte now.code, byte before.code]) ∧
    (∀ circuits rosters others : Nat,
      (ResultData.adopted circuits rosters others).bytes = byte circuits :: two rosters ++ [byte others]) ∧
    [WithdrawCause.expired, .restored, .rerouted, .closed, .signedOff].map WithdrawCause.code = [1, 2, 3, 4, 5] ∧
    OpEnd.done.codes.1 = 0#8 ∧
    [OpEnd.timeout, .noAnswer, .equipmentCheck, .noTaker, .full, .badReply, .rejected, .lostStation, .lostTrunk, .lostHold,
      .lostReconfigured, .lostReset, .lostAborted].map OpEnd.codes =
        [(1#8, 1#8), (1#8, 2#8), (1#8, 3#8), (1#8, 4#8), (1#8, 5#8), (1#8, 6#8), (2#8, 1#8), (3#8, 1#8), (3#8, 2#8),
          (3#8, 3#8), (3#8, 4#8), (3#8, 5#8), (3#8, 6#8)] ∧
    (∀ (k : OpKind) (c : Condition), (OpOutcome.condition c).bytes k = [byte c.code]) ∧
    (∀ (k : OpKind) (noise operating : Nat), (OpOutcome.levels noise operating).bytes k = [byte noise, byte operating]) ∧
    OpOutcome.none.bytes .sweep = [0xFF#8, 0xFF#8] ∧
    (∀ (i : IncidentId) (change urgency deadline : Nat) (cause : WithdrawCause),
      (Notice.offer i change urgency deadline).body = 1#8 :: two i.val ++ two change ++ two urgency ++ four deadline ∧
      (Notice.withdrawn i change cause).body = 2#8 :: two i.val ++ two change ++ [byte cause.code] ∧
      (Notice.changed i change).body = 3#8 :: two i.val ++ two change ∧
      (Notice.restored i change).body = 4#8 :: two i.val ++ two change ∧
      (Notice.closed i change).body = 5#8 :: two i.val ++ two change ∧
      (Notice.released i change).body = 6#8 :: two i.val ++ two change) ∧
    (∀ (o : OpId) (k : OpKind) (asset : Nat) (n : StationId) (d : DeskId) (how : OpEnd) (x : OpState) (steps : Nat)
      (outcome : OpOutcome), (Notice.opDone o k asset n d how x steps outcome).body =
        [7#8, byte o.val, byte k.code] ++ two asset ++
          [byte (stationTrunk n).val, byte ((stationPosition n).val + 1), byte d.val, how.codes.1, how.codes.2, byte x.code,
            byte steps] ++ outcome.bytes k) ∧
    (∀ (t : TrunkId) (e : TrunkError) (time : Nat),
      (Notice.trunkError t e time).body = [8#8, byte t.val, byte e.code] ++ four time) ∧
    ∀ level : Nat, (Notice.reset level).body = [9#8, byte level]

/-- ABORT: a WAITING command is withdrawn and answered ABORTED, and ABORT is answered DONE behind it; with none WAITING
nothing is aborted. An answer other than DONE carries no data (log entry 25). -/
def Obligations.AbortWithdrawsWaitingCommand : Prop :=
  ∀ (d : DeskId) (s : State), (s.board.links[d]).up = true → (s.board.links[d]).load ≤ 2 →
    (∀ code args, s.waits d (code :: args) →
      Does (.abort d) s ((s.updLink d fun l => { l with
          receiver := none
          outstanding := some ⟨code :: args, .answering⟩
          results := l.results ++ [⟨code, .aborted, some .abort, l.attention, .none, true⟩] }).withResult d 0x0E#8 false
        ⟨.done, none, .abortedCommand (some code)⟩)) ∧
    ((s.board.links[d]).waiting = false →
      Does (.abort d) s ((s.updLink d fun l => { l with receiver := none }).withResult d 0x0E#8 false
        ⟨.done, none, .abortedCommand none⟩))

/-- RESET_LEVEL_1: the WAITING command aborted, the notices emptied without count, the offer withdrawn without a notice and
its incident OPEN in its queue again, duty OFF, and then the result; everything else of the desk, and every other desk, is as
it was. An answer other than DONE carries no data (log entry 25). -/
def Obligations.ResetLevel1Effects : Prop :=
  ∀ (d : DeskId) (s : State), (s.board.links[d]).up = true → (s.board.links[d]).load ≤ 2 →
    ∃ u : State, Does (.resetLevel1 d) s (u.withResult d 0x0F#8 false ⟨.done, none, .level 1⟩) ∧
      u.setup = s.setup ∧ u.faults = s.faults ∧ u.field = s.field ∧ u.error = s.error ∧
      u.board.aging = s.board.aging ∧ u.board.pointers = s.board.pointers ∧ u.board.timeouts = s.board.timeouts ∧
      u.board.links[d] =
        { s.board.links[d] with
          receiver := none, notices := [], overflow := 0, attention := false
          outstanding := (s.board.links[d]).outstanding.map fun o => { o with phase := .answering }
          results := (s.board.links[d]).results ++
            (if (s.board.links[d]).waiting = true then
              [⟨(s.board.links[d]).outstandingCode, .aborted, some .reset, (s.board.links[d]).attention, .none, true⟩]
            else []) } ∧
      u.board.desks[d] =
        { s.board.desks[d] with
          onDuty := false, slot := none
          lastWithdrawn := match (s.board.desks[d]).slot with
            | some o => some o.incident
            | none => (s.board.desks[d]).lastWithdrawn } ∧
      (∀ e, e ≠ d → u.board.links[e] = s.board.links[e] ∧ u.board.desks[e] = s.board.desks[e]) ∧
      (∀ i, u.board.incident i =
        if ((s.board.desks[d]).slot.map (·.incident)) = some i then
          (s.board.incident i).map fun x => { x with state := .opened }
        else s.board.incident i) ∧
      (∀ i, (s.board.desks[d]).slot.map (·.incident) ≠ some i → u.board.record i = s.board.record i) ∧
      ((s.board.desks[d]).slot = none → u.board.queues = s.board.queues) ∧
      ∀ o y, (s.board.desks[d]).slot = some o → s.board.incident o.incident = some y → y.state = .offered →
        u.board.record o.incident = ⟨(s.board.change o.incident + 1) % 65536, some { y with state := .opened }⟩ ∧
        o.incident ∈ u.board.queues[y.group]

/-- RESET_LEVEL_2: the fault picture, the incidents, the arbiter's picture and the operations go; the settings, the claim,
the trunk records, the chains and the error record stay, but for the ABORT-OP of each operation in flight, in ascending order
of index, which is handed to its station's trunk (TrunkSymbols says what handing a frame does); every desk gets a RESET
notice. A desk that does not hold the edit claim is refused, and nothing changes. An answer other than DONE carries no data
(log entry 25). -/
def Obligations.ResetLevel2Effects : Prop :=
  (∀ (d : DeskId) (s : State), (s.board.links[d]).up = true → (s.board.links[d]).load ≤ 2 → s.setup.claim = some d →
    ∃ u : State, Does (.resetLevel2 d) s (u.withResult d 0x0F#8 false ⟨.done, none, .level 2⟩) ∧
      u.setup = s.setup ∧ u.error = s.error ∧ u.faults = { records := [], marks := [], dropped := 0 } ∧
      (∀ i, u.board.record i = { change := 0, body := none } ∧ u.board.aging.find i = none) ∧
      u.board.timeouts = s.board.timeouts ∧
      (∀ g : DeskId, u.board.queues[g] = [] ∧
        (startsGroup s.setup.active g = true → u.board.pointers[g] = g)) ∧
      (∀ e : DeskId, u.board.desks[e] =
        { onDuty := (s.board.desks[e]).onDuty, slot := none, lastWithdrawn := none, unresponsive := false
          assigned := 0, absence := (s.board.desks[e]).absence }) ∧
      (∀ e : DeskId, u.board.links[e] =
        let l := s.board.links[e]
        let m : Link := if e = d then
            { l with
              receiver := none
              outstanding := l.outstanding.map fun o => { o with phase := .answering }
              results := l.results ++ (if l.waiting = true then
                  [⟨l.outstandingCode, .aborted, some .reset, l.attention, .none, true⟩] else []) }
          else l
        { m with
          notices := if l.up = true then [.reset 2] else []
          overflow := if l.up = true then 0 else 1
          attention := !l.up }) ∧
      (∀ n, u.station n =
        let x := s.station n
        match x.mode with
        | .silent => { x with
            op := none, mode := .active, balance := 0
            nextExpiry := if x.hold.held = true then none else some (s.setup.time + (s.roster n).interval) }
        | .active => { x with op := none, balance := 0 }
        | _ => { x with op := none }) ∧
      (∀ o, u.field.ops.find o = none) ∧ u.field.lastOp = 31 ∧ u.field.chains = s.field.chains ∧
      ∀ t, u.trunk t = ((fins 32).filterMap fun o => match s.field.ops.find o with
          | some x => if stationTrunk x.station = t then
              some (⟨(stationPosition x.station).val + 1, .abortOp o x.asset⟩ : DownFrame) else none
          | none => none).foldl (fun x f => x.hand f) (s.trunk t) ∧
        (u.trunk t).state = (s.trunk t).state ∧ (u.trunk t).upCredit = (s.trunk t).upCredit ∧
        (u.trunk t).buffer = (s.trunk t).buffer ∧ (u.trunk t).assembly = (s.trunk t).assembly ∧
        (u.trunk t).startDeadline = (s.trunk t).startDeadline ∧ (u.trunk t).retryDeadline = (s.trunk t).retryDeadline ∧
        (u.trunk t).graceDeadline = (s.trunk t).graceDeadline ∧ (u.trunk t).faultTime = (s.trunk t).faultTime ∧
        (u.trunk t).attempts = (s.trunk t).attempts ∧ (u.trunk t).counters = (s.trunk t).counters ∧
        (u.trunk t).watch = (s.trunk t).watch) ∧
  ∀ (d : DeskId) (s : State), (s.board.links[d]).up = true → (s.board.links[d]).load ≤ 2 → s.setup.claim ≠ some d →
    Does (.resetLevel2 d) s ((s.updLink d fun l => { l with receiver := none }).withResult d 0x0F#8 false
      ⟨.refused, some .noClaim, .none⟩)

/-- RESET_LEVEL_3: the whole part but the clock, the link states, the receivers and the results goes back to its power-on
values; every WAITING command is aborted, and every desk gets a RESET notice. A desk that does not hold the edit claim is
refused, and nothing changes. An answer other than DONE carries no data (log entry 25). -/
def Obligations.ResetLevel3Effects : Prop :=
  (∀ (d : DeskId) (s : State), (s.board.links[d]).up = true → (s.board.links[d]).load ≤ 2 → s.setup.claim = some d →
    ∃ u : State, Does (.resetLevel3 d) s (u.withResult d 0x0F#8 false ⟨.done, none, .level 3⟩) ∧
      u.setup = { State.reset.setup with time := s.setup.time } ∧ u.faults = State.reset.faults ∧
      u.field = State.reset.field ∧ u.error = State.reset.error ∧
      { u.board with links := State.reset.board.links } = State.reset.board ∧
      ∀ e : DeskId, u.board.links[e] =
        let l := s.board.links[e]
        { l with
          receiver := if e = d then none else l.receiver
          outstanding := if l.waiting = true then l.outstanding.map fun o => { o with phase := .answering }
            else l.outstanding
          results := l.results ++ (if l.waiting = true then
              [⟨l.outstandingCode, .aborted, some .reset, l.attention, .none, true⟩] else [])
          notices := if l.up = true then [.reset 3] else []
          overflow := if l.up = true then 0 else 1
          attention := !l.up
          badCrc := 0, badFrame := 0, badKind := 0 }) ∧
  ∀ (d : DeskId) (s : State), (s.board.links[d]).up = true → (s.board.links[d]).load ≤ 2 → s.setup.claim ≠ some d →
    Does (.resetLevel3 d) s ((s.updLink d fun l => { l with receiver := none }).withResult d 0x0F#8 false
      ⟨.refused, some .noClaim, .none⟩)

/-! ## Identity, status and reading -/

/-- IDENTIFY and SENSE: the status as it stands; SENSE then clears the overflow count and the attention flag.  The data of
both, byte by byte. -/
def Obligations.IdentifyAndSenseAnswer : Prop :=
  ∀ (d : DeskId) (s : State),
    (s.waits d [0x01#8] → Answers (.identify d) d 0x01#8 ⟨.done, none, .identity s.setup.time⟩ s) ∧
    (ResultData.identity s.setup.time).bytes =
      [0x48#8, 0x56#8, 0x0F#8, 0x16#8, 0x01#8] ++ four s.setup.time ++ [0x3C#8, 0xC3#8, 0x5A#8, 0xA5#8] ∧
    (s.waits d [0x02#8] →
      Does (.sense d) s ((s.answered d 0x02#8 ⟨.done, none, .sense
        { onDuty := (s.board.desks[d]).onDuty, slot := (s.board.desks[d]).slot
          assigned := (s.board.desks[d]).assigned, lastWithdrawn := (s.board.desks[d]).lastWithdrawn
          overflow := (s.board.links[d]).overflow, unresponsive := (s.board.desks[d]).unresponsive
          holdsClaim := decide (s.setup.claim = some d), notices := (s.board.links[d]).notices.length
          badCrc := (s.board.links[d]).badCrc, badFrame := (s.board.links[d]).badFrame
          badKind := (s.board.links[d]).badKind, time := s.setup.time, period := s.setup.period }⟩).updLink d
        fun l => { l with overflow := 0, attention := false })) ∧
    ∀ x : SenseData, (ResultData.sense x).bytes =
      yesNo x.onDuty ++ indexOrNone (x.slot.map (·.incident)) ++ timeOrNone (x.slot.map (·.deadline)) ++ two x.assigned ++
        indexOrNone x.lastWithdrawn ++ [BitVec.ofNat 8 x.overflow] ++ yesNo x.unresponsive ++ yesNo x.holdsClaim ++
        [BitVec.ofNat 8 x.notices] ++ two x.badCrc ++ two x.badFrame ++ two x.badKind ++ four x.time ++
        [BitVec.ofNat 8 x.period.code]

/-- READ_FAULT, READ_TRUNK and READ_ERROR show their records as they stand and change nothing. That READ_TRUNK shows a
labelling in flight by its position alone is log entry 33. The data of each, byte by byte, where no open code (log entry 6)
stands in it; that a record's absent fields are left out is log entry 23. READ_TRUNK's 22 counters stand in the order of
R195's codes, which for the chain controller's seven is the model's choice (log entry 39). An answer other than DONE carries
no data (log entry 25). -/
def Obligations.ReadsOfFaultsTrunksAndErrors : Prop :=
  ∀ (d : DeskId) (s : State),
    (∀ a1 a0, s.waits d [0x12#8, a1, a0] →
      Answers (.readFault d) d 0x12#8 ⟨.done, none, .faultView
        { record := s.faults.find (half a1 a0), marked := s.faults.marked (half a1 a0)
          records := s.faults.records.length, dropped := s.faults.dropped }⟩ s) ∧
    (∀ trunk, s.waits d [0x14#8, trunk] →
      (16 ≤ trunk.toNat → Answers (.readTrunk d) d 0x14#8 ⟨.invalid, some .badArgument, .none⟩ s) ∧
      ∀ t : TrunkId, trunk.toNat = t.val →
        let x := s.trunk t
        let c := s.chain t
        Answers (.readTrunk d) d 0x14#8 ⟨.done, none, .trunkView
          { state := x.state, upCredit := x.upCredit, downCredit := x.downCredit, buffered := x.buffer.length
            queued := x.queue.length, transmitting := x.transmitting.isSome, startDeadline := x.startDeadline
            retryDeadline := x.retryDeadline, graceDeadline := x.graceDeadline, faultTime := x.faultTime
            attempts := x.attempts, counters := x.counters, census := c.census.isSome, again := c.again
            labelling := c.labelling.map (·.position), occupied := occupied s.setup.active t }⟩ s) ∧
    (s.waits d [0x15#8] → Answers (.readError d) d 0x15#8 ⟨.done, none, .errorView s.error⟩ s) ∧
    let byte (n : Nat) : Byte := BitVec.ofNat 8 n
    (∀ v : FaultView, (ResultData.faultView v).bytes =
      (match v.record with
        | some r =>
          [1#8] ++ two r.asset ++ [byte (stationTrunk r.station).val, byte ((stationPosition r.station).val + 1),
            byte (r.circuit.val + 1), byte r.kind.code, byte r.condition.code, byte r.state.code, byte r.confirms,
            byte r.flips] ++ four r.firstSeen ++ timeOrNone r.confirmedAt ++ four r.lastReport ++ [byte r.reports] ++
            (match r.timer with
              | .none => [0#8, 0#8] ++ timeOrNone none
              | .running k deadline => [byte k.code, 0#8] ++ four deadline
              | .suspended k remaining => [byte k.code, 1#8] ++ two remaining) ++
            flags [r.stale, r.underOp] ++ indexOrNone r.incident
        | none => [0#8]) ++ yesNo v.marked ++ two v.records ++ two v.dropped) ∧
    (∀ v : TrunkView, (ResultData.trunkView v).bytes =
      [byte v.state.code, byte v.upCredit, byte v.downCredit, byte v.buffered, byte v.queued] ++ yesNo v.transmitting ++
        timeOrNone v.startDeadline ++ timeOrNone v.retryDeadline ++ timeOrNone v.graceDeadline ++ timeOrNone v.faultTime ++
        two v.attempts ++ v.counters.toList.flatMap two ++ flags [v.census, v.again] ++
        smallOrNone (v.labelling.map fun p => p.val + 1) ++ [byte v.occupied]) ∧
    (∀ e : TrunkError, e.index.val + 1 = e.code) ∧
    ∀ x : ErrorRecord, (ResultData.errorView x).bytes =
      byte (match x.code with
        | .none => 0
        | .trunk e => e.code
        | .badCrc => 23
        | .badFrame => 24
        | .badKind => 25) ::
      (match x.place with
        | .none => [0#8, 0xFF#8, 0xFF#8]
        | .trunk t => [1#8, byte t.val, 0xFF#8]
        | .label t k => [2#8, byte t.val, byte k]
        | .position t k => [3#8, byte t.val, byte k]
        | .desk e => [4#8, byte e.val, 0xFF#8]) ++ timeOrNone x.time ++ two x.writes

/-- READ_STATION and READ_SHADOW. What READ_SHADOW refuses, and the agreement of a station without an identity, rest on log
entries 23 and 24. The data of both, byte by byte, where no open code (log entry 6: no kind, no span, no identity, a balance
below 0) stands in it. An answer other than DONE carries no data (log entry 25). That a desk's settings are sent in the order
of WRITE_DESK, both flags in one leading byte, is the model's choice (log entry 41). -/
def Obligations.ReadsOfStationsAndShadow : Prop :=
  (∀ (d : DeskId) (s : State),
    (∀ trunk position, s.waits d [0x13#8, trunk, position] →
      (16 ≤ trunk.toNat ∨ position.toNat = 0 ∨ 24 < position.toNat →
        Answers (.readStation d) d 0x13#8 ⟨.invalid, some .badArgument, .none⟩ s) ∧
      ∀ (t : TrunkId) (p : Position), trunk.toNat = t.val → position.toNat = p.val + 1 →
        ∃ agrees, Answers (.readStation d) d 0x13#8 ⟨.done, none, .stationView
            { roster := s.roster (stationAt t p), live := s.station (stationAt t p), trunk := (s.trunk t).state
              agrees }⟩ s ∧
          (agrees = true ↔ ∃ i, (s.station (stationAt t p)).identity = some i ∧
            kindOf i.kind = (s.roster (stationAt t p)).kind ∧ (kindOf i.kind).isSome ∧
            i.first = (s.roster (stationAt t p)).first ∧ i.count = (s.roster (stationAt t p)).count)) ∧
    ∀ item x y, s.waits d [0x56#8, item, x, y] →
      let shown (i : ShadowItem) : Prop :=
        Answers (.readShadow d) d 0x56#8 ⟨.done, none, .shadow i s.setup.claim⟩ s
      (∀ c : CircuitId, item = 1#8 → x.toNat = c.val + 1 → y = 0#8 → shown (.circuit (s.setup.shadow.circuit c))) ∧
      (∀ (t : TrunkId) (p : Position), item = 2#8 → x.toNat = t.val → y.toNat = p.val + 1 →
        shown (.station (s.setup.shadow.station (stationAt t p)))) ∧
      (∀ e : DeskId, item = 3#8 → x.toNat = e.val → y = 0#8 → shown (.desk s.setup.shadow.desks[e])) ∧
      (∀ v, item = 4#8 → s.setup.shadow.params.read x.toNat = some v → y = 0#8 → shown (.param v)) ∧
      (∀ p, item = 5#8 → x.toNat = p.code → y = 0#8 → shown (.scales (s.setup.shadow.scales.of p))) ∧
      (item = 0#8 ∨ 5 < item.toNat ∨ (item = 1#8 ∧ (x = 0#8 ∨ 128 < x.toNat)) ∨
          (item = 2#8 ∧ (16 ≤ x.toNat ∨ y = 0#8 ∨ 24 < y.toNat)) ∨ (item = 3#8 ∧ 6 ≤ x.toNat) ∨
          (item = 4#8 ∧ (x = 0#8 ∨ 13 < x.toNat)) ∨ (item = 5#8 ∧ 4 ≤ x.toNat) →
        Answers (.readShadow d) d 0x56#8 ⟨.invalid, some .badArgument, .none⟩ s)) ∧
  let byte (n : Nat) : Byte := BitVec.ofNat 8 n
  (∀ (r : Roster) (k : Kind), r.kind = some k → r.bytes =
    byte k.code :: two r.first ++ two r.count ++ two r.interval ++ [byte r.allowance, byte r.sleepLimit, byte r.weight]) ∧
  (∀ (v : StationView) (span : Nat) (i : Identity), v.live.span = some span → v.live.identity = some i →
    0 ≤ v.live.balance →
    (ResultData.stationView v).bytes = v.roster.bytes ++ [byte v.live.mode.code] ++ flags [v.live.hold.desk, v.live.hold.cabinet] ++
      [byte v.live.balance.toNat] ++ timeOrNone v.live.nextExpiry ++ yesNo v.live.wakeExtra ++
      [byte v.live.sleepCount, byte span] ++ (i.kind :: two i.first ++ two i.count) ++ timeOrNone v.live.lastHeard ++
      two v.live.applied ++ two v.live.droppedHeld ++ two v.live.transients ++
      smallOrNone (v.live.op.map fun o => o.val) ++ [byte v.trunk.code] ++ yesNo v.agrees) ∧
  ∀ (item : ShadowItem) (holder : Option DeskId), (ResultData.shadow item holder).bytes =
    (match item with
      | .circuit c => two c.bound ++ flags [c.invalid, c.fold] ++ [byte c.group] ++ smallOrNone c.alternate ++
          [byte c.weight, byte c.trip, byte c.tau]
      | .station r => r.bytes
      | .desk e => flags [e.continues, e.maintenance] ++ [byte e.limit, byte e.timeout]
      | .param value => two value
      | .scales q => [byte q.lamp, byte q.loop, byte q.sign, byte q.infra]) ++ smallOrNone (holder.map fun e => e.val)

/-- READ_INCIDENT: the record without its members, the number of members, and at most 21 of them from the offset. That the
code of an absent offset, 0xFFFF, is read as the number 65535 is the model's choice (log entry 38). An answer other than DONE
carries no data (log entry 25). -/
def Obligations.ReadIncidentShowsPage : Prop :=
  ∀ (d : DeskId) (hi lo o1 o0 : Byte) (s : State), s.waits d [0x11#8, hi, lo, o1, o0] →
    (640 ≤ half hi lo → Answers (.readIncident d) d 0x11#8 ⟨.invalid, some .badArgument, .none⟩ s) ∧
    ∀ i : IncidentId, half hi lo = i.val →
      (s.board.incident i = none →
        Answers (.readIncident d) d 0x11#8 ⟨.done, none, .incidentPage
          { index := i, change := s.board.change i, body := none, total := 0, members := [] }⟩ s) ∧
      ∀ x, s.board.incident i = some x →
        Answers (.readIncident d) d 0x11#8 ⟨.done, none, .incidentPage
          { index := i, change := s.board.change i, body := some { x with members := [] }
            total := x.members.length, members := (x.members.drop (half o1 o0)).take 21 }⟩ s

/-- LIST_PENDING: the group of the desk named, its values, the length of its queue, and at most 15 entries from the offset,
in queue order; and the bytes of the two paged results, LIST_PENDING and READ_INCIDENT, whose rows hold 8 and 55 bytes and 16
and 9 for each entry and member. A FREE record's subject and class and an absent worst condition are open codes, and so is
the byte that pads a tag (log entry 6); that a FREE record's desk group and opened time are sent as absent and its numbers as
0 is the model's choice (log entry 42). That the code of an absent offset, 0xFFFF, is read as the number 65535 is the model's choice (log
entry 38). An answer other than DONE carries no data (log entry 25). -/
def Obligations.ListPendingShowsPage : Prop :=
  (∀ (d : DeskId) (desk o1 o0 : Byte) (s : State), s.waits d [0x10#8, desk, o1, o0] →
    (6 ≤ desk.toNat → Answers (.listPending d) d 0x10#8 ⟨.invalid, some .badArgument, .none⟩ s) ∧
    ∀ e : DeskId, desk.toNat = e.val →
      let g := groupStart s.setup.active e
      ∃ entries, Answers (.listPending d) d 0x10#8 ⟨.done, none, .pendingPage
          { group := g, desks := groupSet s.setup.active g, timeout := s.board.timeouts[g]
            pointer := s.board.pointers[g], total := (s.board.queues[g]).length, offset := half o1 o0, entries }⟩ s ∧
        ((∀ i ∈ s.board.queues[g], s.board.incident i ≠ none) →
          entries.map (·.index) = ((s.board.queues[g]).drop (half o1 o0)).take 15) ∧
        ∀ y ∈ entries, ∃ x, s.board.incident y.index = some x ∧
          y = { index := y.index, subject := x.subject, cls := x.cls, urgency := x.urgency, openedAt := x.openedAt
                rounds := x.rounds, declined := x.declined, change := s.board.change y.index }) ∧
  (∀ (a : Settings) (g d : DeskId), (groupSet a g).getLsbD d.val = inGroup a g d) ∧
  let byte (n : Nat) : Byte := BitVec.ofNat 8 n
  let subject (x : Subject) : List Byte :=
    match x with
    | .circuit c => [1#8, byte (c.val + 1), 0#8]
    | .station n => [2#8, byte (stationTrunk n).val, byte ((stationPosition n).val + 1)]
    | .trunk t => [3#8, byte t.val, 0#8]
  (∀ p : PendingPage, (ResultData.pendingPage p).bytes =
    [byte p.group.val] ++ setByte p.desks ++ [byte p.timeout, byte p.pointer.val] ++ two p.total ++ two p.offset ++
      p.entries.flatMap fun y => two y.index.val ++ subject y.subject ++ [byte y.cls.code] ++ two y.urgency ++
        four y.openedAt ++ [byte y.rounds] ++ setByte y.declined ++ two y.change) ∧
  (∀ p : PendingPage, (ResultData.pendingPage p).bytes.length = 8 + 16 * p.entries.length) ∧
  (∀ (p : IncidentPage) (x : Incident) (worst : Condition) (text : List Byte),
    p.body = some x → x.worst = some worst → x.tag.getD [] = text →
    (ResultData.incidentPage p).bytes =
      two p.index.val ++ [byte x.state.code] ++ subject x.subject ++ [byte x.cls.code, byte x.group.val] ++
        smallOrNone (x.assigned.map fun e => e.val) ++ two x.unrecorded ++ [byte worst.code] ++ flags [x.tripped] ++
        [byte x.rounds] ++ setByte x.declined ++ two x.urgency ++ four x.openedAt ++ timeOrNone x.restoredAt ++
        timeOrNone x.closeDelay ++ timeOrNone x.closedAt ++ two p.change ++ [byte text.length] ++ text ++
        List.replicate (16 - text.length) Config.tagPadding ++ two p.total ++ [byte p.members.length] ++
        p.members.flatMap fun m => two m.asset ++ [byte m.kind.code, byte m.condition.code] ++ four m.confirmedAt ++
          flags [m.stale, m.underOp]) ∧
  ∀ p : IncidentPage, (∀ x text, p.body = some x → x.tag = some text → text.length ≤ 16) →
    (ResultData.incidentPage p).bytes.length = 55 + 9 * p.members.length ∧
    (p.body = none → ∃ (about pad : List Byte) (cls worst : Byte), about.length = 3 ∧ pad.length = 16 ∧
      (ResultData.incidentPage p).bytes =
        two p.index.val ++ [0#8] ++ about ++ [cls, 0xFF#8, 0xFF#8] ++ two 0 ++ [worst, 0#8, 0#8, 0#8] ++ two 0 ++
          List.replicate 16 0xFF#8 ++ two p.change ++ [0#8] ++ pad ++ two p.total ++ [byte p.members.length] ++
          p.members.flatMap fun m => two m.asset ++ [byte m.kind.code, byte m.condition.code] ++ four m.confirmedAt ++
            flags [m.stale, m.underOp])

/-! ## Duty -/

/-- SIGN_ON: duty ON, DONE with the assigned count; from duty OFF the desk's group is run until it can make no offer. -/
def Obligations.SignOnPutsOnDuty : Prop :=
  ∀ (d : DeskId) (s : State), s.waits d [0x03#8] →
    ∃ t, exec (.signOn d) s = .next t ∧
      EventEnd s ((s.updDesk d fun x => { x with onDuty := true }).answered d 0x03#8
        ⟨.done, none, .count (s.board.desks[d]).assigned⟩) t ∧
      ((s.board.desks[d]).onDuty = false →
        nextOffer t.setup.active t.board (groupStart t.setup.active d) = none)

/-- SIGN_OFF: refused while incidents are held and RELEASE-ALL is not asked; else the offer is withdrawn, its incident OPEN
in its queue again and a WITHDRAWN notice with cause SIGNED-OFF queued, the incidents held are released with RELEASE-ALL,
whose result is their number, and duty becomes OFF. An option byte other than 0 and 1 is log entry 24. An answer other than
DONE carries no data (log entry 25). -/
def Obligations.SignOffTakesOffDuty : Prop :=
  (∀ (d : DeskId) (option : Byte) (s : State), s.waits d [0x04#8, option] →
    (1 < option.toNat → Answers (.signOff d) d 0x04#8 ⟨.invalid, some .badArgument, .none⟩ s) ∧
    (option = 0#8 → 0 < (s.board.desks[d]).assigned →
      Answers (.signOff d) d 0x04#8 ⟨.refused, some .holdsIncidents, .none⟩ s) ∧
    (option = 0#8 → (s.board.desks[d]).assigned = 0 →
      Does (.signOff d) s ((s.onBoard fun _ b => (b.signOff d false).2).answered d 0x04#8 ⟨.done, none, .count 0⟩)) ∧
    (option = 1#8 →
      Does (.signOff d) s ((s.onBoard fun _ b => (b.signOff d true).2).answered d 0x04#8
        ⟨.done, none, .count (s.board.signOff d true).1⟩))) ∧
  ∀ (d : DeskId) (all : Bool) (b : Board),
    let x := b.desks[d]
    ((b.signOff d all).2).desks[d] =
      { x with
        onDuty := false, slot := none, assigned := if all = true then 0 else x.assigned
        lastWithdrawn := match x.slot with
          | some o => some o.incident
          | none => x.lastWithdrawn } ∧
    (∀ e, e ≠ d → ((b.signOff d all).2).desks[e] = b.desks[e] ∧ ((b.signOff d all).2).links[e] = b.links[e]) ∧
    (x.slot = none → ((b.signOff d all).2).links[d] = b.links[d]) ∧
    (∀ o y, x.slot = some o → b.incident o.incident = some y → y.state = .offered →
      let b' := (b.signOff d all).2
      let change := (b.change o.incident + 1) % 65536
      b'.record o.incident = ⟨change, some { y with state := .opened }⟩ ∧ o.incident ∈ b'.queues[y.group] ∧
      b'.links[d] = (b.links[d]).take (.withdrawn o.incident change .signedOff)) ∧
    (b.Arranged → (b.signOff d true).1 = x.assigned ∧ ∃ held : List IncidentId,
      (b.signOff d true).1 = held.length ∧ held.Nodup ∧ ∀ i, i ∈ held ↔ ∃ y, b.incident i = some y ∧
        y.assigned = some d ∧ (y.state = .assigned ∨ y.state = .restored)) ∧
    ∀ i y, b.incident i = some y → (x.slot.map (·.incident)) ≠ some i →
      ((b.signOff d all).2).incident i = some (
        if all = true ∧ y.assigned = some d ∧ y.state = .assigned then { y with state := .opened, assigned := none }
        else if all = true ∧ y.assigned = some d ∧ y.state = .restored then { y with assigned := none }
        else y)

/-! ## Answers to offers -/

/-- ACCEPT, every line of R87. An answer other than DONE carries no data (log entry 25). -/
def Obligations.AcceptAssignsOffer : Prop :=
  ∀ (d : DeskId) (hi lo : Byte) (s : State), s.waits d [0x20#8, hi, lo] →
    (640 ≤ half hi lo → Answers (.accept d) d 0x20#8 ⟨.invalid, some .badArgument, .none⟩ s) ∧
    ∀ i : IncidentId, half hi lo = i.val →
      (∀ o x, (s.board.desks[d]).slot = some o → o.incident = i → s.board.incident i = some x → x.state = .offered →
        Does (.accept d) s ({ s with board := { s.board with
            incidents := s.board.incidents.put i
              ⟨(s.board.change i + 1) % 65536, some { x with state := .assigned, assigned := some d }⟩
            desks := s.board.desks.set d
              { s.board.desks[d] with slot := none, assigned := (s.board.desks[d]).assigned + 1 } } }.answered d 0x20#8
          ⟨.done, none, .accepted i ((s.board.change i + 1) % 65536) ((s.board.desks[d]).assigned + 1)⟩)) ∧
      ((∀ o, (s.board.desks[d]).slot = some o → o.incident ≠ i) →
        ((s.board.desks[d]).lastWithdrawn = some i → Answers (.accept d) d 0x20#8 ⟨.tooLate, none, .none⟩ s) ∧
        ((s.board.desks[d]).lastWithdrawn ≠ some i →
          Answers (.accept d) d 0x20#8 ⟨.refused, some .notOffered, .none⟩ s))

/-- DECLINE: the slot empties and the incident goes back to its queue with the desk in its decline set, or, where the set
then holds the whole group, with the set cleared and the rounds up by 1 to at most 3; the other lines of R88. And which desks
the set of a group holds: those whose start desk, the last that starts a group and does not stand above the desk, is the
group's. An answer other than DONE carries no data (log entry 25). -/
def Obligations.DeclineReturnsIncident : Prop :=
  (∀ (d : DeskId) (hi lo : Byte) (s : State), s.waits d [0x21#8, hi, lo] →
    (640 ≤ half hi lo → Answers (.decline d) d 0x21#8 ⟨.invalid, some .badArgument, .none⟩ s) ∧
    ∀ i : IncidentId, half hi lo = i.val →
      (∀ o x, (s.board.desks[d]).slot = some o → o.incident = i → s.board.incident i = some x → x.state = .offered →
        Does (.decline d) s ((s.onBoard fun c b => b.declineOffer c d i).answered d 0x21#8
          ⟨.done, none, .incident i ((s.board.change i + 1) % 65536)⟩)) ∧
      ((∀ o, (s.board.desks[d]).slot = some o → o.incident ≠ i) →
        ((s.board.desks[d]).lastWithdrawn = some i → Answers (.decline d) d 0x21#8 ⟨.tooLate, none, .none⟩ s) ∧
        ((s.board.desks[d]).lastWithdrawn ≠ some i →
          Answers (.decline d) d 0x21#8 ⟨.refused, some .notOffered, .none⟩ s))) ∧
  (∀ (a : Settings) (g d : DeskId), (groupSet a g).getLsbD d.val = inGroup a g d ∧
    (inGroup a g d = true ↔ groupStart a d = g) ∧
    (groupStart a d = g ↔ startsGroup a g = true ∧ g ≤ d ∧ ∀ h, startsGroup a h = true → h ≤ d → h ≤ g) ∧
    (startsGroup a d = true ↔ d = 0 ∨ (a.desks[d]).continues = false)) ∧
  ∀ (c : Setup) (d : DeskId) (i : IncidentId) (x : Incident) (b : Board), b.incident i = some x → x.state = .offered →
    let y := declinedBy c d x
    let b' := b.declineOffer c d i
    let group := groupSet c.active (groupStart c.active x.group)
    let declined := x.declined ||| BitVec.ofNat 6 (2 ^ d.val)
    (b'.record i = ⟨(b.change i + 1) % 65536, some y⟩ ∧ i ∈ b'.queues[x.group] ∧
      (∀ j, j ≠ i → b'.record j = b.record j) ∧ b'.links = b.links ∧ b'.aging = b.aging ∧
      b'.desks = b.desks.set d { b.desks[d] with slot := none }) ∧
    (declined &&& group ≠ group → y = { x with state := .opened, declined := declined }) ∧
    (declined &&& group = group → 3 ≤ x.rounds → y = { x with state := .opened, declined := 0 }) ∧
    (declined &&& group = group → x.rounds < 3 →
      y = { x with
        state := .opened, declined := 0, rounds := x.rounds + 1
        urgency := urgencyOf (urgencyInputs c { x with state := .opened, declined := 0, rounds := x.rounds + 1 }) })

/-! ## Commands on incidents -/

/-- RELEASE: an ASSIGNED incident of the desk goes back to its queue and a RESTORED one loses its assigned desk; the other
lines of R95. HANDOVER: an ASSIGNED incident of the desk goes to the queue of the group of the desk named, with its decline
set cleared and its rounds kept; the other lines of R96. An answer other than DONE carries no data (log entry 25). -/
def Obligations.ReleaseAndHandoverGiveUp : Prop :=
  ((∀ (d : DeskId) (hi lo : Byte) (s : State), s.waits d [0x22#8, hi, lo] →
    (640 ≤ half hi lo → Answers (.release d) d 0x22#8 ⟨.invalid, some .badArgument, .none⟩ s) ∧
    ∀ i : IncidentId, half hi lo = i.val →
      (s.board.incident i = none → Answers (.release d) d 0x22#8 ⟨.refused, some .closed, .none⟩ s) ∧
      ∀ x, s.board.incident i = some x →
        (x.state = .closed → Answers (.release d) d 0x22#8 ⟨.refused, some .closed, .none⟩ s) ∧
        (x.state ≠ .closed → x.assigned ≠ some d →
          Answers (.release d) d 0x22#8 ⟨.refused, some .notHolder, .none⟩ s) ∧
        (x.state = .assigned ∨ x.state = .restored → x.assigned = some d →
          Does (.release d) s ((s.onBoard fun _ b => b.releaseOne d i).answered d 0x22#8
            ⟨.done, none, .incident i ((s.board.change i + 1) % 65536)⟩))) ∧
  ∀ (d : DeskId) (i : IncidentId) (x : Incident) (b : Board), b.incident i = some x → x.assigned = some d →
    x.state = .assigned ∨ x.state = .restored →
    let y : Incident := { x with state := if x.state = .assigned then .opened else .restored, assigned := none }
    let b' := b.releaseOne d i
    b'.record i = ⟨(b.change i + 1) % 65536, some y⟩ ∧ (∀ j, j ≠ i → b'.record j = b.record j) ∧
      (x.state = .assigned → i ∈ b'.queues[x.group]) ∧ (x.state = .restored → b'.queues = b.queues) ∧
      b'.links = b.links ∧ b'.aging = b.aging ∧
      b'.desks = b.desks.set d { b.desks[d] with assigned := (b.desks[d]).assigned - 1 }) ∧
  (∀ (d : DeskId) (hi lo desk : Byte) (s : State), s.waits d [0x23#8, hi, lo, desk] →
    (640 ≤ half hi lo ∨ 6 ≤ desk.toNat → Answers (.handover d) d 0x23#8 ⟨.invalid, some .badArgument, .none⟩ s) ∧
    ∀ (i : IncidentId) (e : DeskId), half hi lo = i.val → desk.toNat = e.val →
      (s.board.incident i = none → Answers (.handover d) d 0x23#8 ⟨.refused, some .closed, .none⟩ s) ∧
      ∀ x, s.board.incident i = some x →
        (x.state = .closed → Answers (.handover d) d 0x23#8 ⟨.refused, some .closed, .none⟩ s) ∧
        (x.state ≠ .closed → x.assigned ≠ some d →
          Answers (.handover d) d 0x23#8 ⟨.refused, some .notHolder, .none⟩ s) ∧
        (x.state = .restored → x.assigned = some d →
          Answers (.handover d) d 0x23#8 ⟨.refused, some .restored, .none⟩ s) ∧
        (x.state = .assigned → x.assigned = some d →
          Does (.handover d) s ((s.onBoard fun _ b => b.handOver d (groupStart s.setup.active e) i).answered d 0x23#8
            ⟨.done, none, .handedOver i ((s.board.change i + 1) % 65536) (groupStart s.setup.active e)⟩))) ∧
  ∀ (d g : DeskId) (i : IncidentId) (x : Incident) (b : Board), b.incident i = some x → x.state = .assigned →
    let b' := b.handOver d g i
    b'.record i =
        ⟨(b.change i + 1) % 65536, some { x with state := .opened, assigned := none, group := g, declined := 0 }⟩ ∧
      (∀ j, j ≠ i → b'.record j = b.record j) ∧ i ∈ b'.queues[g] ∧ b'.links = b.links ∧ b'.aging = b.aging ∧
      b'.desks = b.desks.set d { b.desks[d] with assigned := (b.desks[d]).assigned - 1 }

/-- CLOSE, every line of R62: the refusals, and the closing with its FORGET. An option byte other than 0 and 1 is log entry
24. An answer other than DONE carries no data (log entry 25). -/
def Obligations.CloseClosesIncident : Prop :=
  (∀ (d : DeskId) (hi lo option : Byte) (s : State), s.waits d [0x24#8, hi, lo, option] →
    (640 ≤ half hi lo ∨ 1 < option.toNat → Answers (.close d) d 0x24#8 ⟨.invalid, some .badArgument, .none⟩ s) ∧
    ∀ i : IncidentId, half hi lo = i.val → option.toNat ≤ 1 →
      let refused (r : Reason) : Prop := Answers (.close d) d 0x24#8 ⟨.refused, some r, .none⟩ s
      (s.board.incident i = none → refused .closed) ∧
      ∀ x, s.board.incident i = some x →
        (x.state = .closed → refused .closed) ∧
        (x.state = .opened ∨ x.state = .offered → refused .notAssigned) ∧
        (x.state = .assigned ∨ x.state = .restored →
          (∀ e, x.assigned = some e → e ≠ d → refused .notHolder) ∧
          (x.assigned = none → (s.board.desks[d]).onDuty = false → refused .offDuty) ∧
          (x.assigned = some d ∨ (x.assigned = none ∧ (s.board.desks[d]).onDuty = true) →
            (x.isCircuit = true → x.members ≠ [] ∨ 0 < x.unrecorded → option = 0#8 → refused .membersPresent) ∧
            (x.isCircuit = false ∨ (x.members = [] ∧ x.unrecorded = 0) ∨ option = 1#8 →
              Does (.close d) s ((s.closeIncident i x (decide (option = 1#8))).answered d 0x24#8
                ⟨.done, none, .change ((s.board.change i + 1) % 65536)⟩))))) ∧
  ∀ (i : IncidentId) (x : Incident) (forget : Bool) (s : State), s.board.incident i = some x →
    x.state = .assigned ∨ x.state = .restored →
    let u := s.closeIncident i x forget
    let gone := decide (forget = true ∧ x.isCircuit = true)
    u.setup = s.setup ∧ u.field = s.field ∧ u.error = s.error ∧
    u.faults.marks = s.faults.marks ∧ u.faults.dropped = s.faults.dropped ∧
    (∀ r, r ∈ u.faults.records ↔
      r ∈ s.faults.records ∧ (gone = true → ∀ m ∈ x.members, m.asset ≠ r.asset)) ∧
    u.board.record i = ⟨(s.board.change i + 1) % 65536, some { x with
      state := .closed, closedAt := some s.setup.time, closeDelay := none
      members := if gone then [] else x.members
      unrecorded := if gone then 0 else x.unrecorded
      worst := if gone then none else x.worst }⟩ ∧
    (∀ j, j ≠ i → u.board.record j = s.board.record j) ∧ u.board.aging.find i = none ∧
    u.board.queues = s.board.queues ∧ u.board.links = s.board.links ∧
    u.board.desks = (match x.assigned with
      | some e => s.board.desks.set e { s.board.desks[e] with assigned := (s.board.desks[e]).assigned - 1 }
      | none => s.board.desks)

/-- TAG, every line of R64; a tag that the record already holds changes nothing. An answer other than DONE carries no data
(log entry 25). -/
def Obligations.TagWritesCrewTag : Prop :=
  ∀ (d : DeskId) (hi lo : Byte) (text : List Byte) (s : State), s.waits d (0x25#8 :: hi :: lo :: text) →
    (640 ≤ half hi lo ∨ 16 < text.length ∨ (∃ b ∈ text, b.toNat < 0x20 ∨ 0x7E < b.toNat) →
      Answers (.tag d) d 0x25#8 ⟨.invalid, some .badArgument, .none⟩ s) ∧
    ∀ i : IncidentId, half hi lo = i.val → text.length ≤ 16 → (∀ b ∈ text, 0x20 ≤ b.toNat ∧ b.toNat ≤ 0x7E) →
      let refused (r : Reason) : Prop := Answers (.tag d) d 0x25#8 ⟨.refused, some r, .none⟩ s
      (s.board.incident i = none → refused .closed) ∧
      ∀ x, s.board.incident i = some x →
        (x.state = .closed → refused .closed) ∧
        (x.state ≠ .closed →
          (∀ e, x.assigned = some e → e ≠ d → refused .notHolder) ∧
          (x.assigned = none → (s.board.desks[d]).onDuty = false → refused .offDuty) ∧
          (x.assigned = some d ∨ (x.assigned = none ∧ (s.board.desks[d]).onDuty = true) →
            let tag := if text = [] then none else some text
            (x.tag = tag → Answers (.tag d) d 0x25#8 ⟨.done, none, .change (s.board.change i)⟩ s) ∧
            (x.tag ≠ tag → Does (.tag d) s ({ s with board := { s.board with
                incidents := s.board.incidents.put i ⟨(s.board.change i + 1) % 65536, some { x with tag }⟩ } }.answered
              d 0x25#8 ⟨.done, none, .change ((s.board.change i + 1) % 65536)⟩))))

/-! ## The period -/

/-- SET_PERIOD: the first line that applies decides; when the period changes, every incident that is not CLOSED is computed
in it, and its change number moves only with its urgency. And how an urgency is computed: the eight inputs of a circuit, a
station and a trunk incident, and the seven stages (HandoffsMoveIncidents gives the table of condition weights). An answer
other than DONE carries no data (log entry 25). -/
def Obligations.SetPeriodReweighsIncidents : Prop :=
  (∀ (d : DeskId) (code : Byte) (s : State), s.waits d [0x48#8, code] →
    (3 < code.toNat → Answers (.setPeriod d) d 0x48#8 ⟨.invalid, some .badArgument, .none⟩ s) ∧
    ∀ p, code.toNat = Period.code p →
      ((s.board.desks[d]).onDuty = false → Answers (.setPeriod d) d 0x48#8 ⟨.refused, some .offDuty, .none⟩ s) ∧
      ((s.board.desks[d]).onDuty = true → p = s.setup.period →
        Answers (.setPeriod d) d 0x48#8 ⟨.done, none, .period p p⟩ s) ∧
      ((s.board.desks[d]).onDuty = true → p ≠ s.setup.period →
        Does (.setPeriod d) s ((s.changePeriod p).answered d 0x48#8 ⟨.done, none, .period p s.setup.period⟩))) ∧
  (∀ (c : Setup) (x : Incident),
    let scales := c.active.scales.of c.period
    let minutes := (c.time - x.openedAt) / 60
    let urgency (weight k n q tau : Nat) (tripped : Bool) : Nat :=
      let spread := if n = 0 then 0 else min 256 (6 * (n - 1))
      let base := weight + k + spread
      let scaled := q * base / 16
      let aged := if tau = 0 then 0 else min 240 (8 * (minutes / tau))
      let escalation := 64 * x.rounds
      let bonus := if tripped = true then 96 else 0
      min 1023 (scaled + aged + escalation + bonus)
    let computed := urgencyOf (urgencyInputs c x)
    reweigh c x = { x with urgency := computed } ∧
    (∀ k, x.subject = .circuit k →
      let e := c.active.circuit k
      let n := x.members.length + x.unrecorded
      tauOf c x.subject = e.tau ∧
      (x.members = [] → computed = urgency e.weight 16 n (scales.of x.cls) e.tau x.tripped) ∧
      ∀ w, x.members ≠ [] → x.worst = some w →
        computed = urgency e.weight w.weight n (scales.of x.cls) e.tau x.tripped) ∧
    (∀ n, x.subject = .station n → tauOf c x.subject = 10 ∧
      computed = urgency (c.active.station n).weight 80 1 scales.infra 10 false) ∧
    ∀ t, x.subject = .trunk t →
      let n := ((fins 24).filter fun p => decide ((c.active.station (stationAt t p)).count ≠ 0)).length
      tauOf c x.subject = 10 ∧ occupied c.active t = n ∧
      computed = urgency c.active.params.trunkWeight 120 n scales.infra 10 false) ∧
  ∀ (p : Period) (s : State),
    let c : Setup := { s.setup with period := p }
    (s.changePeriod p).setup = c ∧ (s.changePeriod p).faults = s.faults ∧ (s.changePeriod p).field = s.field ∧
    (s.changePeriod p).error = s.error ∧ (s.changePeriod p).board.desks = s.board.desks ∧
    (s.changePeriod p).board.aging = s.board.aging ∧
    ∀ i,
      (s.board.incident i = none → (s.changePeriod p).board.record i = s.board.record i) ∧
      ∀ x, s.board.incident i = some x →
        (x.state = .closed ∨ urgencyOf (urgencyInputs c x) = x.urgency →
          (s.changePeriod p).board.record i = s.board.record i) ∧
        (x.state ≠ .closed → urgencyOf (urgencyInputs c x) ≠ x.urgency →
          (s.changePeriod p).board.record i =
            ⟨(s.board.change i + 1) % 65536, some { x with urgency := urgencyOf (urgencyInputs c x) }⟩)

/-! ## Stations and operations, by command -/

/-- HOLD and UNHOLD: the lines of R115 and R116, and what a change of hold set makes of the station, of the state timers of
its fault records and of its operation: held, the running timers are suspended with their remaining time and the operation
ends LOST-HOLD; no longer held, the timers run on, and one with nothing remaining runs out at once. An answer other than DONE
carries no data (log entry 25). That the OP-DONE of an operation which ends so carries no outcome, that of a sweep in ENDING
neither, is the model's choice (log entry 40). -/
def Obligations.HoldAndUnholdChangeHoldSet : Prop :=
  (∀ (d : DeskId) (trunk position : Byte) (s : State),
    (s.waits d [0x30#8, trunk, position] → 16 ≤ trunk.toNat ∨ position.toNat = 0 ∨ 24 < position.toNat →
      Answers (.hold d) d 0x30#8 ⟨.invalid, some .badArgument, .none⟩ s) ∧
    (s.waits d [0x31#8, trunk, position] → 16 ≤ trunk.toNat ∨ position.toNat = 0 ∨ 24 < position.toNat →
      Answers (.unhold d) d 0x31#8 ⟨.invalid, some .badArgument, .none⟩ s) ∧
    ∀ (t : TrunkId) (p : Position), trunk.toNat = t.val → position.toNat = p.val + 1 →
      let n := stationAt t p
      (s.waits d [0x30#8, trunk, position] →
        ((s.board.desks[d]).onDuty = false → Answers (.hold d) d 0x30#8 ⟨.refused, some .offDuty, .none⟩ s) ∧
        ((s.board.desks[d]).onDuty = true → (s.roster n).count = 0 →
          Answers (.hold d) d 0x30#8 ⟨.refused, some .vacant, .none⟩ s) ∧
        ((s.board.desks[d]).onDuty = true → (s.roster n).count ≠ 0 →
          Does (.hold d) s ((s.changeHold n fun h => { h with desk := true }).answered d 0x30#8
            ⟨.done, none, .held { (s.station n).hold with desk := true } (s.station n).mode⟩))) ∧
      (s.waits d [0x31#8, trunk, position] →
        ((s.board.desks[d]).onDuty = false → Answers (.unhold d) d 0x31#8 ⟨.refused, some .offDuty, .none⟩ s) ∧
        ((s.board.desks[d]).onDuty = true → (s.roster n).count = 0 →
          Answers (.unhold d) d 0x31#8 ⟨.refused, some .vacant, .none⟩ s) ∧
        ((s.board.desks[d]).onDuty = true → (s.roster n).count ≠ 0 → (s.station n).hold = ⟨false, true⟩ →
          Answers (.unhold d) d 0x31#8 ⟨.refused, some .heldAtCabinet, .none⟩ s) ∧
        ((s.board.desks[d]).onDuty = true → (s.roster n).count ≠ 0 → (s.station n).hold ≠ ⟨false, true⟩ →
          Does (.unhold d) s ((s.changeHold n fun h => { h with desk := false }).answered d 0x31#8
            ⟨.done, none, .held { (s.station n).hold with desk := false } (s.station n).mode⟩)))) ∧
  ∀ (n : StationId) (g : HoldSet → HoldSet) (s : State),
    let x := s.station n
    let u := s.changeHold n g
    u.setup = s.setup ∧ (u.station n).hold = g x.hold ∧ (u.station n).mode = x.mode ∧
    ((g x.hold).held = x.hold.held → u = s.updStation n fun x => { x with hold := g x.hold }) ∧
    ((g x.hold).held = true → x.hold.held = false →
      (u.station n).balance = x.balance ∧
      (u.station n).nextExpiry = (if x.mode = .active then none else x.nextExpiry)) ∧
    ((g x.hold).held = false → x.hold.held = true →
      (x.mode = .active → (u.station n).balance = 0 ∧ (u.station n).wakeExtra = false ∧
        (u.station n).nextExpiry = some (s.setup.time + (s.roster n).interval)) ∧
      (x.mode ≠ .active → (u.station n).balance = x.balance ∧ (u.station n).nextExpiry = x.nextExpiry)) ∧
    ((g x.hold).held = true → x.hold.held = false → ∃ v : State,
      u = (match x.op with
        | some o => v.endOp o .lostHold .none .none
        | none => v) ∧
      v.setup = s.setup ∧ v.board = s.board ∧ v.error = s.error ∧ v.field.ops = s.field.ops ∧
      v.field.trunks = s.field.trunks ∧ v.field.chains = s.field.chains ∧
      v.station n = { x with hold := g x.hold, nextExpiry := if x.mode = .active then none else x.nextExpiry } ∧
      (∀ m, m ≠ n → v.station m = s.station m) ∧
      v.faults.marks = s.faults.marks ∧ v.faults.dropped = s.faults.dropped ∧
      (s.faults.Sound → v.faults.records = s.faults.records.map fun r =>
        if r.station = n then
          { r with timer := match r.timer with
            | .running k e => .suspended k (e - s.setup.time)
            | y => y }
        else r)) ∧
    ((g x.hold).held = false → x.hold.held = true → s.faults.Sound →
      (∀ m, m ≠ n → u.station m = s.station m) ∧ u.field.ops = s.field.ops ∧ u.field.trunks = s.field.trunks ∧
      u.faults.marks = s.faults.marks ∧
      ∀ r ∈ s.faults.records,
        (r.station ≠ n → u.faults.find r.asset = some r) ∧
        (r.station = n →
          (∀ k m, r.timer = .suspended k (m + 1) →
            u.faults.find r.asset = some { r with timer := .running k (s.setup.time + (m + 1)) }) ∧
          (∀ k, r.timer = .suspended k 0 →
            (r.state = .suspect → ∃ i, u.faults.find r.asset = some
              { r with state := .confirmed, confirmedAt := some s.setup.time, timer := .none, incident := i }) ∧
            (r.state = .restoring → u.faults.find r.asset = none)) ∧
          ((∀ k m, r.timer ≠ .suspended k m) → u.faults.find r.asset = some r))) ∧
    ∀ (r : FaultRecord) (k : TimerKind), r.timer = .suspended k 0 →
      (r.state = .suspect → s.resumeTimer r = s.joinRecord
        { r with state := .confirmed, confirmedAt := some s.setup.time, timer := .none }) ∧
      (r.state = .restoring → s.resumeTimer r = (s.onFaults (Faults.remove r.asset)).leaveRecord r)

/-- PROBE, CYCLE and SWEEP: every line of R159; the station that owns an asset; the record that a new operation takes, the
first free one after the index last allocated, wrapping from 31 to 0; and what the start of an operation makes of the state,
with the mark of a CYCLE's or SWEEP's asset, its record's under-operation flag and the mark change of its member. An answer
other than DONE carries no data (log entry 25). -/
def Obligations.OperationsStart : Prop :=
  (∀ (d : DeskId) (k : OpKind) (a1 a0 : Byte) (s : State),
    let code : Byte := match k with
      | .probe => 0x38#8
      | .cycle => 0x39#8
      | .sweep => 0x3A#8
    let row : Instr := match k with
      | .probe => .probe d
      | .cycle => .cycle d
      | .sweep => .sweep d
    let asset := half a1 a0
    let refused (r : Reason) : Prop := Answers row d code ⟨.refused, some r, .none⟩ s
    s.waits d [code, a1, a0] →
      ((∀ n, (s.roster n).owns asset = false) → refused .noStation) ∧
      ∀ n, ownerOf s.setup.active asset = some n →
        (k.allows (s.roster n).kind = false → Answers row d code ⟨.invalid, some .badArgument, .none⟩ s) ∧
        (k.allows (s.roster n).kind = true →
          ((s.board.desks[d]).onDuty = false → refused .offDuty) ∧
          ((s.board.desks[d]).onDuty = true →
            ((s.trunk (stationTrunk n)).state ≠ .running → refused .notRunning) ∧
            ((s.trunk (stationTrunk n)).state = .running →
              ((s.station n).mode ≠ .active → refused .notActive) ∧
              ((s.station n).mode = .active →
                ((s.station n).hold.held = true → refused .held) ∧
                ((s.station n).hold.held = false →
                  ((s.station n).op ≠ none → refused .busy) ∧
                  ((s.station n).op = none →
                    ((∀ o, s.field.ops.find o ≠ none) ∨ 8 ≤ (s.trunk (stationTrunk n)).queue.length → refused .full) ∧
                    ∀ o, s.field.freeOpIndex = some o → (s.trunk (stationTrunk n)).queue.length < 8 →
                      Does row s ((s.startOp o k d n asset).answered d code ⟨.done, none, .started o k n
                        (s.setup.time + (match k with
                          | .probe => 10
                          | .cycle => s.setup.active.params.cycleOffTime + 30
                          | .sweep => 2))⟩)))))))) ∧
  (∀ (o : OpId) (k : OpKind) (d : DeskId) (n : StationId) (asset : Nat) (s : State),
    let p := s.setup.active.params
    let u := s.startOp o k d n asset
    u.setup = s.setup ∧ u.error = s.error ∧ u.field.lastOp = o ∧ u.field.chains = s.field.chains ∧
    u.field.ops.find o = some
      { kind := k, desk := d, station := n, asset, state := .sent, direction := none, steps := 0, retried := false
        level := if k = .sweep then some p.sweepStart else none
        deadline := s.setup.time + (match k with
          | .probe => 10
          | .cycle => p.cycleOffTime + 30
          | .sweep => 2)
        offTime := p.cycleOffTime, startLevel := p.sweepStart, margin := p.sweepMargin, noise := none } ∧
    (∀ o', o' ≠ o → u.field.ops.find o' = s.field.ops.find o') ∧
    u.station n = { s.station n with op := some o } ∧ (∀ m, m ≠ n → u.station m = s.station m) ∧
    u.trunk (stationTrunk n) = (s.trunk (stationTrunk n)).hand
      ⟨(stationPosition n).val + 1, match k with
        | .probe => .probe o asset
        | .cycle => .cycle o asset p.cycleOffTime
        | .sweep => .sweepStep o asset p.sweepStart⟩ ∧
    (∀ t, t ≠ stationTrunk n → u.trunk t = s.trunk t) ∧
    (∀ a, a ∈ u.faults.marks ↔ a ∈ s.faults.marks ∨ (k ≠ .probe ∧ a = asset)) ∧
    u.faults.dropped = s.faults.dropped ∧ (s.faults.Sound → u.faults.records.length = s.faults.records.length) ∧
    (∀ r, s.faults.find r.asset = some r → u.faults.find r.asset = some
      { r with underOp := if k ≠ .probe ∧ r.asset = asset then true else r.underOp }) ∧
    (k = .probe → u.board = s.board) ∧
    (k ≠ .probe →
      ((∀ r i, s.faults.find asset = some r → r.incident = some i → r.underOp = true ∨ s.board.incident i = none) →
        u.board = s.board) ∧
      ∀ r i y, s.faults.find asset = some r → r.underOp = false → r.incident = some i → s.board.incident i = some y →
        u.board = s.board.commit .table i { y with members := y.members.map fun m =>
          if m.asset = asset then { m with stale := r.stale, underOp := true } else m })) ∧
  (∀ (a : Settings) (asset : Nat),
    (∀ n, (a.station n).owns asset = true ↔
      (a.station n).first ≤ asset ∧ asset < (a.station n).first + (a.station n).count) ∧
    (∀ n, ownerOf a asset = some n ↔ (a.station n).owns asset = true ∧ ∀ m, m < n → (a.station m).owns asset = false) ∧
    (ownerOf a asset = none ↔ ∀ n, (a.station n).owns asset = false)) ∧
  (∀ f : Field,
    let turn (o : OpId) : Nat := (o.val + 31 - f.lastOp.val) % 32
    (f.freeOpIndex = none ↔ ∀ o, f.ops.find o ≠ none) ∧
    ∀ o, f.freeOpIndex = some o ↔ f.ops.find o = none ∧ ∀ o', f.ops.find o' = none → turn o ≤ turn o') ∧
  ∀ k : Option Kind, OpKind.probe.allows k = true ∧ (OpKind.cycle.allows k = true ↔ k ≠ some .loop) ∧
    (OpKind.sweep.allows k = true ↔ k = some .loop)

/-- ABORT_OP: the lines of R170, and what the end of an operation makes of the state (R168): the outcome reaches the fault
table, its record is free, its station holds none, its mark is gone, an end other than DONE hands an ABORT-OP to a RUNNING
trunk, and an OP-DONE notice goes to the requesting desk or, while that desk's link is DOWN, to the desk that holds the
incident of the asset's record. What a lock remedy and a record made by an equipment check leave in the record's counts is
log entry 18. An answer other than DONE carries no data (log entry 25). That the OP-DONE of an operation that ABORT_OP ends
carries no outcome, that of a sweep in ENDING neither, is the model's choice (log entry 40). -/
def Obligations.OperationsEnd : Prop :=
  (∀ (d : DeskId) (index : Byte) (s : State), s.waits d [0x3B#8, index] →
    (32 ≤ index.toNat → Answers (.abortOp d) d 0x3B#8 ⟨.invalid, some .badArgument, .none⟩ s) ∧
    ∀ o : OpId, index.toNat = o.val →
      ((s.board.desks[d]).onDuty = false → Answers (.abortOp d) d 0x3B#8 ⟨.refused, some .offDuty, .none⟩ s) ∧
      ((s.board.desks[d]).onDuty = true → s.field.ops.find o = none →
        Answers (.abortOp d) d 0x3B#8 ⟨.refused, some .notInFlight, .none⟩ s) ∧
      ∀ x, (s.board.desks[d]).onDuty = true → s.field.ops.find o = some x →
        Does (.abortOp d) s ((s.endOp o .lostAborted .none .none).answered d 0x3B#8
          ⟨.done, none, .abortedOp x.kind x.asset x.station x.state⟩)) ∧
  (∀ (o : OpId) (x : Op) (how : OpEnd) (outcome : OpOutcome) (s : State), s.field.ops.find o = some x →
    let u := s.endOp o how .none outcome
    u.setup = s.setup ∧ u.error = s.error ∧ u.field.chains = s.field.chains ∧ u.field.ops.find o = none ∧
    (∀ o', o' ≠ o → u.field.ops.find o' = s.field.ops.find o') ∧
    u.station x.station = { s.station x.station with op := none } ∧
    (∀ m, m ≠ x.station → u.station m = s.station m) ∧
    u.trunk (stationTrunk x.station) =
      (if how = .done then s.trunk (stationTrunk x.station)
      else (s.trunk (stationTrunk x.station)).hand ⟨(stationPosition x.station).val + 1, .abortOp o x.asset⟩) ∧
    (∀ t, t ≠ stationTrunk x.station → u.trunk t = s.trunk t) ∧
    (∀ a, a ∈ u.faults.marks ↔ a ∈ s.faults.marks ∧ (x.kind ≠ .probe → a ≠ x.asset)) ∧
    (s.faults.Sound → u.faults.records.length = s.faults.records.length) ∧ u.faults.dropped = s.faults.dropped ∧
    (∀ r, s.faults.find r.asset = some r → u.faults.find r.asset = some
      { r with underOp := if x.kind ≠ .probe ∧ r.asset = x.asset then false else r.underOp }) ∧
    ∃ w : Board,
      (x.kind = .probe → w = s.board) ∧
      (x.kind ≠ .probe → (∀ r, s.faults.find x.asset = some r → r.underOp = false ∨ r.incident = none) →
        w = s.board) ∧
      (x.kind ≠ .probe → ∀ r i y, s.faults.find x.asset = some r → r.underOp = true → r.incident = some i →
        s.board.incident i = some y → w = s.board.commit .table i { y with members := y.members.map fun m =>
          if m.asset = x.asset then { m with stale := r.stale, underOp := false } else m }) ∧
      let notice : Notice := .opDone o x.kind x.asset x.station x.desk how x.state x.steps outcome
      let holder (e : DeskId) : Prop := ∃ r i y, s.faults.find x.asset = some r ∧ r.incident = some i ∧
        s.board.incident i = some y ∧ (y.state = .assigned ∨ y.state = .restored) ∧ y.assigned = some e
      ((s.board.links[x.desk]).up = true → u.board = w.updLink x.desk fun l => l.take notice) ∧
      ((s.board.links[x.desk]).up = false →
        (∀ e : DeskId, holder e → u.board = w.updLink e fun l => l.take notice) ∧
        ((∀ e : DeskId, ¬holder e) → u.board = w))) ∧
  (∀ (o : OpId) (x : Op) (how : OpEnd) (act : OutcomeAct) (outcome : OpOutcome) (s : State),
    s.field.ops.find o = some x →
    s.endOp o how act outcome =
      (s.applyOutcome x.station ((s.roster x.station).kind.getD .lamp) x.asset act).endOp o how .none outcome) ∧
  ∀ (n : StationId) (k : Kind) (asset : Nat) (s : State),
    let circuit := circuitFor s.setup.active asset
    let entry := s.setup.active.circuit circuit
    let taken (act : OutcomeAct) : State := s.applyOutcome n k asset act
    let hold := s.setup.active.params.restoreHold
    taken .none = s ∧
    (entry.invalid = true → ∀ act, act ≠ .none → taken act = { s with error :=
      ⟨.trunk .invalidCircuit, .position (stationTrunk n) ((stationPosition n).val + 1), some s.setup.time,
        (s.error.writes + 1) % 65536⟩ }) ∧
    (entry.invalid = false →
      (∀ c, taken (.report c) = s.applyReport
        { asset, station := n, kind := k, condition := c, repeated := false, circuit, fold := entry.fold }) ∧
      (s.faults.find asset = none → taken .lockRemedy = s) ∧
      (∀ r, s.faults.find asset = some r →
        (r.condition ≠ .drift ∨ r.state = .restoring → taken .lockRemedy = s) ∧
        (r.condition = .drift → r.state = .suspect → taken .lockRemedy = s.onFaults (Faults.remove asset)) ∧
        (r.condition = .drift → r.state = .confirmed →
          (hold = 0 → taken .lockRemedy = (s.onFaults (Faults.remove asset)).leaveRecord r) ∧
          (hold ≠ 0 → taken .lockRemedy = s.onFaults (Faults.write
            { r with state := .restoring, timer := .running .restoreHold (s.setup.time + hold) })))) ∧
      ∀ c,
        (∀ r, s.faults.find asset = some r →
          (r.state = .suspect → taken (.equipment c) = s.joinRecord
            { r with condition := c, state := .confirmed, confirmedAt := some s.setup.time, timer := .none }) ∧
          (r.state ≠ .suspect →
            let y : FaultRecord := { r with
              condition := c, state := .confirmed, timer := if r.state = .restoring then .none else r.timer }
            (r.condition = c → taken (.equipment c) = s.onFaults (Faults.write y)) ∧
            (r.condition ≠ c → taken (.equipment c) = (s.onFaults (Faults.write y)).conditionHandoff y))) ∧
        (s.faults.find asset = none →
          (entry.fold = true ∨ 2048 ≤ s.faults.records.length →
            taken (.equipment c) = s.onBoard fun x b => b.countUp x circuit k) ∧
          (entry.fold = false → s.faults.records.length < 2048 → taken (.equipment c) = s.joinRecord
            { asset, station := n, circuit, kind := k, condition := c, state := .confirmed
              confirms := s.setup.active.params.threshold k, flips := 0, firstSeen := s.setup.time
              confirmedAt := some s.setup.time, lastReport := s.setup.time, reports := 1, timer := .none
              stale := decide ((s.station n).mode = .silent ∨ (s.station n).mode = .unreached)
              underOp := s.faults.marked asset, incident := none })))

/-! ## Trunks and chains, by command -/

/-- TRUNK_START, every line of R127. -/
def Obligations.TrunkStartEveryLine : Prop :=
  ∀ (d : DeskId) (trunk : Byte) (s : State), s.waits d [0x40#8, trunk] →
    (16 ≤ trunk.toNat → Answers (.trunkStart d) d 0x40#8 ⟨.invalid, some .badArgument, .none⟩ s) ∧
    ∀ t : TrunkId, trunk.toNat = t.val →
      let x := s.trunk t
      let starting (cause : StartCause) (attempts : Nat) : State :=
        s.updTrunk t fun x => { x with
          state := .starting, buffer := [], assembly := none, startDeadline := some (s.setup.time + 2)
          retryDeadline := none, attempts, startCause := cause }
      (x.state = .running → Answers (.trunkStart d) d 0x40#8 ⟨.refused, some .running, .none⟩ s) ∧
      (x.state = .starting → Answers (.trunkStart d) d 0x40#8 ⟨.done, none, .none⟩ s) ∧
      (x.state = .off →
        Does (.trunkStart d) s ((starting .fromOff 1).answered d 0x40#8 ⟨.done, none, .none⟩)) ∧
      (x.state = .faulted →
        Does (.trunkStart d) s ((starting .commandFromFaulted (saturate 65535 x.attempts)).answered d 0x40#8
          ⟨.done, none, .none⟩))

/-- TRUNK_STOP: the lines of R130, and what leaving RUNNING makes of a trunk, its stations and its chain (R118, R135 steps 2
to 6, R156): the stop as a whole; each non-VACANT station, by rising position, UNREACHED, its records stale
(IntervalExpiryDebitsOrWakes says what marking them does) and its operation ended LOST, reason TRUNK, with its notice
(OperationsEnd). That the stations are taken by rising position, which orders their notices, is the model's choice (log entry
10). That the OP-DONE of an operation which ends so carries no outcome, that of a sweep in ENDING neither, is the model's
choice (log entry 40). -/
def Obligations.TrunkStopLeavesRunning : Prop :=
  (∀ (d : DeskId) (trunk : Byte) (s : State), s.waits d [0x41#8, trunk] →
    (16 ≤ trunk.toNat → Answers (.trunkStop d) d 0x41#8 ⟨.invalid, some .badArgument, .none⟩ s) ∧
    ∀ t : TrunkId, trunk.toNat = t.val →
      ((s.trunk t).state = .off → Answers (.trunkStop d) d 0x41#8 ⟨.done, none, .none⟩ s) ∧
      ((s.trunk t).state ≠ .off → Does (.trunkStop d) s ((s.stopTrunk t).answered d 0x41#8 ⟨.done, none, .none⟩))) ∧
  ∀ (t : TrunkId) (s : State), (s.trunk t).state ≠ .off →
    let x := s.trunk t
    let u := s.stopTrunk t
    u.setup = s.setup ∧ u.error = s.error ∧
    (x.state ≠ .running → u.trunk t =
        { x with state := .off, startDeadline := none, retryDeadline := none, graceDeadline := none, attempts := 0 } ∧
      u.faults = s.faults ∧ u.field.stations = s.field.stations ∧ u.field.ops = s.field.ops) ∧
    (x.state = .running → u.trunk t =
        { x with
          state := .off, startDeadline := none, retryDeadline := none, graceDeadline := none, attempts := 0
          assembly := none, queue := [], transmitting := none, upCredit := 0, downCredit := 0, watch := false } ∧
      u.chain t = { census := none, again := false, labelling := none, list := [] } ∧
      (s.field.OpsAgree → ∀ p : Position, (s.roster (stationAt t p)).count ≠ 0 →
        u.station (stationAt t p) =
          { s.station (stationAt t p) with
            mode := .unreached, nextExpiry := none, wakeExtra := false, sleepCount := 0, span := none, op := none })) ∧
    (∀ t', t' ≠ t → u.chain t' = s.chain t' ∧ (s.field.OpsAgree → u.trunk t' = s.trunk t')) ∧
    (s.board.Arranged → ∀ i y, s.board.incident i = some y → y.subject = .trunk t → y.atFault = true →
      ∃ z, u.board.incident i = some z ∧ z.restoredAt = some s.setup.time ∧
        z.state = if s.setup.active.params.closeDelay = 0 then .closed else .restored) ∧
    (x.state = .running → s.faults.Sound → ∀ r ∈ u.faults.records,
      stationTrunk r.station = t → (s.roster r.station).count ≠ 0 → r.stale = true) ∧
    (x.state ≠ .running → u = (s.updTrunk t fun x => { x with
        state := .off, startDeadline := none, retryDeadline := none, graceDeadline := none
        attempts := 0 }).onBoard fun c b => Board.restoreOf c (.trunk t) b) ∧
    (x.state = .running →
      let stopped := s.updTrunk t fun x => { x with
        state := .off, startDeadline := none, retryDeadline := none, graceDeadline := none, attempts := 0
        assembly := none, queue := [], transmitting := none, upCredit := 0, downCredit := 0, watch := false }
      let positions := (fins 24).filter fun p => decide ((s.roster (stationAt t p)).count ≠ 0)
      let gone := positions.foldl (fun v p => v.enterUnreached (stationAt t p)) stopped
      u = (gone.updChain t fun _ => {}).onBoard fun c b => Board.restoreOf c (.trunk t) b) ∧
    ∀ n : StationId,
      let v := (s.updStation n fun y => { y with
        mode := .unreached, nextExpiry := none, wakeExtra := false, sleepCount := 0, span := none }).setStale n true
      s.enterUnreached n = (match (s.station n).op with
        | some o => v.endOp o .lostTrunk .none .none
        | none => v)

/-- CENSUS: the lines of R153, and the census frame's handing over. LABEL_CHAIN: the lines of R150, and its four steps in
their order: FORGET is handed over; every non-VACANT position is put into the list; each of these stations becomes PENDING
with no schedule, and the operation of one that was ACTIVE ends, with its ABORT-OP behind the FORGET; then the first LABEL is
handed over behind them, and the other positions wait. That a LABEL which finds the queue full of those ABORT-OPs is refused,
so that every labelling fails at once (R147, R149) while the command is answered DONE, is the model's reading (log entry 31).
An answer other than DONE carries no data (log entry 25). -/
def Obligations.CensusAndLabelChainStart : Prop :=
  (∀ (d : DeskId) (trunk : Byte) (s : State), s.waits d [0x42#8, trunk] →
    (16 ≤ trunk.toNat → Answers (.census d) d 0x42#8 ⟨.invalid, some .badArgument, .none⟩ s) ∧
    ∀ t : TrunkId, trunk.toNat = t.val →
      let busy := (s.chain t).census ≠ none ∨ (s.chain t).labelling ≠ none ∨ (s.chain t).list ≠ []
      ((s.trunk t).state ≠ .running → Answers (.census d) d 0x42#8 ⟨.refused, some .notRunning, .none⟩ s) ∧
      ((s.trunk t).state = .running →
        (busy → Does (.census d) s ((s.updChain t fun c => { c with again := true }).answered d 0x42#8
          ⟨.done, none, .census false⟩)) ∧
        (¬busy →
          (8 ≤ (s.trunk t).queue.length → Answers (.census d) d 0x42#8 ⟨.refused, some .full, .none⟩ s) ∧
          ((s.trunk t).queue.length < 8 →
            Does (.census d) s (((s.updTrunk t (Trunk.hand ⟨255, .census⟩)).updChain t fun c =>
              { c with census := some (s.setup.time + 4), again := false }).answered d 0x42#8
                ⟨.done, none, .census true⟩))))) ∧
  (∀ (d : DeskId) (trunk : Byte) (s : State), s.waits d [0x43#8, trunk] →
    (16 ≤ trunk.toNat → Answers (.labelChain d) d 0x43#8 ⟨.invalid, some .badArgument, .none⟩ s) ∧
    ∀ t : TrunkId, trunk.toNat = t.val →
      let needed := if occupiedPositions s t = [] then 1 else 2
      ((s.trunk t).state ≠ .running → Answers (.labelChain d) d 0x43#8 ⟨.refused, some .notRunning, .none⟩ s) ∧
      ((s.trunk t).state = .running →
        ((s.chain t).busy = true → Answers (.labelChain d) d 0x43#8 ⟨.refused, some .busy, .none⟩ s) ∧
        ((s.chain t).busy = false →
          (8 < (s.trunk t).queue.length + needed →
            Answers (.labelChain d) d 0x43#8 ⟨.refused, some .full, .none⟩ s) ∧
          ((s.trunk t).queue.length + needed ≤ 8 →
            Does (.labelChain d) s ((s.relabel t).answered d 0x43#8
              ⟨.done, none, .labelled (occupiedPositions s t).length⟩))))) ∧
  (∀ (t : TrunkId) (s : State),
    let ps := (fins 24).filter fun p => decide ((s.roster (stationAt t p)).count ≠ 0)
    let listed := (s.hand t ⟨255, .forget⟩).updChain t fun c => { c with list := ps }
    occupiedPositions s t = ps ∧
    s.relabel t = ((ps.foldl (fun v q => v.enterPending (stationAt t q)) listed).startLabelling t).chainFreed t) ∧
  ∀ (t : TrunkId) (s : State), (s.trunk t).state = .running → (s.chain t).busy = false → (s.chain t).again = false →
    let ps := occupiedPositions s t
    let listed := (s.hand t ⟨255, .forget⟩).updChain t fun c => { c with list := ps }
    let gone := ps.foldl (fun v q => v.enterPending (stationAt t q)) listed
    let u := s.relabel t
    let ends : List DownFrame := ps.filterMap fun q =>
      if (s.station (stationAt t q)).mode = .active then
        (s.station (stationAt t q)).op.bind fun o => (s.field.ops.find o).map fun x => ⟨q.val + 1, .abortOp o x.asset⟩
      else none
    let behind := ends.foldl (fun x f => x.hand f) ((s.trunk t).hand ⟨255, .forget⟩)
    u.setup = s.setup ∧
    (∀ p : Position, p ∈ ps → (u.station (stationAt t p)).mode = .pending ∧
      (u.station (stationAt t p)).nextExpiry = none ∧
      (u.station (stationAt t p)).hold = (s.station (stationAt t p)).hold) ∧
    (ps = [] → u.chain t = s.chain t ∧ u.trunk t = (s.trunk t).hand ⟨255, .forget⟩) ∧
    (s.field.OpsAgree → gone.trunk t = behind) ∧
    ((∀ q : Position, q ∈ ps → (s.station (stationAt t q)).op = none) →
      gone.trunk t = (s.trunk t).hand ⟨255, .forget⟩) ∧
    ∀ p rest, ps = p :: rest →
      ((gone.trunk t).queue.length < 8 →
        u = ((gone.hand t ⟨0, .label p⟩).updChain t fun c =>
          { c with list := rest, labelling := some ⟨p, s.setup.time + 2⟩ }) ∧
        u.chain t = { census := none, again := false, labelling := some ⟨p, s.setup.time + 2⟩, list := rest } ∧
        u.trunk t = (gone.trunk t).hand ⟨0, .label p⟩) ∧
      (s.field.OpsAgree → (s.trunk t).queue.length + 2 + ends.length ≤ 8 →
        u.trunk t = behind.hand ⟨0, .label p⟩ ∧ (u.chain t).labelling = some ⟨p, s.setup.time + 2⟩) ∧
      (8 ≤ (gone.trunk t).queue.length →
        let x := gone.trunk t
        let e := TrunkError.labelFailed.index
        u.chain t = { census := none, again := false, labelling := none, list := [] } ∧
        u.trunk t = { x with counters := x.counters.set e (min 65535 (x.counters[e] + ps.length)) } ∧
        ∀ q : Position, ps.getLast? = some q → u.error = ⟨.trunk .labelFailed, .position t (q.val + 1),
          some s.setup.time, (gone.error.writes + ps.length) % 65536⟩)

/-! ## Staging -/

/-- EDIT_BEGIN: the three lines of R7. -/
def Obligations.EditBeginTakesClaim : Prop :=
  ∀ (d : DeskId) (s : State), s.waits d [0x50#8] →
    (s.setup.claim = none →
      Does (.editBegin d) s (({ s with setup := { s.setup with claim := some d } } : State).answered d 0x50#8
        ⟨.done, none, .none⟩)) ∧
    (s.setup.claim = some d → Answers (.editBegin d) d 0x50#8 ⟨.done, none, .none⟩ s) ∧
    ∀ e, s.setup.claim = some e → e ≠ d → Answers (.editBegin d) d 0x50#8 ⟨.refused, some .claimed, .none⟩ s

/-- DISCARD: from the holder of the claim the shadow copy takes every active value and the claim is free; from any other
desk nothing changes. -/
def Obligations.DiscardFreesClaim : Prop :=
  ∀ (d : DeskId) (s : State), s.waits d [0x58#8] →
    (s.setup.claim = some d →
      Does (.discard d) s (({ s with setup := { s.setup with shadow := s.setup.active, claim := none } } : State).answered d
        0x58#8 ⟨.done, none, .none⟩)) ∧
    (s.setup.claim ≠ some d → Answers (.discard d) d 0x58#8 ⟨.refused, some .noClaim, .none⟩ s)

/-- WRITE_CIRCUIT, WRITE_STATION, WRITE_DESK, WRITE_PARAM and WRITE_SCALE: INVALID first, then the claim; then the one
setting of the shadow copy, as written, and nothing else. That the bits of a flags byte that R9 and R11 do not name are
ignored, so that WRITE_CIRCUIT and WRITE_DESK accept every flags byte, is log entry 24. And what stands under each number of a
parameter, each period and each class, and that one circuit or roster entry written leaves every other as it was. -/
def Obligations.WritesSetOneSetting : Prop :=
  (∀ p : Params,
    Params.read 1 p = some p.lampThreshold ∧ Params.read 2 p = some p.loopThreshold ∧
    Params.read 3 p = some p.signThreshold ∧ Params.read 4 p = some p.confirmWindow ∧
    Params.read 5 p = some p.restoreHold ∧ Params.read 6 p = some p.closeDelay ∧ Params.read 7 p = some p.trunkGrace ∧
    Params.read 8 p = some p.trunkRetry ∧ Params.read 9 p = some p.trunkWeight ∧
    Params.read 10 p = some p.absenceGrace ∧ Params.read 11 p = some p.sweepStart ∧
    Params.read 12 p = some p.sweepMargin ∧ Params.read 13 p = some p.cycleOffTime ∧
    (∀ n, n = 0 ∨ 13 < n → Params.read n p = none) ∧
    p.threshold .lamp = p.lampThreshold ∧ p.threshold .loop = p.loopThreshold ∧ p.threshold .sign = p.signThreshold) ∧
  (∀ (x : PeriodTable) (y : Scales), x.of .day = x.day ∧ x.of .night = x.night ∧ x.of .peak = x.peak ∧
    x.of .storm = x.storm ∧ y.of .lamp = y.lamp ∧ y.of .loop = y.loop ∧ y.of .sign = y.sign ∧ y.of .infra = y.infra) ∧
  (∀ (a : Settings) (c : CircuitId) (x : Circuit),
    (∀ k, (a.setCircuit c x).circuit k = if k = c then x else a.circuit k) ∧
    { a.setCircuit c x with circuits := a.circuits } = a) ∧
  (∀ (a : Settings) (n : StationId) (x : Roster),
    (∀ k, (a.setStation n x).station k = if k = n then x else a.station k) ∧
    { a.setStation n x with roster := a.roster } = a) ∧
  ∀ (d : DeskId) (s : State),
    let turnedAway (row : Instr) (code : Byte) : Prop := Answers row d code ⟨.invalid, some .badArgument, .none⟩ s
    let writes (row : Instr) (code : Byte) (shadow : Settings) : Prop :=
      (s.setup.claim = some d → Does row s (({ s with setup := { s.setup with shadow } } : State).answered d code
        ⟨.done, none, .none⟩)) ∧
      (s.setup.claim ≠ some d → Answers row d code ⟨.refused, some .noClaim, .none⟩ s)
    (∀ entry b1 b0 flags group alternate weight trip tau,
      s.waits d [0x51#8, entry, b1, b0, flags, group, alternate, weight, trip, tau] →
      (entry = 0#8 ∨ 128 < entry.toNat → turnedAway (.writeCircuit d) 0x51#8) ∧
      ∀ c : CircuitId, entry.toNat = c.val + 1 →
        writes (.writeCircuit d) 0x51#8 (s.setup.shadow.setCircuit c
          { bound := if entry.toNat = 128 then 65535 else half b1 b0
            invalid := flags.getLsbD 0, fold := flags.getLsbD 1, group := group.toNat
            alternate := if alternate = 0xFF#8 then none else some alternate.toNat
            weight := weight.toNat, trip := trip.toNat, tau := tau.toNat })) ∧
    (∀ trunk position kind f1 f0 c1 c0 i1 i0 allowance limit weight,
      s.waits d [0x52#8, trunk, position, kind, f1, f0, c1, c0, i1, i0, allowance, limit, weight] →
      (16 ≤ trunk.toNat ∨ position = 0#8 ∨ 24 < position.toNat ∨ kind = 0#8 ∨ 3 < kind.toNat →
        turnedAway (.writeStation d) 0x52#8) ∧
      ∀ (t : TrunkId) (p : Position) k, trunk.toNat = t.val → position.toNat = p.val + 1 → kind.toNat = Kind.code k →
        writes (.writeStation d) 0x52#8 (s.setup.shadow.setStation (stationAt t p)
          { kind := some k, first := half f1 f0, count := half c1 c0, interval := half i1 i0
            allowance := allowance.toNat, sleepLimit := limit.toNat, weight := weight.toNat })) ∧
    (∀ desk flags limit timeout, s.waits d [0x53#8, desk, flags, limit, timeout] →
      (6 ≤ desk.toNat → turnedAway (.writeDesk d) 0x53#8) ∧
      ∀ e : DeskId, desk.toNat = e.val →
        let y : DeskSettings := { continues := flags.getLsbD 0, maintenance := flags.getLsbD 1, limit := limit.toNat
                                  timeout := timeout.toNat }
        writes (.writeDesk d) 0x53#8 { s.setup.shadow with desks := s.setup.shadow.desks.set e y }) ∧
    (∀ number v1 v0, s.waits d [0x54#8, number, v1, v0] →
      (number = 0#8 ∨ 13 < number.toNat → turnedAway (.writeParam d) 0x54#8) ∧
      (number ≠ 0#8 → number.toNat ≤ 13 → ∃ p,
        Params.write number.toNat (half v1 v0) s.setup.shadow.params = some p ∧
        writes (.writeParam d) 0x54#8 { s.setup.shadow with params := p } ∧
        Params.read number.toNat p = some (if number = 7#8 ∨ number = 9#8 then v0.toNat else half v1 v0) ∧
        ∀ other, other ≠ number.toNat → Params.read other p = Params.read other s.setup.shadow.params)) ∧
    (∀ period cls q, s.waits d [0x55#8, period, cls, q] →
      (3 < period.toNat ∨ cls = 0#8 ∨ 4 < cls.toNat → turnedAway (.writeScale d) 0x55#8) ∧
      ∀ p k, period.toNat = Period.code p → cls.toNat = Cls.code k →
        writes (.writeScale d) 0x55#8 { s.setup.shadow with
          scales := s.setup.shadow.scales.write p k q.toNat } ∧
        ∀ p' k', ((s.setup.shadow.scales.write p k q.toNat).of p').of k' =
          if p' = p ∧ k' = k then q.toNat else (s.setup.shadow.scales.of p').of k')

/-- ADOPT: refused without the claim; from its holder both copies become the clamped shadow copy, the claim is free, and the
blocks answer the adoption: the stations, each with all that it keeps; the labelling lists, which lose the positions now
VACANT; every fault record re-examined, so that each record left fits the new copy and each that fitted both copies is kept;
the incidents of gone subjects closed and the others moved to the starts of groups; every live urgency and aging schedule
computed afresh; the offers to desks outside their incident's group withdrawn, REROUTED; and the operations, by rising index,
those that the new copy does not allow ended LOST, RECONFIGURED (OperationsEnd says what an end does), the others kept. The
result is made, and only then is every group run. The order in which the blocks answer, the third count, and that a move to
the group in which an incident already stands is none, are the model's choices (log entries 9, 13 and 14). An answer other
than DONE carries no data (log entry 25). That the OP-DONE of an operation which adoption ends carries no outcome, that of a
sweep in ENDING neither, is the model's choice (log entry 40). -/
def Obligations.AdoptTakesClampedShadow : Prop :=
  (∀ (d : DeskId) (s : State), s.waits d [0x57#8] →
    (s.setup.claim ≠ some d → Answers (.adopt d) d 0x57#8 ⟨.refused, some .noClaim, .none⟩ s) ∧
    (s.setup.claim = some d →
      let clamped := clampAll s.setup.shadow
      let lost (x : Op) : Bool := decide ((clamped.station x.station).count = 0 ∨
        (clamped.station x.station).owns x.asset = false ∨
        (x.kind = .cycle ∧ (clamped.station x.station).kind = some .loop) ∨
        (x.kind = .sweep ∧ (clamped.station x.station).kind ≠ some .loop))
      ∃ u : State,
        let v := (u.answered d 0x57#8 ⟨.done, none, .adopted
          ((fins 128).filter fun c => decide (s.setup.shadow.circuit c ≠ clamped.circuit c)).length
          ((fins 384).filter fun n => decide (s.setup.shadow.station n ≠ clamped.station n)).length
          (othersChanged s.setup.shadow clamped)⟩).onBoard Board.runAll
        Does (.adopt d) s v ∧ exec (.adopt d) s = .next (v.onBoard fun _ b => b.beginLines) ∧
        (∀ g : DeskId, startsGroup clamped g = true → nextOffer clamped v.board g = none) ∧
        u.setup = { s.setup with active := clamped, shadow := clamped, claim := none } ∧
        (∀ n, (s.roster n).count = 0 → (clamped.station n).count ≠ 0 → u.station n = { mode := .pending }) ∧
        (∀ n, (s.roster n).count ≠ 0 → (clamped.station n).count = 0 → u.station n = {}) ∧
        (∀ n, (s.roster n).count = 0 → (clamped.station n).count = 0 →
          { u.station n with op := (s.station n).op } = s.station n) ∧
        (∀ n, (s.roster n).count ≠ 0 → (clamped.station n).count ≠ 0 →
          { u.station n with op := (s.station n).op } =
            { s.station n with balance := max (s.station n).balance (-((clamped.station n).allowance : Int)) }) ∧
        (∀ n, ((s.roster n).count = 0 ↔ (clamped.station n).count = 0) →
          (∀ k x, s.field.ops.find k = some x → x.station = n → lost x = false) →
          (u.station n).op = (s.station n).op) ∧
        (∀ k x, s.field.ops.find k = some x → lost x = true → (u.station x.station).op = none) ∧
        (∀ k, u.field.ops.find k = (s.field.ops.find k).filter fun x => !lost x) ∧ u.field.lastOp = s.field.lastOp ∧
        (∃ w : State, u = w.adoptOps ∧ w.setup = u.setup ∧ w.field.ops = s.field.ops ∧ w.field.trunks = s.field.trunks ∧
          w.field.chains = u.field.chains) ∧
        (∀ t, u.trunk t = ((fins 32).filterMap fun o => match s.field.ops.find o with
            | some x => if stationTrunk x.station = t ∧ lost x = true then
                some (⟨(stationPosition x.station).val + 1, .abortOp o x.asset⟩ : DownFrame) else none
            | none => none).foldl (fun x f => x.hand f) (s.trunk t)) ∧
        (∀ t, u.chain t = { s.chain t with
          list := (s.chain t).list.filter fun p => decide ((clamped.station (stationAt t p)).count ≠ 0) }) ∧
        (∀ g : DeskId, startsGroup clamped g = true →
          u.board.timeouts[g] = (clamped.desks[g]).timeout ∧ u.board.pointers[g] = g) ∧
        (∀ e : DeskId, (u.board.desks[e]).onDuty = (s.board.desks[e]).onDuty ∧
          (u.board.desks[e]).unresponsive = (s.board.desks[e]).unresponsive ∧
          (u.board.desks[e]).absence = (s.board.desks[e]).absence) ∧
        (∀ t, (u.trunk t).state = (s.trunk t).state) ∧
        (s.faults.Sound →
          (∀ r ∈ u.faults.records,
            let e := clamped.station r.station
            let entry := clamped.circuit (circuitFor clamped r.asset)
            e.count ≠ 0 ∧ e.owns r.asset = true ∧ e.kind = some r.kind ∧ entry.invalid = false ∧ entry.fold = false ∧
            r.circuit = circuitFor clamped r.asset ∧
            (r.state = .suspect → r.confirms < clamped.params.threshold r.kind)) ∧
          ∀ r ∈ s.faults.records,
            let e := clamped.station r.station
            let entry := clamped.circuit (circuitFor clamped r.asset)
            e.count ≠ 0 → e.owns r.asset = true → e.kind = some r.kind → entry.invalid = false → entry.fold = false →
            r.circuit = circuitFor clamped r.asset →
            (r.state = .suspect → r.confirms < clamped.params.threshold r.kind) →
            ∃ underOp, u.faults.find r.asset = some { r with underOp }) ∧
        (s.board.Arranged →
          (∀ i x, v.board.incident i = some x → x.live = true →
            let tau := tauOf u.setup x.subject
            let k := (s.setup.time - x.openedAt) / 60 / tau
            startsGroup clamped x.group = true ∧ x.urgency = urgencyOf (urgencyInputs u.setup x) ∧
            v.board.aging.find i =
              if tau = 0 ∨ 30 ≤ k then none else some ⟨x.openedAt + 60 * tau * (k + 1), k + 1⟩) ∧
          (∀ i x, s.board.incident i = some x → x.live = true → subjectGone u.setup x.subject = true →
            ∃ y, v.board.incident i = some y ∧ y.state = .closed ∧ y.subject = x.subject) ∧
          (∀ i x, s.board.incident i = some x → x.live = true → subjectGone u.setup x.subject = false →
            x.isCircuit = false ∨ s.faults.records = [] →
            ∃ y, v.board.incident i = some y ∧ y.group = (adoptIncident u.setup s.setup.active x).group ∧
              y.subject = x.subject ∧ y.openedAt = x.openedAt ∧ y.rounds = x.rounds ∧ y.tripped = x.tripped ∧
              y.unrecorded = x.unrecorded ∧ y.assigned = x.assigned) ∧
          (∀ (e : DeskId) o, (v.board.desks[e]).slot = some o →
            ∃ x, v.board.incident o.incident = some x ∧ inGroup clamped x.group e = true)))) ∧
  (∀ (c : Setup) (b : Board), b.runAll c =
    (allDesks.filter fun g => startsGroup c.active g).foldl (fun b g => b.run c g) b) ∧
  (∀ s : State, s.adoptOps = (fins 32).foldl (fun v k => match v.field.ops.find k with
    | some x =>
      if (v.roster x.station).count = 0 ∨ (v.roster x.station).owns x.asset = false ∨
          (x.kind = .cycle ∧ (v.roster x.station).kind = some .loop) ∨
          (x.kind = .sweep ∧ (v.roster x.station).kind ≠ some .loop) then
        v.endOp k .lostReconfigured .none .none
      else v
    | none => v) s) ∧
  (∀ (r : FaultRecord) (s : State),
    let e := s.roster r.station
    let circuit := circuitFor s.setup.active r.asset
    let entry := s.setup.active.circuit circuit
    let gone := s.onFaults (Faults.remove r.asset)
    let dropped := if r.state = .suspect then gone else gone.leaveRecord r
    let fits := e.count ≠ 0 ∧ e.owns r.asset = true ∧ e.kind = some r.kind
    (¬fits → s.reexamine r = dropped) ∧
    (fits →
      (entry.invalid = true → s.reexamine r = { dropped with error :=
        ⟨.trunk .invalidCircuit, .position (stationTrunk r.station) ((stationPosition r.station).val + 1),
          some s.setup.time, (s.error.writes + 1) % 65536⟩ }) ∧
      (entry.invalid = false → entry.fold = true →
        (r.state = .confirmed → s.reexamine r = dropped.onBoard fun c b => b.countUp c circuit r.kind) ∧
        (r.state ≠ .confirmed → s.reexamine r = dropped)) ∧
      (entry.invalid = false → entry.fold = false →
        (r.state = .suspect →
          (r.confirms < s.setup.active.params.threshold r.kind →
            s.reexamine r = s.onFaults (Faults.write { r with circuit })) ∧
          (s.setup.active.params.threshold r.kind ≤ r.confirms → s.reexamine r = s.joinRecord
            { r with circuit, state := .confirmed, confirmedAt := some s.setup.time, timer := .none })) ∧
        (r.state ≠ .suspect →
          (circuit = r.circuit → s.reexamine r = s.onFaults (Faults.write r)) ∧
          (circuit ≠ r.circuit → s.reexamine r = (s.leaveRecord r).joinRecord { r with circuit }))))) ∧
  (∀ (c : Setup) (old : Settings) (x : Incident),
    let home := homeGroup c.active x.subject x.tripped
    let stays := home = homeGroup old x.subject x.tripped ∨ home = x.group
    let moved (g : DeskId) : Incident :=
      { x with group := g, declined := 0, state := if x.state = .offered then .opened else x.state }
    (∀ n, x.subject = .station n → (subjectGone c x.subject = true ↔ (c.active.station n).count = 0)) ∧
    (∀ t, x.subject = .trunk t → (subjectGone c x.subject = true ↔
      ∀ p : Position, (c.active.station (stationAt t p)).count = 0)) ∧
    (x.isCircuit = true → subjectGone c x.subject = false) ∧
    (subjectGone c x.subject = true → adoptIncident c old x =
      { x with state := .closed, closedAt := some c.time, closeDelay := none }) ∧
    (subjectGone c x.subject = false →
      (stays → startsGroup c.active x.group = true → adoptIncident c old x = x) ∧
      (stays → startsGroup c.active x.group = false →
        adoptIncident c old x = moved (groupStart c.active x.group)) ∧
      (¬stays → startsGroup c.active home = true → adoptIncident c old x = moved home))) ∧
  ∀ (c : Setup) (b : Board), b.Arranged → ∀ (d : DeskId) (o : Offer) (x : Incident),
    (b.desks[d]).slot = some o → b.incident o.incident = some x →
    let b' := b.withdrawStrays c
    let change := (b.change o.incident + 1) % 65536
    (inGroup c.active x.group d = true →
      b'.desks[d] = b.desks[d] ∧ b'.links[d] = b.links[d] ∧ b'.record o.incident = b.record o.incident) ∧
    (inGroup c.active x.group d = false →
      b'.desks[d] = { b.desks[d] with slot := none, lastWithdrawn := some o.incident } ∧
      b'.record o.incident = ⟨change, some { x with state := .opened }⟩ ∧ o.incident ∈ b'.queues[x.group] ∧
      b'.links[d] = (b.links[d]).take (.withdrawn o.incident change .rerouted))

/-- The four clamps: every value in its range, the bounds non-decreasing up to 65535, no two ranges of non-VACANT entries
overlapping, and every circuit's groups the starts of groups; and what each clamp keeps and makes: a value in range is
kept and one out of range takes the nearer end, a bound below its predecessor's takes the predecessor's, a range that
overlaps earlier ones begins above the highest of them or goes, a group goes to the start of the group that has its
desk, and every other field is kept. The first asset of an entry that truncation makes VACANT is log entry 12. -/
def Obligations.ClampsHold : Prop :=
  ∀ a : Settings, a.Bounded → (∀ n, (a.station n).first ≤ 65535) →
    let b := clampAll a
    b.Bounded ∧
    (∀ c c' : CircuitId, c ≤ c' → (b.circuit c).bound ≤ (b.circuit c').bound) ∧
    (∀ c, (b.circuit c).trip ≤ 64 ∧ (b.circuit c).tau ≤ 60 ∧
      (∃ g : DeskId, (b.circuit c).group = g.val ∧ startsGroup b g = true) ∧
      ∀ k, (b.circuit c).alternate = some k → ∃ g : DeskId, k = g.val ∧ startsGroup b g = true) ∧
    (∀ n, 10 ≤ (b.station n).interval ∧ (b.station n).interval ≤ 3600 ∧ 1 ≤ (b.station n).allowance ∧
      (b.station n).allowance ≤ 8 ∧ 1 ≤ (b.station n).sleepLimit ∧ (b.station n).sleepLimit ≤ 9 ∧
      (b.station n).count ≤ 256 ∧ (b.station n).first + (b.station n).count ≤ 65536) ∧
    (∀ n m x, (b.station n).owns x = true → (b.station m).owns x = true → n = m) ∧
    (∀ d : DeskId, 1 ≤ (b.desks[d]).limit ∧ (b.desks[d]).limit ≤ 32 ∧ 5 ≤ (b.desks[d]).timeout ∧
      (b.desks[d]).timeout ≤ 255) ∧
    (1 ≤ b.params.lampThreshold ∧ b.params.lampThreshold ≤ 15 ∧ 1 ≤ b.params.loopThreshold ∧
      b.params.loopThreshold ≤ 15 ∧ 1 ≤ b.params.signThreshold ∧ b.params.signThreshold ≤ 15 ∧
      b.params.confirmWindow ≤ 600 ∧ b.params.restoreHold ≤ 3600 ∧ b.params.closeDelay ≤ 3600 ∧
      1 ≤ b.params.trunkRetry ∧ b.params.trunkRetry ≤ 255 ∧ b.params.absenceGrace ≤ 600 ∧
      1 ≤ b.params.sweepStart ∧ b.params.sweepStart ≤ 15 ∧ 1 ≤ b.params.sweepMargin ∧ b.params.sweepMargin ≤ 4 ∧
      1 ≤ b.params.cycleOffTime ∧ b.params.cycleOffTime ≤ 30) ∧
    (∀ p k, (b.scales.of p).of k ≤ 32) ∧
    b.params = { a.params with
      lampThreshold := max 1 (min 15 a.params.lampThreshold), loopThreshold := max 1 (min 15 a.params.loopThreshold)
      signThreshold := max 1 (min 15 a.params.signThreshold), confirmWindow := min 600 a.params.confirmWindow
      restoreHold := min 3600 a.params.restoreHold, closeDelay := min 3600 a.params.closeDelay
      trunkRetry := max 1 (min 255 a.params.trunkRetry), absenceGrace := min 600 a.params.absenceGrace
      sweepStart := max 1 (min 15 a.params.sweepStart), sweepMargin := max 1 (min 4 a.params.sweepMargin)
      cycleOffTime := max 1 (min 30 a.params.cycleOffTime) } ∧
    (∀ p k, (b.scales.of p).of k = min 32 ((a.scales.of p).of k)) ∧
    (∀ d : DeskId, b.desks[d] = { a.desks[d] with
      limit := max 1 (min 32 (a.desks[d]).limit), timeout := max 5 (min 255 (a.desks[d]).timeout) }) ∧
    (∀ d : DeskId, startsGroup b d = true ↔ d = 0 ∨ (a.desks[d]).continues = false) ∧
    (b.circuit 0).bound = (a.circuit 0).bound ∧
    (∀ c c' : CircuitId, c'.val = c.val + 1 → (b.circuit c').bound = max (a.circuit c').bound (b.circuit c).bound) ∧
    (∀ c,
      let x := a.circuit c
      let y := b.circuit c
      let starts (v w : Nat) : Prop := ∃ g : DeskId, w = g.val ∧ startsGroup b g = true ∧ g.val ≤ min 5 v ∧
        ∀ h : DeskId, startsGroup b h = true → h.val ≤ min 5 v → h ≤ g
      y = { x with
        bound := y.bound, group := y.group, alternate := y.alternate, trip := min 64 x.trip, tau := min 60 x.tau } ∧
      starts x.group y.group ∧ (x.alternate = none → y.alternate = none) ∧
      ∀ k, x.alternate = some k → ∃ m, y.alternate = some m ∧ starts k m) ∧
    ∀ n,
      let x := a.station n
      let y := b.station n
      let count := min (min 256 x.count) (65536 - x.first)
      let last := x.first + count - 1
      let top (m : StationId) : Nat := (b.station m).first + (b.station m).count - 1
      let hits (m : StationId) : Prop :=
        m < n ∧ (b.station m).count ≠ 0 ∧ (b.station m).first ≤ last ∧ x.first ≤ top m
      y = { x with
        first := y.first, count := y.count, interval := max 10 (min 3600 x.interval)
        allowance := max 1 (min 8 x.allowance), sleepLimit := max 1 (min 9 x.sleepLimit) } ∧
      (count = 0 ∨ (∀ m, ¬hits m) → y.first = x.first ∧ y.count = count) ∧
      ∀ m, count ≠ 0 → hits m → (∀ k, hits k → top k ≤ top m) →
        (top m < last → y.first = top m + 1 ∧ y.count = last - top m) ∧
        (last ≤ top m → y.count = 0 ∧ y.first = if top m < 65535 then top m + 1 else x.first)

/-! ## Offers and runs -/

/-- Which desks are eligible; what one offer makes of the board; which offer a run makes next, of the first incident of the
queue offerable to the desk, to the first desk after the pointer, in round-robin order, that is eligible and has one; that a
run is those offers one after the other; which groups an event runs: those in whose queue it has put an incident, or moved one
by its urgency, which the board counts (log entry 43; IncidentEvent says when), and those of a desk whose slot has emptied, whose assigned count has gone down, whose duty has become ON or whose
unresponsive flag has cleared (at an adoption every group is run: AdoptTakesClampedShadow); and what the end of an event
leaves: no desk of a group that has been run is eligible while an incident of its queue is offerable to it, and the
pointer and queue of a group that is not run are as they were. -/
def Obligations.OffersAndRuns : Prop :=
  (∀ (a : Settings) (b : Board) (d : DeskId), eligible a b d = true ↔
    (b.links[d]).up = true ∧ (b.desks[d]).onDuty = true ∧ (b.desks[d]).unresponsive = false ∧ (b.desks[d]).slot = none ∧
      (b.desks[d]).assigned < (a.desks[d]).limit) ∧
  (∀ (c : Setup) (g d : DeskId) (i : IncidentId) (x : Incident) (b : Board),
    b.incident i = some x → x.state = .opened →
    let b' := b.makeOffer c g d i x
    let deadline := c.time + b.timeouts[g]
    let change := (b.change i + 1) % 65536
    b'.record i = ⟨change, some { x with state := .offered }⟩ ∧ (∀ j, j ≠ i → b'.record j = b.record j) ∧
    i ∉ b'.queues[x.group] ∧ (∀ (g' : DeskId) j, j ≠ i → (j ∈ b'.queues[g'] ↔ j ∈ b.queues[g'])) ∧
    b'.desks = b.desks.set d { b.desks[d] with slot := some ⟨i, deadline⟩ } ∧
    b'.pointers = b.pointers.set g d ∧ b'.aging = b.aging ∧ b'.timeouts = b.timeouts ∧ b'.stirs = b.stirs ∧
    b'.links = b.links.set d ((b.links[d]).take (.offer i change x.urgency deadline))) ∧
  (∀ (a : Settings) (b : Board) (g : DeskId),
    let offerable (d : DeskId) (i : IncidentId) : Prop :=
      ∃ x, b.incident i = some x ∧ x.declined.getLsbD d.val = false
    let ready (d : DeskId) : Prop :=
      inGroup a g d = true ∧ eligible a b d = true ∧ ∃ i ∈ b.queues[g], offerable d i
    let turn (d : DeskId) : Nat := (d.val + 5 - (b.pointers[g]).val) % 6
    (nextOffer a b g = none ↔ ∀ d, ¬ready d) ∧
    ∀ d i x, nextOffer a b g = some (d, i, x) →
      ready d ∧ (∀ e, ready e → turn d ≤ turn e) ∧ b.incident i = some x ∧ x.declined.getLsbD d.val = false ∧
      ∃ front rest, b.queues[g] = front ++ i :: rest ∧ ∀ j ∈ front, ¬offerable d j) ∧
  (∀ (c : Setup) (b : Board) (g : DeskId),
    (nextOffer c.active b g = none → b.run c g = b) ∧
    (∀ d i x, nextOffer c.active b g = some (d, i, x) → b.run c g = (b.makeOffer c g d i x).run c g) ∧
    nextOffer c.active (b.run c g) g = none) ∧
  (∀ (c : Setup) (before after : Board) (g : DeskId), runDue c before after g = true ↔
    startsGroup c.active g = true ∧
      (before.stirs[g] < after.stirs[g] ∨
        ∃ d : DeskId, inGroup c.active g d = true ∧
          (((before.desks[d]).slot ≠ none ∧ (after.desks[d]).slot = none) ∨
            (after.desks[d]).assigned < (before.desks[d]).assigned ∨
            ((before.desks[d]).onDuty = false ∧ (after.desks[d]).onDuty = true) ∨
            ((before.desks[d]).unresponsive = true ∧ (after.desks[d]).unresponsive = false)))) ∧
  ∀ (s u : State) (g : DeskId),
    let t := s.conclude u
    (runDue u.setup s.board u.board g = true → nextOffer u.setup.active t.board g = none) ∧
    (runDue u.setup s.board u.board g = false → t.board.pointers[g] = u.board.pointers[g] ∧
      (u.board.QueuesOwn → t.board.queues[g] = u.board.queues[g]))

/-- What one event on an incident makes of the board: the record and its change number, the queues, and the count by which
R85 runs the group of an incident that enters its queue or changes its urgency there (log entry 43); the aging schedule and
the holder's count at closing, an offer taken away, and the notices; and what a desk's link makes of a notice. -/
def Obligations.IncidentEvent : Prop :=
  (∀ (n : Notice) (l : Link),
    (l.up = true → l.notices.length < 16 → l.take n = { l with notices := l.notices ++ [n] }) ∧
    (l.up = false ∨ 16 ≤ l.notices.length →
      l.take n = { l with overflow := if l.overflow < 255 then l.overflow + 1 else 255, attention := true })) ∧
  ∀ (o : Origin) (i : IncidentId) (new : Incident) (b : Board),
    let b' := b.commit o i new
    let old := b.incident i
    let change := (b.change i + 1) % 65536
    let was := old.map (·.state)
    (old = some new → b' = b) ∧
    (old ≠ some new →
      b'.record i = ⟨change, some new⟩ ∧ (∀ j, j ≠ i → b'.record j = b.record j) ∧
      b'.pointers = b.pointers ∧ b'.timeouts = b.timeouts ∧
      (∀ (g : DeskId) j, j ≠ i → (j ∈ b'.queues[g] ↔ j ∈ b.queues[g])) ∧
      (was ≠ some .opened → new.state = .opened → i ∈ b'.queues[new.group]) ∧
      (∀ x, old = some x → x.state = .opened → new.state ≠ .opened → i ∉ b'.queues[x.group]) ∧
      (∀ g : DeskId,
        let stood := ∃ x, old = some x ∧ x.state = .opened ∧ x.group = g ∧ x.urgency = new.urgency
        (new.state = .opened → new.group = g → ¬stood → b'.stirs[g] = b.stirs[g] + 1) ∧
        (new.state ≠ .opened ∨ new.group ≠ g ∨ stood → b'.stirs[g] = b.stirs[g])) ∧
      (new.state ≠ .closed ∨ was = some .closed → b'.aging = b.aging) ∧
      (new.state = .closed → was ≠ some .closed → b'.aging = b.aging.erase i) ∧
      ∀ d : DeskId,
        let lowered := decide (new.state = .closed ∧ was ≠ some .closed ∧ new.assigned = some d)
        let withdrawn := decide (o = .table ∧ was = some .offered ∧ new.state ≠ .offered ∧
          (b.desks[d]).slot.map (·.incident) = some i)
        let notice : Option Notice :=
          if o = .table ∧ new.assigned = some d then
            (match new.state with
            | .closed => some (.closed i change)
            | .restored => if was = some .restored then some (.changed i change) else some (.restored i change)
            | .assigned => some (.changed i change)
            | _ => none)
          else none
        let x := if lowered = true then { b.desks[d] with assigned := (b.desks[d]).assigned - 1 } else b.desks[d]
        let l := if withdrawn = true then
            (b.links[d]).take (.withdrawn i change (match new.state with
              | .closed => .closed
              | .restored => .restored
              | _ => .rerouted))
          else b.links[d]
        b'.desks[d] = (if withdrawn = true then { x with slot := none, lastWithdrawn := some i } else x) ∧
        b'.links[d] = (match notice with
          | some n => l.take n
          | none => l))

/-- What a join, a leave, a change of condition and the two counts make of an incident; which incident a fault record
joins or an unrecorded fault counts on, the live one of its circuit or a new one in the lowest FREE place or else the
oldest CLOSED one, which a record leaves, and whose member changes; and what a station's or a trunk's fault and its end
make of the incident of that subject. The table of condition weights, the home group of each subject, and what the end of a
subject's fault makes of its incident. -/
def Obligations.HandoffsMoveIncidents : Prop :=
  (∀ pair ∈ [(Condition.out, 16), (.degraded, 8), (.cycling, 24), (.loopOpen, 48), (.loopShort, 48), (.drift, 16),
    (.stuckOn, 64), (.dark, 40), (.pixel, 8), (.comms, 24), (.silent, 80), (.trunkDown, 120)], pair.1.weight = pair.2) ∧
  (∀ (a : Settings) (tripped : Bool),
    (∀ n : Nat, (groupOf n).val = min 5 n) ∧
    (∀ k g, tripped = true → (a.circuit k).alternate = some g → homeGroup a (.circuit k) tripped = groupOf g) ∧
    (∀ k, tripped = false ∨ (a.circuit k).alternate = none →
      homeGroup a (.circuit k) tripped = groupOf (a.circuit k).group) ∧
    (∀ n, homeGroup a (.station n) tripped = groupOf (a.circuit (circuitFor a (a.station n).first)).group) ∧
    ∀ t, homeGroup a (.trunk t) tripped = 0) ∧
  (∀ (c : Setup) (x : Incident),
    let delay := c.active.params.closeDelay
    let y := restoreNow c x
    let urgency := urgencyOf (urgencyInputs c x)
    (delay ≠ 0 → y = { x with
      state := .restored, restoredAt := some c.time, closeDelay := some (c.time + delay), urgency }) ∧
    (delay = 0 → y = { x with
      state := .closed, restoredAt := some c.time, closeDelay := none, closedAt := some c.time, urgency })) ∧
  (∀ (r : FaultRecord) (s : State),
    let m : Member :=
      { asset := r.asset, kind := r.kind, condition := r.condition, confirmedAt := r.confirmedAt.getD r.firstSeen
        stale := r.stale, underOp := s.faults.marked r.asset }
    let tau := (s.setup.active.circuit r.circuit).tau
    let first := circuitOpened s.setup r.circuit r.kind.cls
    (∀ i x, s.board.liveOf (.circuit r.circuit) = some (i, x) → s.joinRecord r = { s with
      board := s.board.commit .table i (joined s.setup r.circuit m x)
      faults := s.faults.write { r with incident := some i } }) ∧
    (∀ i, s.board.liveOf (.circuit r.circuit) = none → s.board.freshRecord = some i →
      let b := s.board.commit .table i (joined s.setup r.circuit m first)
      s.joinRecord r = { s with
        board := { b with aging := if tau = 0 then b.aging.erase i
                                   else b.aging.put i ⟨s.setup.time + 60 * tau, 1⟩ }
        faults := s.faults.write { r with incident := some i } }) ∧
    (r.incident = none → s.leaveRecord r = s ∧ s.conditionHandoff r = s) ∧
    ∀ i x, r.incident = some i → s.board.incident i = some x →
      s.leaveRecord r = { s with board := s.board.commit .table i (left s.setup r.asset x) } ∧
      s.conditionHandoff r =
        { s with board := s.board.commit .table i (conditionChanged s.setup r.asset r.condition x) }) ∧
  (∀ b : Board, b.Arranged →
    (∀ subject i x, b.liveOf subject = some (i, x) ↔ b.incident i = some x ∧ x.subject = subject ∧ x.live = true) ∧
    (∀ i, b.freshRecord = some i ↔
      ((b.incident i = none ∧ ∀ j, j < i → b.incident j ≠ none) ∨
        ((∀ j, b.incident j ≠ none) ∧ ∃ x, b.incident i = some x ∧ x.state = .closed ∧
          ∀ j y, b.incident j = some y → y.state = .closed → j ≠ i →
            x.closedAt.getD 0 < y.closedAt.getD 0 ∨ (x.closedAt.getD 0 = y.closedAt.getD 0 ∧ i < j))))) ∧
  (∀ (c : Setup) (asset : Nat) (condition : Condition) (x : Incident),
    let y := conditionChanged c asset condition x
    y.members = (x.members.map fun m => if m.asset = asset then { m with condition } else m) ∧
    (x.members ≠ [] → y.Ranked) ∧
    (y.worst = x.worst → y.cls = x.cls → y.urgency = x.urgency) ∧
    (y.worst ≠ x.worst ∨ y.cls ≠ x.cls → y.urgency = urgencyOf (urgencyInputs c y)) ∧
    { y with members := x.members, worst := x.worst, cls := x.cls, urgency := x.urgency } = x) ∧
  (∀ (c : Setup) (k : CircuitId) (m : Member) (x : Incident),
    let y := joined c k m x
    (∃ front rest, x.members = front ++ rest ∧ y.members = front ++ m :: rest ∧
      (∀ n ∈ front, n.confirmedAt ≤ m.confirmedAt) ∧ (∀ n ∈ rest.head?, m.confirmedAt < n.confirmedAt)) ∧
    (x.members.Pairwise (fun n n' => n.confirmedAt ≤ n'.confirmedAt) →
      y.members.Pairwise fun n n' => n.confirmedAt ≤ n'.confirmedAt) ∧
    y.unrecorded = x.unrecorded ∧ y.urgency = urgencyOf (urgencyInputs c y) ∧ y.Ranked ∧
    Stirred c k (x.members.length + 1 + x.unrecorded) x y) ∧
  (∀ (c : Setup) (asset : Nat) (x : Incident),
    let y := left c asset x
    let rest := x.members.filter fun m => decide (m.asset ≠ asset)
    y.members = rest ∧ y.unrecorded = x.unrecorded ∧ y.group = x.group ∧ y.assigned = x.assigned ∧
    y.tripped = x.tripped ∧ y.urgency = urgencyOf (urgencyInputs c y) ∧
    (rest ≠ [] → y.Ranked) ∧ (rest = [] → y.worst = none ∧ y.cls = x.cls) ∧
    (rest ≠ [] ∨ 0 < x.unrecorded ∨ x.isCircuit = false ∨ x.atFault = false →
      { y with members := x.members, worst := x.worst, cls := x.cls, urgency := x.urgency } = x) ∧
    (rest = [] → x.unrecorded = 0 → x.isCircuit = true → x.atFault = true →
      y.restoredAt = some c.time ∧
      (c.active.params.closeDelay = 0 → y.state = .closed ∧ y.closedAt = some c.time) ∧
      (c.active.params.closeDelay ≠ 0 →
        y.state = .restored ∧ y.closeDelay = some (c.time + c.active.params.closeDelay)))) ∧
  (∀ (c : Setup) (k : CircuitId) (x : Incident),
    (65535 ≤ x.unrecorded → counted c k x = x) ∧
    (x.unrecorded < 65535 →
      let y := counted c k x
      y.unrecorded = x.unrecorded + 1 ∧ y.members = x.members ∧ y.worst = x.worst ∧ y.cls = x.cls ∧
      y.urgency = urgencyOf (urgencyInputs c y) ∧ Stirred c k (x.members.length + (x.unrecorded + 1)) x y) ∧
    (x.atFault = false ∨ x.unrecorded = 0 → uncounted c x = x) ∧
    (x.atFault = true → 0 < x.unrecorded →
      let y := uncounted c x
      let delay := c.active.params.closeDelay
      y.urgency = urgencyOf (urgencyInputs c y) ∧
      (x.members ≠ [] ∨ 1 < x.unrecorded →
        y = { x with unrecorded := x.unrecorded - 1, urgency := y.urgency }) ∧
      (x.members = [] → x.unrecorded = 1 →
        (delay ≠ 0 → y = { x with
          unrecorded := 0, urgency := y.urgency, state := .restored, restoredAt := some c.time
          closeDelay := some (c.time + delay) }) ∧
        (delay = 0 → y = { x with
          unrecorded := 0, urgency := y.urgency, state := .closed, restoredAt := some c.time, closeDelay := none
          closedAt := some c.time })))) ∧
  (∀ (c : Setup) (k : CircuitId) (kind : Kind) (b : Board),
    let tau := (c.active.circuit k).tau
    (∀ i x, b.liveOf (.circuit k) = some (i, x) →
      b.countUp c k kind = b.commit .table i (counted c k x) ∧ b.countDown c k = b.commit .table i (uncounted c x)) ∧
    (b.liveOf (.circuit k) = none → b.countDown c k = b ∧ ∀ i, b.freshRecord = some i →
      let b' := b.commit .table i (counted c k (circuitOpened c k kind.cls))
      b.countUp c k kind =
        { b' with aging := if tau = 0 then b'.aging.erase i else b'.aging.put i ⟨c.time + 60 * tau, 1⟩ })) ∧
  ∀ (c : Setup) (subject : Subject) (worst : Condition) (b : Board),
    (b.liveOf subject = none → Board.restoreOf c subject b = b ∧
      ∀ i, b.freshRecord = some i → ∃ x, (Board.faultOf c subject worst b).incident i = some x ∧
        InfraOpened c subject worst x) ∧
    ∀ i x, b.liveOf subject = some (i, x) →
      (x.state ≠ .restored → Board.faultOf c subject worst b = b) ∧
      (x.state = .restored → Board.faultOf c subject worst b = b.commit .table i (reweigh c { x with
        closeDelay := none, restoredAt := none, state := if x.assigned = none then .opened else .assigned })) ∧
      (x.atFault = false → Board.restoreOf c subject b = b) ∧
      (x.atFault = true → Board.restoreOf c subject b = b.commit .table i (restoreNow c x))

/-! ## Timers of the fault picture, the incidents and the desks -/

/-- CLOSE_DELAY_EXPIRY, AGING_BOUNDARY, OFFER_EXPIRY and ABSENCE_EXPIRY when they are due. At the last the desk's
incidents are released, each ASSIGNED one to its group's queue, and a RELEASED notice with the new change number is made
for each, by rising index, which the desk's link, DOWN, discards and counts (its overflow count is at most 255: LinksKept). -/
def Obligations.BoardTimers : Prop :=
  ∀ s : State,
    (∀ i x e, s.board.incident i = some x → x.state = .restored → x.closeDelay = some e → e ≤ s.setup.time →
      Does (.closeDelayExpiry i) s (s.onBoard fun c b => b.commit .table i
        { x with state := .closed, closedAt := some c.time, closeDelay := none })) ∧
    (∀ i x y, s.board.aging.find i = some y → y.due ≤ s.setup.time → s.board.incident i = some x → x.live = true →
      let tau := tauOf s.setup x.subject
      Does (.agingBoundary i) s (s.onBoard fun c b =>
        let b' := b.commit .table i { x with urgency := urgencyOf (urgencyInputs c x) }
        if tau = 0 ∨ 30 ≤ y.k then { b' with aging := b'.aging.erase i }
        else { b' with aging := b'.aging.put i ⟨x.openedAt + 60 * tau * (y.k + 1), y.k + 1⟩ })) ∧
    (∀ d o x, (s.board.desks[d]).slot = some o → o.deadline ≤ s.setup.time → s.board.incident o.incident = some x →
      x.state = .offered →
      Does (.offerExpiry d) s (((s.onBoard fun c b => b.declineOffer c d o.incident).updDesk d fun y =>
        { y with unresponsive := true, lastWithdrawn := some o.incident }).updLink d fun l =>
          l.take (.withdrawn o.incident ((s.board.change o.incident + 1) % 65536) .expired))) ∧
    ∀ (d : DeskId) e, (s.board.desks[d]).absence = some e → e ≤ s.setup.time →
      Does (.absenceExpiry d) s (s.onBoard fun _ b => b.expireAbsence d) ∧
      let b' := s.board.expireAbsence d
      b'.desks[d] = { s.board.desks[d] with assigned := 0, absence := none } ∧
      (∀ d', d' ≠ d → b'.desks[d'] = s.board.desks[d'] ∧ b'.links[d'] = s.board.links[d']) ∧
      (∀ i x, s.board.incident i = some x → b'.incident i = some (
        if x.assigned = some d ∧ x.state = .assigned then { x with state := .opened, assigned := none }
        else if x.assigned = some d ∧ x.state = .restored then { x with assigned := none }
        else x)) ∧
      (∀ i x, s.board.incident i = some x → x.assigned = some d → x.state = .assigned → i ∈ b'.queues[x.group]) ∧
      ∃ held : List IncidentId,
        (∀ i, i ∈ held ↔ ∃ x, s.board.incident i = some x ∧ x.assigned = some d ∧
          (x.state = .assigned ∨ x.state = .restored)) ∧
        (s.board.incidents.rising = true → held.Pairwise (· < ·)) ∧
        (∀ i, b'.change i = if i ∈ held then (s.board.change i + 1) % 65536 else s.board.change i) ∧
        b'.links[d] = held.foldl (fun l i => l.take (.released i ((s.board.change i + 1) % 65536))) s.board.links[d] ∧
        ((s.board.links[d]).up = false → (s.board.links[d]).overflow ≤ 255 → b'.links[d] =
          { s.board.links[d] with
            overflow := min 255 ((s.board.links[d]).overflow + held.length)
            attention := (s.board.links[d]).attention || decide (held ≠ []) })

/-- INTERVAL_EXPIRY: an ACTIVE station pays one unit or, at its floor, becomes SILENT; an ASLEEP one counts a sleep or, at
its span, wakes; and what becoming SILENT makes of the station, its records, its incident, which is opened where it has none
and reopened where it is RESTORED, its operation, which ends LOST with its notice (OperationsEnd says what an end does), and,
unless a census found it missing, of its trunk's chain, which takes a census trigger; what entering ACTIVE makes of them; and
how the stale flags of a station's records are set or cleared: record by record, by rising asset number (log entry 10), each
that changes with the mark change of its member. That the OP-DONE of an operation which a station entering SILENT ends
carries no outcome, that of a sweep in ENDING neither, is the model's choice (log entry 40). -/
def Obligations.IntervalExpiryDebitsOrWakes : Prop :=
  (∀ (n : StationId) (e : Nat) (s : State), (s.station n).nextExpiry = some e → e ≤ s.setup.time →
    let x := s.station n
    let r := s.roster n
    (x.mode = .active → x.hold.held = false → -(r.allowance : Int) < x.balance →
      Does (.intervalExpiry n) s (s.updStation n fun y =>
        { y with balance := y.balance - 1, nextExpiry := some (e + r.interval) })) ∧
    (x.mode = .active → x.hold.held = false → x.balance ≤ -(r.allowance : Int) →
      Does (.intervalExpiry n) s (s.enterSilent n true)) ∧
    (x.mode = .asleep → ∀ span, x.span = some span → x.sleepCount + 1 < span →
      Does (.intervalExpiry n) s (s.updStation n fun y =>
        { y with sleepCount := y.sleepCount + 1, nextExpiry := some (e + r.interval) })) ∧
    (x.mode = .asleep → ∀ span, x.span = some span → span ≤ x.sleepCount + 1 →
      Does (.intervalExpiry n) s ((s.updStation n fun y => { y with
        mode := .active, wakeExtra := true, sleepCount := 0, span := none
        nextExpiry := if x.hold.held = true then none else some (e + r.interval) }).nowActive n))) ∧
  (∀ (n : StationId) (trigger : Bool) (s : State),
    let x := s.station n
    let u := s.enterSilent n trigger
    let silent : Station := { x with
      mode := .silent, balance := -((s.roster n).allowance : Int), nextExpiry := none, wakeExtra := false
      sleepCount := 0, span := none }
    u.setup = s.setup ∧
    (s.field.OpsAgree → u.station n = { silent with op := none } ∧ ∀ m, m ≠ n → u.station m = s.station m) ∧
    (s.faults.Sound → ∀ r ∈ u.faults.records, r.station = n → r.stale = true) ∧
    (s.board.Arranged →
      ((∀ i y, s.board.incident i = some y → y.subject = .station n → y.live = false) →
        ∃ i y, s.board.freshRecord = some i ∧ u.board.incident i = some y ∧
          InfraOpened s.setup (.station n) .silent y) ∧
      ∀ i y, s.board.incident i = some y → y.subject = .station n → y.live = true →
        ∃ z, u.board.incident i = some z ∧ z.atFault = true ∧ z.subject = .station n ∧ z.openedAt = y.openedAt ∧
          z.assigned = y.assigned ∧ z.group = y.group ∧ z.state = y.reopenedState ∧
          (y.state = .restored → z.restoredAt = none ∧ z.closeDelay = none)) ∧
    ∃ v : State, v.setup = s.setup ∧ v.error = s.error ∧ v.field = s.field.setStation n silent ∧
      let w := match x.op with
        | some o => v.endOp o .lostStation .none .none
        | none => v
      u = if trigger = true then w.triggerCensus (stationTrunk n) else w) ∧
  (∀ (t : TrunkId) (s : State),
    let x := s.trunk t
    let c := s.chain t
    let busy := c.census ≠ none ∨ c.labelling ≠ none ∨ c.list ≠ []
    (x.state ≠ .running → s.triggerCensus t = s) ∧
    (x.state = .running →
      (busy → s.triggerCensus t = s.updChain t fun c => { c with again := true }) ∧
      (¬busy →
        (x.queue.length < 8 → s.triggerCensus t = (s.hand t ⟨255, .census⟩).updChain t fun c =>
          { c with census := some (s.setup.time + 4), again := false }) ∧
        (8 ≤ x.queue.length → s.triggerCensus t = (s.errorOn t .censusFailed (.trunk t)).updChain t fun c =>
          { c with again := false })))) ∧
  (∀ (n : StationId) (s : State),
    let u := s.nowActive n
    u.setup = s.setup ∧ u.field = s.field ∧ u.error = s.error ∧
    (s.faults.Sound → ∀ r ∈ u.faults.records, r.station = n → r.stale = false) ∧
    (s.board.Arranged → ∀ i x, s.board.incident i = some x → x.subject = .station n → x.atFault = true →
      ∃ y, u.board.incident i = some y ∧ y.restoredAt = some s.setup.time ∧
        y.state = if s.setup.active.params.closeDelay = 0 then .closed else .restored) ∧
    u = (s.setStale n false).onBoard fun c b => Board.restoreOf c (.station n) b) ∧
  ∀ (n : StationId) (stale : Bool) (s : State), s.faults.Sound →
    let u := s.setStale n stale
    u.setup = s.setup ∧ u.field = s.field ∧ u.error = s.error ∧
    u.faults.marks = s.faults.marks ∧ u.faults.dropped = s.faults.dropped ∧
    u.faults.records = (s.faults.records.map fun r => if r.station = n then { r with stale } else r) ∧
    ((∀ r ∈ s.faults.records, r.station = n → r.stale = stale) → u = s) ∧
    ∀ front r rest, s.faults.records = front ++ r :: rest → r.station = n → r.stale ≠ stale →
      (∀ q ∈ front, q.station = n → q.stale = stale) →
      let v : State := { s with faults := { s.faults with records := front ++ { r with stale } :: rest } }
      ((∀ i, r.incident = some i → s.board.incident i = none) → u = v.setStale n stale) ∧
      ∀ i y, r.incident = some i → s.board.incident i = some y →
        u = State.setStale n stale { v with board := s.board.commit .table i { y with members := y.members.map fun m =>
          if m.asset = r.asset then { m with stale, underOp := r.underOp } else m } }

/-! ## Reports -/

/-- CONFIRM_WINDOW_EXPIRY and RESTORE_HOLD_EXPIRY when they are due, and every change that a classified report makes in
the fault table (R22 to R33), where the asset's mark does not drop it; what a record written or removed makes of the table;
and the circuit of an asset. -/
def Obligations.ReportsMoveRecords : Prop :=
  (∀ (asset : Nat) (r : FaultRecord) (e : Nat) (s : State), asset ≤ 65535 → s.faults.find asset = some r →
    e ≤ s.setup.time →
    (r.timer = .running .confirmWindow e → r.state = .suspect →
      Does (.confirmWindowExpiry asset) s (s.joinRecord
        { r with state := .confirmed, confirmedAt := some s.setup.time, timer := .none })) ∧
    (r.timer = .running .restoreHold e → r.state = .restoring →
      Does (.restoreHoldExpiry asset) s ((s.onFaults (Faults.remove asset)).leaveRecord r))) ∧
  (∀ (r : Report) (s : State), s.faults.marked r.asset = true →
    s.takeReport r = { s with faults := { s.faults with dropped := saturate 65535 s.faults.dropped } }) ∧
  (∀ (r : Report) (s : State), s.faults.marked r.asset = false → s.takeReport r = s.applyReport r) ∧
  (∀ (r : Report) (s : State),
    let u := s.updStation r.station fun x => { x with applied := saturate 65535 x.applied }
    let counting : State :=
      if r.repeated = true then u
      else if r.condition = .ok then u.onBoard fun c b => b.countDown c r.circuit
      else u.onBoard fun c b => b.countUp c r.circuit r.kind
    (r.fold = true → s.applyReport r = counting) ∧
    (r.fold = false → s.faults.find r.asset = none →
      (r.condition = .ok ∨ r.repeated = true ∨ 2048 ≤ s.faults.records.length → s.applyReport r = counting) ∧
      (r.condition ≠ .ok → r.repeated = false → s.faults.records.length < 2048 →
        let window := s.setup.active.params.confirmWindow
        let x : FaultRecord :=
          { asset := r.asset, station := r.station, circuit := r.circuit, kind := r.kind, condition := r.condition
            state := .suspect, confirms := 1, flips := 0, firstSeen := s.setup.time, confirmedAt := none
            lastReport := s.setup.time, reports := 1
            timer := if window = 0 then .none else .running .confirmWindow (s.setup.time + window)
            stale := decide ((s.station r.station).mode = .silent ∨ (s.station r.station).mode = .unreached)
            underOp := s.faults.marked r.asset, incident := none }
        (1 < s.setup.active.params.threshold r.kind → s.applyReport r = u.onFaults (Faults.write x)) ∧
        (s.setup.active.params.threshold r.kind ≤ 1 → s.applyReport r = u.joinRecord
          { x with state := .confirmed, confirmedAt := some s.setup.time, timer := .none }))) ∧
    (r.fold = false → ∀ x, s.faults.find r.asset = some x →
      let y : FaultRecord := { x with lastReport := s.setup.time, reports := saturate 255 x.reports }
      let hold := s.setup.active.params.restoreHold
      let condition := if x.condition = .cycling then .cycling else r.condition
      (x.state = .suspect → r.condition = .ok →
        s.applyReport r = (u.onFaults (Faults.remove r.asset)).updStation x.station fun z =>
          { z with transients := saturate 65535 z.transients }) ∧
      (x.state = .suspect → r.condition ≠ .ok →
        let z : FaultRecord :=
          { y with confirms := saturate 15 x.confirms, condition := if r.repeated = true then x.condition else r.condition }
        (z.confirms < s.setup.active.params.threshold x.kind → s.applyReport r = u.onFaults (Faults.write z)) ∧
        (s.setup.active.params.threshold x.kind ≤ z.confirms → s.applyReport r = u.joinRecord
          { z with state := .confirmed, confirmedAt := some s.setup.time, timer := .none })) ∧
      (x.state = .confirmed → r.condition = .ok →
        (hold = 0 → s.applyReport r = (u.onFaults (Faults.remove r.asset)).leaveRecord y) ∧
        (hold ≠ 0 → s.applyReport r = u.onFaults (Faults.write
          { y with state := .restoring, timer := .running .restoreHold (s.setup.time + hold) }))) ∧
      (x.state = .confirmed → r.condition ≠ .ok →
        let z : FaultRecord := { y with condition }
        (condition = x.condition → s.applyReport r = u.onFaults (Faults.write z)) ∧
        (condition ≠ x.condition → s.applyReport r = (u.onFaults (Faults.write z)).conditionHandoff z)) ∧
      (x.state = .restoring → r.condition = .ok → s.applyReport r = u.onFaults (Faults.write y)) ∧
      (x.state = .restoring → r.condition ≠ .ok →
        let flips := saturate 3 x.flips
        let z : FaultRecord :=
          { y with
            state := .confirmed, timer := .none, flips
            condition := if x.kind = .lamp ∧ flips = 3 then .cycling else condition }
        (z.condition = x.condition → s.applyReport r = u.onFaults (Faults.write z)) ∧
        (z.condition ≠ x.condition → s.applyReport r = (u.onFaults (Faults.write z)).conditionHandoff z)))) ∧
  (∀ f : Faults, f.Sound → ∀ (r : FaultRecord) (asset k : Nat),
    (f.write r).find k = (if k = r.asset then some r else f.find k) ∧
    (f.remove asset).find k = (if k = asset then none else f.find k) ∧
    { f.write r with records := f.records } = f ∧ { f.remove asset with records := f.records } = f) ∧
  ∀ (a : Settings) (asset : Nat), a.Bounded → asset ≤ 65535 →
    asset ≤ (a.circuit (circuitFor a asset)).bound ∧
    ∀ c, c < circuitFor a asset → (a.circuit c).bound < asset

/-! ## Frames from stations -/

/-- ASSET_STATE: the four checks in order, then the hearing, the hold set and the circuit; the kinds and conditions that the
codes name, and the conditions reportable for a kind. -/
def Obligations.AssetStateChecksAndReports : Prop :=
  (∀ (t : TrunkId) (label a1 a0 kind condition flags : Byte) (more : List Byte) (s : State),
    (s.trunk t).buffer.head? = some (0x02#8 :: label :: a1 :: a0 :: kind :: condition :: flags :: more) →
    let asset := half a1 a0
    let dropped (e : TrunkError) : Prop :=
      Does (.assetState t) s ((s.take t).errorOn t e (.label t label.toNat))
    (label.toNat = 0 ∨ 24 < label.toNat → dropped .unknownLabel) ∧
    ∀ p : Position, label.toNat = p.val + 1 →
      let n := stationAt t p
      let r := s.roster n
      (r.count = 0 → dropped .unknownLabel) ∧
      (r.count ≠ 0 →
        (asset < r.first ∨ r.first + r.count ≤ asset → dropped .notOwned) ∧
        (r.first ≤ asset → asset < r.first + r.count →
          (r.kind = none ∨ kindOf kind ≠ r.kind → dropped .kindMismatch) ∧
          ∀ k, r.kind = some k → kindOf kind = some k →
            ((∀ c, conditionOf condition = some c → reportable k c = false) → dropped .badCondition) ∧
            ∀ c, conditionOf condition = some c → reportable k c = true →
              let u := (s.take t).hear n
              let circuit := circuitFor s.setup.active asset
              let entry := s.setup.active.circuit circuit
              ((s.station n).hold.held = true → Does (.assetState t) s
                (u.updStation n fun x => { x with droppedHeld := saturate 65535 x.droppedHeld })) ∧
              ((s.station n).hold.held = false →
                (entry.invalid = true → Does (.assetState t) s
                  (u.errorOn t .invalidCircuit (.position t (p.val + 1)))) ∧
                (entry.invalid = false → Does (.assetState t) s (u.takeReport
                  { asset, station := n, kind := k, condition := c, repeated := flags.getLsbD 0, circuit
                    fold := entry.fold })))))) ∧
  (∀ (b : Byte) (k : Kind), kindOf b = some k ↔ b.toNat = (match k with
    | .lamp => 1
    | .loop => 2
    | .sign => 3)) ∧
  (∀ (b : Byte) (c : Condition), conditionOf b = some c ↔ b.toNat = c.code) ∧
  ∀ (k : Kind) (c : Condition), reportable k c = true ↔ c ∈ (match k with
    | .lamp => [.ok, .out, .degraded]
    | .loop => [.ok, .loopOpen, .loopShort, .drift, .stuckOn]
    | .sign => [.ok, .dark, .pixel, .comms] : List Condition)

/-- CHECK_IN, SLEEP, BYPASS_ON and BYPASS_OFF: the screening, the hearing, and what each then does.  The hearing moves a
SILENT, PENDING or ASLEEP station to ACTIVE, which clears the stale flags of its records and restores its incident
(IntervalExpiryDebitsOrWakes says what entering ACTIVE does). -/
def Obligations.StationFrames : Prop :=
  (∀ (t : TrunkId) (label span : Byte) (more : List Byte) (s : State),
    let unknown := (s.take t).errorOn t .unknownLabel (.label t label.toNat)
    let checkIn := (s.trunk t).buffer.head? = some (0x01#8 :: label :: more)
    let sleep := (s.trunk t).buffer.head? = some (0x03#8 :: label :: span :: more)
    let bypassOn := (s.trunk t).buffer.head? = some (0x04#8 :: label :: more)
    let bypassOff := (s.trunk t).buffer.head? = some (0x05#8 :: label :: more)
    (label.toNat = 0 ∨ 24 < label.toNat ∨
        (∃ p : Position, label.toNat = p.val + 1 ∧ (s.roster (stationAt t p)).count = 0) →
      (checkIn → Does (.checkIn t) s unknown) ∧ (sleep → Does (.sleep t) s unknown) ∧
      (bypassOn → Does (.bypassOn t) s unknown) ∧ (bypassOff → Does (.bypassOff t) s unknown)) ∧
    ∀ p : Position, label.toNat = p.val + 1 → (s.roster (stationAt t p)).count ≠ 0 →
      let n := stationAt t p
      let x := s.station n
      let r := s.roster n
      let u := (s.take t).hear n
      let answers (f : Payload) : State := u.hand t ⟨p.val + 1, f⟩
      (checkIn →
        (x.mode = .active → x.hold.held = false → Does (.checkIn t) s
          (u.updStation n fun y => { y with balance := min 8 (y.balance + 1), wakeExtra := false })) ∧
        (x.mode ≠ .active ∨ x.hold.held = true → Does (.checkIn t) s u)) ∧
      (sleep →
        let y := u.station n
        let denied (k : Nat) : Prop := Does (.sleep t) s (answers (.sleepDeny k))
        (y.mode ≠ .active → denied 1) ∧
        (y.mode = .active →
          (y.hold.held = true → denied 2) ∧
          (y.hold.held = false →
            (y.balance < 0 → denied 3) ∧
            (0 ≤ y.balance →
              (y.wakeExtra = true → denied 4) ∧
              (y.wakeExtra = false →
                (y.op ≠ none → denied 5) ∧
                (y.op = none →
                  (span.toNat = 0 ∨ r.sleepLimit < span.toNat → denied 6) ∧
                  (1 ≤ span.toNat → span.toNat ≤ r.sleepLimit →
                    ((s.trunk t).state ≠ .running ∨ 8 ≤ (s.trunk t).queue.length → Does (.sleep t) s u) ∧
                    ((s.trunk t).state = .running → (s.trunk t).queue.length < 8 → Does (.sleep t) s
                      ((answers (.sleepGrant span.toNat)).updStation n fun z =>
                        { z with mode := .asleep, sleepCount := 0, span := some span.toNat }))))))))) ∧
      (bypassOn → Does (.bypassOn t) s (u.changeHold n fun h => { h with cabinet := true })) ∧
      (bypassOff → Does (.bypassOff t) s (u.changeHold n fun h => { h with cabinet := false }))) ∧
  ∀ (n : StationId) (s : State),
    let x := s.station n
    let u := s.hear n
    let next := if x.hold.held = true then none else some (s.setup.time + (s.roster n).interval)
    (∀ m, m ≠ n → u.station m = s.station m) ∧ u.field.trunks = s.field.trunks ∧ u.error = s.error ∧
    (x.mode = .active ∨ x.mode = .unreached ∨ x.mode = .vacant →
      u = s.updStation n fun y => { y with lastHeard := some s.setup.time }) ∧
    (x.mode = .silent ∨ x.mode = .pending →
      u.station n = { x with lastHeard := some s.setup.time, mode := .active, balance := 0, nextExpiry := next }) ∧
    (x.mode = .asleep → u.station n =
      { x with
        lastHeard := some s.setup.time, mode := .active, wakeExtra := true, sleepCount := 0, span := none
        nextExpiry := if x.hold.held = true then none else x.nextExpiry }) ∧
    (x.mode = .silent ∨ x.mode = .pending → u = (s.updStation n fun y =>
      { y with lastHeard := some s.setup.time, mode := .active, balance := 0, nextExpiry := next }).nowActive n) ∧
    (x.mode = .asleep → u = (s.updStation n fun y =>
      { y with
        lastHeard := some s.setup.time, mode := .active, wakeExtra := true, sleepCount := 0, span := none
        nextExpiry := if y.hold.held = true then none else y.nextExpiry }).nowActive n) ∧
    (x.mode = .silent ∨ x.mode = .pending ∨ x.mode = .asleep →
      (s.faults.Sound → u.faults.records = s.faults.records.map fun r =>
        if r.station = n then { r with stale := false } else r) ∧
      (s.board.Arranged → ∀ i y, s.board.incident i = some y → y.subject = .station n → y.atFault = true →
        ∃ z, u.board.incident i = some z ∧ z.restoredAt = some s.setup.time ∧
          z.state = if s.setup.active.params.closeDelay = 0 then .closed else .restored))

/-- LABEL_ACK, CENSUS_RETURN and NO_TAKER, how the entries of a census are read (log entry 34 for a return that ends between
two), and what a labelling and one census outcome make of a station: one found or labelled that was not ACTIVE enters ACTIVE
(IntervalExpiryDebitsOrWakes), and the change of its hold set then acts as HOLD's and UNHOLD's does
(HoldAndUnholdChangeHoldSet). What the end of a labelling and of a census then brings is said by TrunkDeadlines. Some of its
clauses rest on the log: a LABEL_ACK at a position that is VACANT by then (log entry 15), the fields that a PENDING station
keeps (log entry 16), a NO_TAKER for SET-LEVEL (log entry 17) and the identity kept as received (log entry 18). That the
OP-DONE of an operation which a NO_TAKER or a census ends carries no outcome, that of a sweep in ENDING neither, is the
model's choice (log entry 40). -/
def Obligations.ChainFrames : Prop :=
  (∀ (t : TrunkId) (label kind f1 f0 c1 c0 : Byte) (more : List Byte) (s : State),
    (s.trunk t).buffer.head? = some (0x06#8 :: label :: kind :: f1 :: f0 :: c1 :: c0 :: more) →
    ((∀ l, (s.chain t).labelling = some l → label.toNat ≠ l.position.val + 1) →
      Does (.labelAck t) s ((s.take t).errorOn t .strayReply (.label t label.toNat))) ∧
    ∀ l, (s.chain t).labelling = some l → label.toNat = l.position.val + 1 →
      let n := stationAt t l.position
      let r := s.roster n
      let i : Identity := ⟨kind, half f1 f0, half c1 c0⟩
      let agrees := kindOf kind = r.kind ∧ r.kind ≠ none ∧ half f1 f0 = r.first ∧ half c1 c0 = r.count
      (r.count = 0 → Does (.labelAck t) s ((s.take t).labellingEnds t)) ∧
      (r.count ≠ 0 →
        (agrees → Does (.labelAck t) s (((s.take t).labelled n i).labellingEnds t)) ∧
        (¬agrees → Does (.labelAck t) s ((((s.take t).labelled n i).errorOn t .identityMismatch
          (.position t (l.position.val + 1))).labellingEnds t)))) ∧
  (∀ (t : TrunkId) (label count : Byte) (rest : List Byte) (s : State),
    (s.trunk t).buffer.head? = some (0x08#8 :: label :: count :: rest) →
    ((s.chain t).census = none → Does (.censusReturn t) s ((s.take t).errorOn t .strayReply (.trunk t))) ∧
    ((s.chain t).census ≠ none →
      (censusEntries (min count.toNat 24) rest = none → Does (.censusReturn t) s ((s.take t).failCensus t)) ∧
      ∀ entries, censusEntries (min count.toNat 24) rest = some entries →
        let u := (s.take t).updChain t fun c => { c with census := none }
        let v := if 24 < count.toNat then u.errorOn t .chainTooLong (.trunk t) else u
        Does (.censusReturn t) s (((fins 24).foldl (State.comparePosition t entries) v).afterCensus t))) ∧
  (∀ (t : TrunkId) (label returned index : Byte) (more : List Byte) (s : State),
    (s.trunk t).buffer.head? = some (0x09#8 :: label :: returned :: index :: more) →
    (returned = 0x81#8 →
      let u := (s.take t).errorOn t .noTaker (.position t index.toNat)
      ((∀ l, (s.chain t).labelling = some l → index.toNat ≠ l.position.val + 1) → Does (.noTaker t) s u) ∧
      ∀ l, (s.chain t).labelling = some l → index.toNat = l.position.val + 1 →
        Does (.noTaker t) s ((u.noAnswer t l.position).labellingEnds t)) ∧
    (returned ≠ 0x81#8 →
      let u := (s.take t).errorOn t .noTaker (.label t label.toNat)
      (returned.toNat < 0x86 ∨ 0x89 < returned.toNat → Does (.noTaker t) s u) ∧
      ((∀ o : OpId, index.toNat = o.val → s.field.ops.find o = none) → Does (.noTaker t) s u) ∧
      ∀ o x, index.toNat = o.val → s.field.ops.find o = some x →
        let sent := (x.kind = .probe ∧ returned = 0x86#8) ∨ (x.kind = .cycle ∧ returned = 0x87#8) ∨
          (x.kind = .sweep ∧ returned = 0x88#8) ∨ (x.kind = .sweep ∧ returned = 0x89#8 ∧ x.state = .ending)
        (sent → stationTrunk x.station = t → (stationPosition x.station).val + 1 = label.toNat →
          Does (.noTaker t) s (u.endOp o .noTaker .none .none)) ∧
        (¬(sent ∧ stationTrunk x.station = t ∧ (stationPosition x.station).val + 1 = label.toNat) →
          Does (.noTaker t) s u))) ∧
  (∀ (t : TrunkId) (entries : List CensusEntry) (p : Position) (s : State),
    let n := stationAt t p
    let u := s.comparePosition t entries p
    ((s.roster n).count = 0 →
      (entries[p.val]? = none → u = s) ∧
      (entries[p.val]? ≠ none → u = s.errorOn t .unexpectedStation (.position t (p.val + 1)))) ∧
    ((s.roster n).count ≠ 0 →
      (entries[p.val]? = some (.full (p.val + 1)) → (u.station n).mode = .active ∧ (u.station n).balance = 0 ∧
        (u.station n).hold = { (s.station n).hold with cabinet := false } ∧ u.error = s.error) ∧
      (entries[p.val]? = some .bypass → (u.station n).mode = .active ∧ (u.station n).balance = 0 ∧
        (u.station n).hold = { (s.station n).hold with cabinet := true } ∧ u.error = s.error) ∧
      (entries[p.val]? = some .unlabelled → (u.station n).mode = .pending ∧ (u.station n).nextExpiry = none ∧
        ((∀ l, (s.chain t).labelling = some l → l.position ≠ p) → p ∈ (u.chain t).list)) ∧
      (∀ other, other ≠ p.val + 1 → entries[p.val]? = some (.full other) → (u.station n).mode = .silent ∧
        u.error = ⟨.trunk .labelMismatch, .position t (p.val + 1), some s.setup.time, (s.error.writes + 1) % 65536⟩) ∧
      (entries[p.val]? = none → (u.station n).mode = .silent ∧ u.error = s.error) ∧
      let x := s.station n
      let found (g : HoldSet → HoldSet) : State :=
        let v := s.updStation n fun y => { y with
          mode := .active, balance := 0
          wakeExtra := if x.mode = .asleep then true else y.wakeExtra
          sleepCount := if x.mode = .asleep then 0 else y.sleepCount
          span := if x.mode = .asleep then none else y.span
          nextExpiry := if (g x.hold).held = true then none
            else if x.mode = .active ∨ x.mode = .asleep then y.nextExpiry
            else some (s.setup.time + (s.roster n).interval) }
        (if x.mode = .active then v else v.nowActive n).changeHold n g
      let wrong := s.errorOn t .labelMismatch (.position t (p.val + 1))
      (entries[p.val]? = some (.full (p.val + 1)) → u = found fun h => { h with cabinet := false }) ∧
      (entries[p.val]? = some .bypass → u = found fun h => { h with cabinet := true }) ∧
      (entries[p.val]? = some .unlabelled → u = (s.updChain t (Chain.join p)).enterPending n) ∧
      (∀ other, other ≠ p.val + 1 → entries[p.val]? = some (.full other) →
        u = if x.mode = .silent then wrong else wrong.enterSilent n false) ∧
      (entries[p.val]? = none → u = if x.mode = .silent then s else s.enterSilent n false))) ∧
  (∀ (p : Position) (c : Chain),
    ((∃ l, c.labelling = some l ∧ l.position = p) → c.join p = c) ∧
    ((∀ l, c.labelling = some l → l.position ≠ p) →
      { c.join p with list := c.list } = c ∧ (∀ q, q ∈ (c.join p).list ↔ q = p ∨ q ∈ c.list) ∧
      (c.list.Pairwise (· < ·) → (c.join p).list.Pairwise (· < ·)))) ∧
  (∀ (n : StationId) (s : State),
    let x := s.station n
    let v := s.updStation n fun y => { y with mode := .pending, nextExpiry := none }
    s.enterPending n =
      (if x.mode = .active then
        match x.op with
        | some o => v.endOp o .lostStation .none .none
        | none => v
      else if x.mode = .silent ∨ x.mode = .unreached then v.setStale n true
      else v)) ∧
  (∀ (k : Nat) (b mode count : Byte) (rest : List Byte),
    censusEntries 0 rest = some [] ∧ censusEntries (k + 1) [] = none ∧
    censusEntries (k + 1) (0xFE#8 :: rest) = (censusEntries k rest).map (CensusEntry.bypass :: ·) ∧
    censusEntries (k + 1) (0xFF#8 :: rest) = (censusEntries k rest).map (CensusEntry.unlabelled :: ·) ∧
    (1 ≤ b.toNat → b.toNat ≤ 24 →
      censusEntries (k + 1) (b :: mode :: count :: rest) = (censusEntries k rest).map (CensusEntry.full b.toNat :: ·) ∧
      censusEntries (k + 1) [b] = none ∧ censusEntries (k + 1) [b, mode] = none) ∧
    (b = 0#8 ∨ (24 < b.toNat ∧ b.toNat < 0xFE) → censusEntries (k + 1) (b :: rest) = none)) ∧
  ∀ (n : StationId) (i : Identity) (s : State),
    let x := s.station n
    let v := s.updStation n fun y => { y with
        identity := some i, mode := .active, balance := 0
        wakeExtra := if x.mode = .asleep then true else y.wakeExtra
        sleepCount := if x.mode = .asleep then 0 else y.sleepCount
        span := if x.mode = .asleep then none else y.span
        nextExpiry := if x.hold.held = true then none
          else if x.mode = .active ∨ x.mode = .asleep then y.nextExpiry
          else some (s.setup.time + (s.roster n).interval) }
    s.labelled n i = (if x.mode = .active then v else v.nowActive n) ∧
    (s.labelled n i).station n =
      { x with
        identity := some i, mode := .active, balance := 0
        wakeExtra := if x.mode = .asleep then true else x.wakeExtra
        sleepCount := if x.mode = .asleep then 0 else x.sleepCount
        span := if x.mode = .asleep then none else x.span
        nextExpiry := if x.hold.held = true then none
          else if x.mode = .active ∨ x.mode = .asleep then x.nextExpiry
          else some (s.setup.time + (s.roster n).interval) }

/-! ## Operations on their way -/

/-- OP_REPLY and the deadlines of the operations: a stray reply; a reading, a sample at the level asked, a confirmation and a
rejection; the second sending of a step and the ends by time; which replies an operation takes, and what the bytes of a reply
say. A step that is refused, by a full queue or a trunk that is not RUNNING, ends the operation ABNORMAL, reason FULL; that
the sample is then taken all the same is log entry 22. That the OP-DONE of an operation which ends by time, by a rejection,
by a bad reply or by a refused step carries no outcome, that of a sweep in ENDING neither, is the model's choice (log entry
40). -/
def Obligations.OperationsAdvance : Prop :=
  (∀ (t : TrunkId) (label index a1 a0 kind v1 v2 : Byte) (more : List Byte) (s : State),
    (s.trunk t).buffer.head? = some (0x07#8 :: label :: index :: a1 :: a0 :: kind :: v1 :: v2 :: more) →
    (label.toNat = 0 ∨ 24 < label.toNat ∨
        (∃ p : Position, label.toNat = p.val + 1 ∧ (s.roster (stationAt t p)).count = 0) →
      Does (.opReply t) s ((s.take t).errorOn t .unknownLabel (.label t label.toNat))) ∧
    ∀ p : Position, label.toNat = p.val + 1 → (s.roster (stationAt t p)).count ≠ 0 →
      let n := stationAt t p
      let u := (s.take t).hear n
      ((∀ o x r, index.toNat = o.val → s.field.ops.find o = some x → replyOf kind v1 v2 = some r →
          x.station = n → x.asset = half a1 a0 → takesReply x.kind x.state r = false) →
        Does (.opReply t) s (u.errorOn t .strayReply (.label t (p.val + 1)))) ∧
      ∀ o x r, index.toNat = o.val → s.field.ops.find o = some x → replyOf kind v1 v2 = some r →
        x.station = n → x.asset = half a1 a0 → takesReply x.kind x.state r = true →
        Does (.opReply t) s (u.actOnReply o x r)) ∧
  (∀ (o : OpId) (x : Op) (s : State),
    let t := stationTrunk x.station
    let number := (stationPosition x.station).val + 1
    let sends (f : Payload) (y : Op) : State :=
      if (s.trunk t).state = .running ∧ (s.trunk t).queue.length < 8 then (s.hand t ⟨number, f⟩).setOp o y
      else s.endOp o .full .none .none
    let bad := (s.errorOn t .badCondition (.position t number)).endOp o .badReply .none .none
    (∀ c k, (s.roster x.station).kind = some k → reportable k c = true →
      s.actOnReply o x (.probeReading (some c)) = s.endOp o .done (.report c) (.condition c) ∧
      s.actOnReply o x (.cycleFinal (some c)) = s.endOp o .done (.report c) (.condition c)) ∧
    (∀ c k, (s.roster x.station).kind = some k → reportable k c = false →
      s.actOnReply o x (.probeReading (some c)) = bad ∧ s.actOnReply o x (.cycleFinal (some c)) = bad) ∧
    s.actOnReply o x (.probeReading none) = bad ∧ s.actOnReply o x (.cycleFinal none) = bad ∧
    s.actOnReply o x .cycleOff = s.setOp o { x with state := .settling } ∧
    s.actOnReply o x .rejected = s.endOp o .rejected .none .none ∧
    (∀ level detects, x.state = .ending ∨ x.level ≠ some level → s.actOnReply o x (.sample level detects) = s) ∧
    (∀ level detects, x.state ≠ .ending → x.level = some level →
      s.actOnReply o x (.sample level detects) = s.takeSample o x level detects) ∧
    (∀ level, x.level ≠ some level → s.actOnReply o x (.confirmation level) = s) ∧
    (∀ level noise, x.level = some level → x.noise = some noise →
      s.actOnReply o x (.confirmation level) = s.endOp o .done .lockRemedy (.levels noise level)) ∧
    (s.field.ops.find o = some x → x.kind = .sweep → x.deadline ≤ s.setup.time →
      (x.retried = true → Does (.stepDeadline o) s (s.endOp o .noAnswer .none .none)) ∧
      ∀ level, x.retried = false → x.level = some level →
        let again : Op := { x with retried := true, deadline := s.setup.time + 2 }
        (x.state = .ending → Does (.stepDeadline o) s (sends (.setLevel o x.asset level) again)) ∧
        (x.state ≠ .ending → Does (.stepDeadline o) s (sends (.sweepStep o x.asset level) again)))) ∧
  (∀ (k : OpKind) (x : OpState) (r : Reply), takesReply k x r = true ↔
    r = .rejected ∨ (k = .probe ∧ x = .sent ∧ ∃ c, r = .probeReading c) ∨ (k = .cycle ∧ x = .sent ∧ r = .cycleOff) ∨
      (k = .cycle ∧ (x = .sent ∨ x = .settling) ∧ ∃ c, r = .cycleFinal c) ∨
      (k = .sweep ∧ (x = .sent ∨ x = .stepping ∨ x = .ending) ∧ ∃ level detects, r = .sample level detects) ∨
      (k = .sweep ∧ x = .ending ∧ ∃ level, r = .confirmation level)) ∧
  (∀ kind v1 v2 : Byte,
    replyOf 1#8 v1 v2 = some (.probeReading (conditionOf v1)) ∧ replyOf 2#8 v1 v2 = some .cycleOff ∧
    replyOf 3#8 v1 v2 = some (.cycleFinal (conditionOf v1)) ∧
    replyOf 4#8 v1 v2 = some (.sample v1.toNat (decide (v2 ≠ 0#8))) ∧
    replyOf 5#8 v1 v2 = some (.confirmation v1.toNat) ∧ replyOf 6#8 v1 v2 = some .rejected ∧
    (kind = 0#8 ∨ 6 < kind.toNat → replyOf kind v1 v2 = none)) ∧
  (∀ (o : OpId) (x : Op) (level : Nat) (detects : Bool) (s : State),
    let room := (s.trunk (stationTrunk x.station)).state = .running ∧ (s.trunk (stationTrunk x.station)).queue.length < 8
    let up := x.direction = some .up ∨ (x.direction = none ∧ detects = false)
    let y : Op := { x with steps := x.steps + 1, retried := false, direction := some (if up then .up else .down) }
    let asks (l : Nat) : State := (s.hand (stationTrunk x.station) ⟨(stationPosition x.station).val + 1,
      .sweepStep o x.asset l⟩).setOp o { y with state := .stepping, level := some l, deadline := s.setup.time + 2 }
    let sets (n : Nat) : State := (s.hand (stationTrunk x.station) ⟨(stationPosition x.station).val + 1,
      .setLevel o x.asset (max 1 (n - x.margin))⟩).setOp o
        { y with state := .ending, level := some (max 1 (n - x.margin)), deadline := s.setup.time + 2, noise := some n }
    let u := s.takeSample o x level detects
    let refused := (s.setOp o y).endOp o .full .none .none
    (up → detects = false → level < 15 → (room → u = asks (level + 1)) ∧ (¬room → u = refused)) ∧
    (up → detects = false → 15 ≤ level →
      u = (s.setOp o y).endOp o .equipmentCheck (.equipment .loopOpen) (.condition .loopOpen)) ∧
    (up → detects = true → (room → u = sets level) ∧ (¬room → u = refused)) ∧
    (¬up → detects = true → 1 < level → (room → u = asks (level - 1)) ∧ (¬room → u = refused)) ∧
    (¬up → detects = true → level ≤ 1 →
      u = (s.setOp o y).endOp o .equipmentCheck (.equipment .stuckOn) (.condition .stuckOn)) ∧
    (¬up → detects = false → (room → u = sets (level + 1)) ∧ (¬room → u = refused))) ∧
  ∀ (o : OpId) (x : Op) (s : State), s.field.ops.find o = some x → x.deadline ≤ s.setup.time →
    (x.kind = .probe → Does (.probeDeadline o) s (s.endOp o .timeout .none .none)) ∧
    (x.kind = .cycle → Does (.cycleDeadline o) s (s.endOp o .timeout .none .none))

/-! ## Trunk symbols, faults and deadlines -/

/-- The symbols of a trunk and the frames they make: FILL, data, ABORT, GRANT, END and a frame sent, where none faults the
trunk; what entering RUNNING makes of the trunk, its chain and its incident; and what the part sends on a trunk: nothing
in OFF and FAULTED, FILL in STARTING, in RUNNING the frame in transmission with its END or else FILL, and a GRANT for
each 2 of the free upstream room. That the next queued frame begins in the event of an END sent is log entry 36. What
becomes of a frame handed to the trunk, and the data symbols of each downstream frame. The checks of an upstream frame in
their order, with the least length of each type, and the place of its error; and the bits of a symbol. -/
def Obligations.TrunkSymbols : Prop :=
  (∀ (t : TrunkId) (s : State),
    let x := s.trunk t
    (x.state = .starting →
      Does (.fill t) s (s.trunkRuns t) ∧ Does (.chainValidFill t) s (s.trunkRuns t)) ∧
    (x.state = .running →
      Does (.fill t) s (s.updTrunk t fun x => { x with watch := true }) ∧
      Does (.chainValidFill t) s (s.updTrunk t fun x => { x with watch := true }) ∧
      Does (.abortSymbol t) s (s.updTrunk t fun x => { x with assembly := none, watch := true }) ∧
      (∀ b,
        (x.assembly = none → Does (.dataSymbol t b) s
          (s.updTrunk t fun x => { x with assembly := some ⟨[b], false⟩, watch := true })) ∧
        ∀ a, x.assembly = some a →
          (a.symbols.length < 80 → Does (.dataSymbol t b) s (s.updTrunk t fun x =>
            { x with assembly := some { a with symbols := a.symbols ++ [b] }, watch := true })) ∧
          (80 ≤ a.symbols.length → Does (.dataSymbol t b) s (s.updTrunk t fun x =>
            { x with assembly := some { a with tooLong := true }, watch := true }))) ∧
      (x.downCredit ≤ 4 → Does (.grant t) s
        (s.updTrunk t fun x => ({ x with downCredit := x.downCredit + 2, watch := true }).pump)) ∧
      (x.transmitting ≠ none → Does (.downstreamFrameSent t) s
        (s.updTrunk t fun x => ({ x with transmitting := none }).pump)) ∧
      (0 < x.upCredit →
        let spent (buffer : List (List Byte)) : State := s.updTrunk t fun x =>
          { x with
            assembly := none, watch := true, buffer
            upCredit := x.upCredit - 1 + 2 * ((6 - buffer.length - (x.upCredit - 1)) / 2) }
        (∀ e place, frameError x.assembly = some e → framePlace t x.assembly = place →
          Does (.frameEnd t) s ((spent x.buffer).errorOn t e place)) ∧
        ∀ a, x.assembly = some a → frameError (some a) = none →
          Does (.frameEnd t) s (spent (x.buffer ++ [a.symbols])))) ∧
    (x.state = .off ∨ x.state = .faulted ∨ x.state = .starting → ∀ b,
      Stays (.dataSymbol t b) s ∧ Stays (.abortSymbol t) s ∧ Stays (.grant t) s ∧ Stays (.frameEnd t) s) ∧
    (x.state = .off ∨ x.state = .faulted → Stays (.fill t) s ∧ Stays (.chainValidFill t) s) ∧
    (∀ f rest, x.queue = f :: rest → x.state = .running → x.transmitting = none → 1 ≤ x.downCredit →
      x.pump = { x with queue := rest, transmitting := some f, downCredit := x.downCredit - 1 }) ∧
    (x.queue = [] ∨ x.state ≠ .running ∨ x.transmitting ≠ none ∨ x.downCredit = 0 → x.pump = x) ∧
    (x.state = .starting → s.chain t = {} → x.queue = [] →
      let u := s.trunkRuns t
      u.setup = s.setup ∧ u.faults = s.faults ∧ u.error = s.error ∧ u.field.stations = s.field.stations ∧
      u.chain t = { census := some (s.setup.time + 4), again := false, labelling := none, list := [] } ∧
      u.trunk t = { x with
        state := .running, startDeadline := none, retryDeadline := none, graceDeadline := none, attempts := 0
        downCredit := 0, upCredit := 2 * ((6 - x.buffer.length) / 2), watch := true, queue := [⟨255, .census⟩] }) ∧
    (x.state = .starting → s.board.Arranged → ∀ i y, s.board.incident i = some y → y.subject = .trunk t →
      y.atFault = true → ∃ z, (s.trunkRuns t).board.incident i = some z ∧ z.restoredAt = some s.setup.time ∧
        z.state = if s.setup.active.params.closeDelay = 0 then .closed else .restored) ∧
    (x.state = .off ∨ x.state = .faulted → x.sends = []) ∧
    (x.state = .starting ∨ (x.state = .running ∧ x.transmitting = none) → x.sends = [fillSymbol]) ∧
    (∀ f, x.state = .running → x.transmitting = some f →
      x.sends = f.symbols.map (symbolBits false) ++ [endSymbol]) ∧
    (x.pop = { x with
      buffer := x.buffer.tail
      upCredit := if x.state = .running then x.upCredit + 2 * ((6 - x.buffer.tail.length - x.upCredit) / 2)
        else x.upCredit }) ∧
    (x.state = .running → x.buffer ≠ [] →
      grantsSent x x.pop = List.replicate ((6 - x.buffer.tail.length - x.upCredit) / 2) grantSymbol) ∧
    (x.state = .starting → grantsSent x ((s.trunkRuns t).trunk t) =
      List.replicate ((6 - x.buffer.length) / 2) grantSymbol) ∧
    (x.state = .running → 0 < x.upCredit → grantsSent x ((s.upstreamEnd t).trunk t) = List.replicate
      ((6 - (x.buffer.length + (if frameError x.assembly = none then 1 else 0)) - (x.upCredit - 1)) / 2) grantSymbol) ∧
    ∀ f : DownFrame,
      (x.state = .running → x.queue.length < 8 →
        x.answerTo = .accepted ∧ x.hand f = ({ x with queue := x.queue ++ [f] } : Trunk).pump) ∧
      (x.state = .running → 8 ≤ x.queue.length → x.answerTo = .full ∧ x.hand f = x) ∧
      (x.state ≠ .running → x.answerTo = .notRunning ∧ x.hand f = x)) ∧
  (∀ (t : TrunkId) (symbols : List Byte) (tooLong : Bool),
    let a : Option Assembly := some ⟨symbols, tooLong⟩
    frameError none = some .nullFrame ∧ framePlace t none = .trunk t ∧
    (symbols = [] → frameError a = some .nullFrame) ∧
    (symbols.length ≤ 1 → framePlace t a = .trunk t) ∧
    (∀ kind label rest, symbols = kind :: label :: rest → framePlace t a = .label t label.toNat) ∧
    ∀ kind rest, symbols = kind :: rest →
      (tooLong = true → frameError a = some .longFrame) ∧
      (tooLong = false → kind = 0#8 ∨ 9 < kind.toNat → frameError a = some .unknownType) ∧
      ∀ pair ∈ [(1, 2), (2, 7), (3, 3), (4, 2), (5, 2), (6, 7), (7, 8), (8, 3), (9, 4)], tooLong = false →
        kind.toNat = pair.1 →
        (symbols.length < pair.2 → frameError a = some .shortFrame) ∧ (pair.2 ≤ symbols.length → frameError a = none)) ∧
  (∀ (control : Bool) (payload : Byte),
    let x := symbolBits control payload
    x.getLsbD 9 = control ∧ (∀ i, i < 8 → x.getLsbD (i + 1) = payload.getLsbD i) ∧
    ((List.range 10).filter fun i => x.getLsbD i).length % 2 = 1) ∧
  fillSymbol = symbolBits true 0#8 ∧ grantSymbol = symbolBits true 1#8 ∧ endSymbol = symbolBits true 2#8 ∧
  ∀ (label n asset : Nat) (p : Position) (o : OpId),
    let byte (n : Nat) : Byte := BitVec.ofNat 8 n
    let symbols (f : Payload) : List Byte := (DownFrame.mk label f).symbols
    let operation : List Byte := byte o.val :: two asset
    symbols (.label p) = [0x81#8, byte label, byte (p.val + 1)] ∧ symbols .forget = [0x82#8, byte label] ∧
    symbols .census = [0x83#8, byte label, 0#8] ∧ symbols (.sleepGrant n) = [0x84#8, byte label, byte n] ∧
    symbols (.sleepDeny n) = [0x85#8, byte label, byte n] ∧
    symbols (.probe o asset) = [0x86#8, byte label] ++ operation ∧
    symbols (.cycle o asset n) = [0x87#8, byte label] ++ operation ++ [byte n] ∧
    symbols (.sweepStep o asset n) = [0x88#8, byte label] ++ operation ++ [byte n] ∧
    symbols (.setLevel o asset n) = [0x89#8, byte label] ++ operation ++ [byte n] ∧
    symbols (.abortOp o asset) = [0x8A#8, byte label] ++ operation

/-- The four faults of a RUNNING trunk, and what a fault makes of the trunk, its stations, its chain and the error
record, with the TRUNK-ERROR notice to every maintenance desk, queued where its link is UP and has room and counted as
overflow where not: the fault as a whole, the stations UNREACHED by rising position with their operations LOST
(TrunkStopLeavesRunning), their records stale, and, with a trunk grace of 0, the trunk incident opened or reopened in the
same event. That the stations are taken by rising position, which orders their notices, is the model's choice (log
entry 10). -/
def Obligations.TrunkFaults : Prop :=
  (∀ (t : TrunkId) (s : State), (s.trunk t).state = .running →
    Does (.parity t) s (s.faultTrunk t .parity) ∧
    ((s.trunk t).watch = true → Does (.disconnect t) s (s.faultTrunk t .disconnect)) ∧
    ((s.trunk t).upCredit = 0 → Does (.frameEnd t) s (s.faultTrunk t .creditOverrun)) ∧
    (5 ≤ (s.trunk t).downCredit → Does (.grant t) s (s.faultTrunk t .creditExcess))) ∧
  ∀ (t : TrunkId) (e : TrunkError) (s : State), (s.trunk t).state = .running →
    let x := s.trunk t
    let p := s.setup.active.params
    let u := s.faultTrunk t e
    u.setup = s.setup ∧
    u.trunk t = { x with
      state := .faulted, faultTime := some s.setup.time
      graceDeadline := if p.trunkGrace = 0 then none else some (s.setup.time + p.trunkGrace)
      retryDeadline := some (s.setup.time + p.trunkRetry)
      assembly := none, queue := [], transmitting := none, upCredit := 0, downCredit := 0, watch := false
      counters := x.counters.set e.index (saturate 65535 x.counters[e.index]) } ∧
    (∀ t', t' ≠ t → u.chain t' = s.chain t' ∧ (s.field.OpsAgree → u.trunk t' = s.trunk t')) ∧
    u.chain t = { census := none, again := false, labelling := none, list := [] } ∧
    u.error = ⟨.trunk e, .trunk t, some s.setup.time, (s.error.writes + 1) % 65536⟩ ∧
    (s.field.OpsAgree →
      (∀ q : Position, (s.roster (stationAt t q)).count ≠ 0 → u.station (stationAt t q) =
        { s.station (stationAt t q) with
          mode := .unreached, nextExpiry := none, wakeExtra := false, sleepCount := 0, span := none, op := none }) ∧
      ∀ n, stationTrunk n ≠ t ∨ (s.roster n).count = 0 → u.station n = s.station n) ∧
    (s.faults.Sound → ∀ r ∈ u.faults.records,
      stationTrunk r.station = t → (s.roster r.station).count ≠ 0 → r.stale = true) ∧
    let fell := s.updTrunk t fun x => { x with
        state := .faulted, faultTime := some s.setup.time, graceDeadline := some (s.setup.time + p.trunkGrace)
        retryDeadline := some (s.setup.time + p.trunkRetry)
        assembly := none, queue := [], transmitting := none, upCredit := 0, downCredit := 0, watch := false }
    let positions := (fins 24).filter fun q => decide ((s.roster (stationAt t q)).count ≠ 0)
    let gone := positions.foldl (fun v q => v.enterUnreached (stationAt t q)) fell
    let told := (allDesks.filter fun d => (s.setup.active.desks[d]).maintenance).foldl
        (fun v d => v.updLink d fun l => l.take (.trunkError t e s.setup.time))
        ((gone.updChain t fun _ => {}).errorOn t e (.trunk t))
    (p.trunkGrace ≠ 0 → u = told) ∧
    (p.trunkGrace = 0 → positions = [] → u = told.updTrunk t fun x => { x with graceDeadline := none }) ∧
    (p.trunkGrace = 0 → positions ≠ [] → u = (told.updTrunk t fun x => { x with graceDeadline := none }).onBoard
      fun c b => Board.faultOf c (.trunk t) .trunkDown b) ∧
    (s.board.Arranged → p.trunkGrace = 0 → (∃ q : Position, (s.roster (stationAt t q)).count ≠ 0) →
      ((∀ i y, s.board.incident i = some y → y.subject = .trunk t → y.live = false) →
        ∃ i y, s.board.freshRecord = some i ∧ u.board.incident i = some y ∧
          InfraOpened s.setup (.trunk t) .trunkDown y) ∧
      ∀ i y, s.board.incident i = some y → y.subject = .trunk t → y.live = true →
        ∃ z, u.board.incident i = some z ∧ z.atFault = true ∧ z.subject = .trunk t ∧ z.openedAt = y.openedAt ∧
          z.assigned = y.assigned ∧ z.group = y.group ∧ z.state = y.reopenedState ∧
          (y.state = .restored → z.restoredAt = none ∧ z.closeDelay = none)) ∧
    ∀ d : DeskId, p.trunkGrace ≠ 0 → ∃ l : Link,
      l.up = (s.board.links[d]).up ∧ (∃ more, l.notices = (s.board.links[d]).notices ++ more) ∧
      (s.faults.records = [] → s.field.ops.entries = [] → l = s.board.links[d]) ∧
      ((s.setup.active.desks[d]).maintenance = false → u.board.links[d] = l) ∧
      ((s.setup.active.desks[d]).maintenance = true →
        (l.up = true → l.notices.length < 16 → u.board.links[d] =
          { l with notices := l.notices ++ [.trunkError t e s.setup.time] }) ∧
        (l.up = false ∨ 16 ≤ l.notices.length → u.board.links[d] =
          { l with overflow := saturate 255 l.overflow, attention := true }))

/-- START_DEADLINE, RETRY_DEADLINE, GRACE_DEADLINE, LABEL_DEADLINE and CENSUS_DEADLINE when they are due; a census that
waits behind a failed one starts, or fails in its turn at a full send queue. With a trunk grace of 0 a failed start from OFF
tells the incident table of the trunk in the same event. That a labelling of a position that is VACANT by then fails without
a no-answer outcome is log entry 15. Then what the end of a labelling, of a census and of a chain's work brings: a labelling
that ends leaves none in flight and starts the next position of the list; a LABEL that is refused fails at once, with
LABEL-FAILED and the no-answer outcome, and the next position follows; and a chain that has become free starts the census
that waits, or fails it at a full send queue. -/
def Obligations.TrunkDeadlines : Prop :=
  (∀ (t : TrunkId) (e : Nat) (s : State), e ≤ s.setup.time →
    let x := s.trunk t
    let c := s.chain t
    let p := s.setup.active.params
    let now := s.setup.time
    (x.state = .starting → x.startDeadline = some e →
      Does (.startDeadline t) s (s.startFails t) ∧
      let u := s.startFails t
      let told := (allDesks.filter fun d => (s.setup.active.desks[d]).maintenance).foldl
        (fun b d => b.updLink d fun l => l.take (.trunkError t .startTimeout now)) s.board
      let begins := decide (x.startCause = .fromOff)
      u.setup = s.setup ∧ u.faults = s.faults ∧ u.field.stations = s.field.stations ∧ u.field.ops = s.field.ops ∧
      u.field.chains = s.field.chains ∧
      u.trunk t = { x with
        state := .faulted, startDeadline := none, retryDeadline := some (now + p.trunkRetry)
        faultTime := if begins then some now else x.faultTime
        graceDeadline := if begins then (if p.trunkGrace = 0 then none else some (now + p.trunkGrace))
          else x.graceDeadline
        counters := x.counters.set TrunkError.startTimeout.index
          (saturate 65535 x.counters[TrunkError.startTimeout.index]) } ∧
      u.error = (if x.startCause = .retry then s.error
        else ⟨.trunk .startTimeout, .trunk t, some now, (s.error.writes + 1) % 65536⟩) ∧
      (x.startCause = .retry → u.board = s.board) ∧
      (x.startCause ≠ .retry → x.startCause ≠ .fromOff ∨ p.trunkGrace ≠ 0 →
        { u.board with links := s.board.links } = s.board ∧
        ∀ d : DeskId, u.board.links[d] =
          if (s.setup.active.desks[d]).maintenance = true then
            (s.board.links[d]).take (.trunkError t .startTimeout now)
          else s.board.links[d]) ∧
      u.board =
        (if x.startCause = .retry then s.board
        else if x.startCause = .fromOff ∧ p.trunkGrace = 0 ∧ occupied s.setup.active t ≠ 0 then
          Board.faultOf s.setup (.trunk t) .trunkDown told
        else told)) ∧
    (x.state = .faulted → x.retryDeadline = some e → Does (.retryDeadline t) s (s.updTrunk t fun x => { x with
      state := .starting, buffer := [], assembly := none, startDeadline := some (now + 2), retryDeadline := none
      startCause := .retry, attempts := saturate 65535 x.attempts })) ∧
    (x.graceDeadline = some e →
      let u := s.updTrunk t fun x => { x with graceDeadline := none }
      (occupied s.setup.active t = 0 → Does (.graceDeadline t) s u) ∧
      (occupied s.setup.active t ≠ 0 →
        Does (.graceDeadline t) s (u.onBoard fun c b => b.faultOf c (.trunk t) .trunkDown))) ∧
    (∀ l, c.labelling = some l → l.deadline = e →
      let number := l.position.val + 1
      let failed := s.errorOn t .labelFailed (.position t number)
      let n := stationAt t l.position
      ((s.roster n).count = 0 → Does (.labelDeadline t) s (failed.labellingEnds t)) ∧
      ((s.roster n).count ≠ 0 → Does (.labelDeadline t) s ((failed.enterPending n).labellingEnds t))) ∧
    (c.census = some e →
      let failed := (s.updChain t fun c => { c with census := none }).errorOn t .censusFailed (.trunk t)
      (c.again = false → Does (.censusDeadline t) s failed) ∧
      (c.again = true → c.labelling ≠ none ∨ c.list ≠ [] ∨ x.state ≠ .running →
        Does (.censusDeadline t) s failed) ∧
      (c.again = true → c.labelling = none → c.list = [] → x.state = .running → x.queue.length < 8 →
        Does (.censusDeadline t) s ((failed.hand t ⟨255, .census⟩).updChain t fun c =>
          { c with census := some (now + 4), again := false })) ∧
      (c.again = true → c.labelling = none → c.list = [] → x.state = .running → 8 ≤ x.queue.length →
        Does (.censusDeadline t) s ((failed.errorOn t .censusFailed (.trunk t)).updChain t fun c =>
          { c with again := false }))) ∧
    (∀ q rest, c.labelling = none → c.list = q :: rest → x.state = .running → x.queue.length < 8 →
      s.startLabelling t = (s.hand t ⟨0, .label q⟩).updChain t fun c =>
        { c with list := rest, labelling := some ⟨q, now + 2⟩ })) ∧
  ∀ (t : TrunkId) (s : State),
    let c := s.chain t
    let x := s.trunk t
    let now := s.setup.time
    let free := c.census = none ∧ c.labelling = none ∧ c.list = []
    s.labellingEnds t = ((s.updChain t fun c => { c with labelling := none }).startLabelling t).chainFreed t ∧
    s.afterCensus t = (s.startLabelling t).chainFreed t ∧
    s.failCensus t =
      ((s.updChain t fun c => { c with census := none }).errorOn t .censusFailed (.trunk t)).chainFreed t ∧
    (c.labelling ≠ none ∨ c.list = [] → s.startLabelling t = s) ∧
    (∀ q rest, c.labelling = none → c.list = q :: rest →
      (x.state = .running → x.queue.length < 8 → s.startLabelling t = (s.hand t ⟨0, .label q⟩).updChain t fun c =>
        { c with list := rest, labelling := some ⟨q, now + 2⟩ }) ∧
      (x.state ≠ .running ∨ 8 ≤ x.queue.length → s.startLabelling t =
        ((((s.updChain t fun c => { c with list := rest }).errorOn t .labelFailed (.position t (q.val + 1))).noAnswer
          t q).startLabelling t))) ∧
    (∀ q : Position,
      ((s.roster (stationAt t q)).count = 0 → s.noAnswer t q = s) ∧
      ((s.roster (stationAt t q)).count ≠ 0 → s.noAnswer t q = s.enterPending (stationAt t q))) ∧
    (¬free ∨ c.again = false ∨ x.state ≠ .running → s.chainFreed t = s) ∧
    (free → c.again = true → x.state = .running →
      (x.queue.length < 8 → s.chainFreed t = (s.hand t ⟨255, .census⟩).updChain t fun c =>
        { c with census := some (now + 4), again := false }) ∧
      (8 ≤ x.queue.length → s.chainFreed t = (s.errorOn t .censusFailed (.trunk t)).updChain t fun c =>
        { c with again := false }))

/-! ## What holds after every step -/

/-- Every step keeps the credit, the buffers and the send queues of the trunks within their bounds, and every operation
field on an operation in flight at its station. -/
def Obligations.FieldKept : Prop :=
  (∀ s t : State, s.field.TrunksSound → step s = .next t → t.field.TrunksSound) ∧
  ∀ s t : State, s.field.OpsAgree → step s = .next t → t.field.OpsAgree

/-- Every step keeps the notice and result queues of the desk links within their bounds. -/
def Obligations.LinksKept : Prop :=
  ∀ s t : State, s.board.LinksSound → step s = .next t → t.board.LinksSound

/-- Every step keeps the upper bounds of both copies of the settings, with 65535 at entry 128, and the two copies equal
while no desk holds the edit claim. -/
def Obligations.StagingKept : Prop :=
  ∀ s t : State, s.setup.Sound → step s = .next t → t.setup.Sound

/-- Every step keeps each incident's urgency, rounds and unrecorded count within their bounds, and the fault table within
2048 records with at most one for an asset. -/
def Obligations.TablesKept : Prop :=
  (∀ s t : State, s.board.IncidentsSound → step s = .next t → t.board.IncidentsSound) ∧
  ∀ s t : State, s.faults.Sound → step s = .next t → t.faults.Sound

/-- Every step keeps one live incident for a subject; the OPEN incidents in the queues of their groups, each once and in
order of urgency, opened time and index; exactly the OFFERED ones in the slots, each in one; no assigned desk on either;
and each desk's assigned count the number of ASSIGNED and RESTORED incidents that it holds. -/
def Obligations.QueuesAndOffersKept : Prop :=
  ∀ s t : State, s.board.Arranged → step s = .next t → t.board.Arranged

/-- The state right after power-on has every property that the steps keep. -/
def Obligations.ResetIsSound : Prop :=
  let s := State.reset
  s.field.TrunksSound ∧ s.field.OpsAgree ∧ s.board.LinksSound ∧ s.setup.Sound ∧ s.board.IncidentsSound ∧
    s.faults.Sound ∧ s.board.Arranged
end

