-- ==== Sys2Proof/Laws/Clock.lean ====
section
/-! SUPPORT. The lemmas of the clock: what a second leaves as it is, and that the raised rows are the due rows. -/

namespace Sys2Proof.Machine

/-! ## The order within a second -/

theorem openOrder_perm : ∀ (k : Nat) (rows : List Instr), (openOrder k rows).Perm rows
  | _, [] => List.Perm.nil
  | _, [_] => List.Perm.refl _
  | k, i :: j :: rest => by
    have ih := openOrder_perm (k + 1) (j :: rest)
    refine List.perm_middle.trans ?_
    rw [List.take_append_drop]
    exact ih.cons i

theorem mem_openOrder {k : Nat} {rows : List Instr} {i : Instr} : i ∈ openOrder k rows ↔ i ∈ rows :=
  (openOrder_perm k rows).mem_iff

theorem length_openOrder (k : Nat) (rows : List Instr) : (openOrder k rows).length = rows.length :=
  (openOrder_perm k rows).length_eq

/-! ## Counting a second -/

theorem State.countSecond_cases (s : State) :
    (s.setup.time < 4294967295 ∧ s.countSecond = s.onSetup fun c => { c with time := c.time + 1 }) ∨
      (4294967295 ≤ s.setup.time ∧ s.countSecond =
        { s.onSetup fun c => { c with time := (Config.clockPastTop s.draws).toNat } with draws := s.draws + 1 }) := by
  by_cases h : s.setup.time < 4294967295
  · exact .inl ⟨h, if_pos h⟩
  · exact .inr ⟨Nat.le_of_not_lt h, if_neg h⟩

@[simp] theorem State.countSecond_faults (s : State) : s.countSecond.faults = s.faults := by
  rcases s.countSecond_cases with ⟨_, h⟩ | ⟨_, h⟩ <;> rw [h] <;> rfl

@[simp] theorem State.countSecond_board (s : State) : s.countSecond.board = s.board := by
  rcases s.countSecond_cases with ⟨_, h⟩ | ⟨_, h⟩ <;> rw [h] <;> rfl

@[simp] theorem State.countSecond_field (s : State) : s.countSecond.field = s.field := by
  rcases s.countSecond_cases with ⟨_, h⟩ | ⟨_, h⟩ <;> rw [h] <;> rfl

@[simp] theorem State.countSecond_error (s : State) : s.countSecond.error = s.error := by
  rcases s.countSecond_cases with ⟨_, h⟩ | ⟨_, h⟩ <;> rw [h] <;> rfl

@[simp] theorem State.countSecond_pending (s : State) : s.countSecond.pending = s.pending := by
  rcases s.countSecond_cases with ⟨_, h⟩ | ⟨_, h⟩ <;> rw [h] <;> rfl

/-! ## Raising the timers -/

@[simp] theorem State.raiseTimers_setup (s : State) : s.raiseTimers.setup = s.setup := rfl
@[simp] theorem State.raiseTimers_faults (s : State) : s.raiseTimers.faults = s.faults := rfl
@[simp] theorem State.raiseTimers_board (s : State) : s.raiseTimers.board = s.board := rfl
@[simp] theorem State.raiseTimers_field (s : State) : s.raiseTimers.field = s.field := rfl
@[simp] theorem State.raiseTimers_error (s : State) : s.raiseTimers.error = s.error := rfl

@[simp] theorem State.tick_setup (s : State) : s.tick.setup = s.countSecond.setup := rfl
@[simp] theorem State.tick_faults (s : State) : s.tick.faults = s.faults := by simp [State.tick]
@[simp] theorem State.tick_board (s : State) : s.tick.board = s.board := by simp [State.tick]
@[simp] theorem State.tick_field (s : State) : s.tick.field = s.field := by simp [State.tick]
@[simp] theorem State.tick_error (s : State) : s.tick.error = s.error := by simp [State.tick]

/-- The rows that wait after a second: those that waited, then the due rows of the second. -/
theorem State.tick_pending_perm (s : State) : s.tick.pending.Perm (s.pending ++ dueRows s.countSecond) := by
  refine (List.Perm.append_left _ (openOrder_perm _ _)).trans ?_
  rw [State.countSecond_pending]

end Sys2Proof.Machine
end

