-- ==== Sys2Proof/Laws/Table.lean ====
section
/-! SUPPORT. The laws of keyed tables: reading after writing, and the canonical form, which every write keeps. -/

namespace Sys2Proof

variable {n : Nat} {α : Type}

theorem lookupEntry_insertEntry_self (i : Fin n) (x : α) (l : List (Fin n × α)) (h : ∀ e ∈ l, e.1 ≠ i) :
    lookupEntry i (insertEntry i x l) = some x := by
  induction l with
  | nil => simp [insertEntry, lookupEntry]
  | cons e rest ih =>
    obtain ⟨j, y⟩ := e
    have hj : j ≠ i := h (j, y) (by simp)
    simp only [insertEntry]
    split
    · simp [lookupEntry]
    · simp [lookupEntry, hj, ih fun e he => h e (by simp [he])]

theorem lookupEntry_insertEntry_ne {i j : Fin n} (x : α) (l : List (Fin n × α)) (h : i ≠ j) :
    lookupEntry j (insertEntry i x l) = lookupEntry j l := by
  induction l with
  | nil => simp [insertEntry, lookupEntry, h]
  | cons e rest ih =>
    simp only [insertEntry]
    split
    · simp [lookupEntry, h]
    · simp [lookupEntry, ih]

theorem lookupEntry_filter_self (i : Fin n) (l : List (Fin n × α)) :
    lookupEntry i (l.filter fun e => decide (e.1 ≠ i)) = none := by
  induction l with
  | nil => rfl
  | cons e rest ih =>
    by_cases h : e.1 = i
    · simpa [List.filter_cons, h] using ih
    · simpa [List.filter_cons, h, lookupEntry] using ih

theorem lookupEntry_filter_ne {i j : Fin n} (l : List (Fin n × α)) (h : i ≠ j) :
    lookupEntry j (l.filter fun e => decide (e.1 ≠ i)) = lookupEntry j l := by
  induction l with
  | nil => rfl
  | cons e rest ih =>
    by_cases he : e.1 = i
    · have : e.1 ≠ j := fun hj => h (he ▸ hj)
      simpa [List.filter_cons, he, lookupEntry, h] using ih
    · simp [he, lookupEntry] at ih ⊢
      rw [ih]

@[simp] theorem Table.find_erase_self (t : Table n α) (i : Fin n) : (t.erase i).find i = none :=
  lookupEntry_filter_self i t.entries

theorem Table.find_erase_ne (t : Table n α) {i j : Fin n} (h : i ≠ j) : (t.erase i).find j = t.find j :=
  lookupEntry_filter_ne t.entries h

@[simp] theorem Table.find_put_self (t : Table n α) (i : Fin n) (x : α) : (t.put i x).find i = some x :=
  lookupEntry_insertEntry_self i x _ fun e he => by
    simpa using (List.mem_filter.1 he).2

theorem Table.find_put_ne (t : Table n α) {i j : Fin n} (x : α) (h : i ≠ j) : (t.put i x).find j = t.find j := by
  simp only [Table.find, Table.put]
  rw [lookupEntry_insertEntry_ne x _ h]
  exact Table.find_erase_ne t h

theorem Table.find_put (t : Table n α) (i j : Fin n) (x : α) :
    (t.put i x).find j = if i = j then some x else t.find j := by
  split
  · next h => subst h; simp
  · next h => exact t.find_put_ne x h

variable [DecidableEq α]

@[simp] theorem Table.get_store_self (d : α) (t : Table n α) (i : Fin n) (x : α) : (t.store d i x).get d i = x := by
  simp only [Table.store]
  split
  · next h => simp [Table.get, h]
  · simp [Table.get]

theorem Table.get_store_ne (d : α) (t : Table n α) {i j : Fin n} (x : α) (h : i ≠ j) :
    (t.store d i x).get d j = t.get d j := by
  simp only [Table.store]
  split
  · simp [Table.get, t.find_erase_ne h]
  · simp [Table.get, t.find_put_ne x h]

theorem Table.get_store (d : α) (t : Table n α) (i j : Fin n) (x : α) :
    (t.store d i x).get d j = if i = j then x else t.get d j := by
  split
  · next h => subst h; simp
  · next h => exact t.get_store_ne d x h

omit [DecidableEq α] in
@[simp] theorem Table.get_empty (d : α) (i : Fin n) : ({} : Table n α).get d i = d := rfl

omit [DecidableEq α] in
theorem mem_insertEntry {i : Fin n} {x : α} {l : List (Fin n × α)} {e : Fin n × α} (h : e ∈ insertEntry i x l) :
    e = (i, x) ∨ e ∈ l := by
  induction l with
  | nil => simpa [insertEntry] using h
  | cons a rest ih =>
    simp only [insertEntry] at h
    split at h
    · simpa using h
    · rcases List.mem_cons.1 h with h | h
      · exact .inr (by simp [h])
      · rcases ih h with h | h
        · exact .inl h
        · exact .inr (by simp [h])

omit [DecidableEq α] in
theorem risingKeys_insertEntry (i : Fin n) (x : α) (l : List (Fin n × α)) (hl : risingKeys l = true)
    (hi : ∀ e ∈ l, e.1 ≠ i) : risingKeys (insertEntry i x l) = true := by
  induction l with
  | nil => simp [insertEntry, risingKeys]
  | cons a rest ih =>
    obtain ⟨j, y⟩ := a
    simp only [risingKeys, Bool.and_eq_true, List.all_eq_true, decide_eq_true_eq] at hl
    simp only [insertEntry]
    split
    · next h =>
      simp only [risingKeys, Bool.and_eq_true, List.all_eq_true, decide_eq_true_eq, List.mem_cons]
      refine ⟨?_, hl.1, hl.2⟩
      rintro e (rfl | he)
      · exact h
      · exact lt_trans h (hl.1 e he)
    · next h =>
      have hne : j ≠ i := hi (j, y) (by simp)
      have hlt : j.val < i.val := by
        have : j.val ≠ i.val := fun hv => hne (Fin.ext hv)
        omega
      simp only [risingKeys, Bool.and_eq_true, List.all_eq_true, decide_eq_true_eq]
      refine ⟨fun e he => ?_, ih hl.2 fun e he => hi e (by simp [he])⟩
      rcases mem_insertEntry he with rfl | he
      · exact hlt
      · exact hl.1 e he

omit [DecidableEq α] in
theorem risingKeys_filter (p : Fin n × α → Bool) (l : List (Fin n × α)) (hl : risingKeys l = true) :
    risingKeys (l.filter p) = true := by
  induction l with
  | nil => rfl
  | cons a rest ih =>
    simp only [risingKeys, Bool.and_eq_true, List.all_eq_true, decide_eq_true_eq] at hl
    rw [List.filter_cons]
    split
    · simp only [risingKeys, Bool.and_eq_true, List.all_eq_true, decide_eq_true_eq]
      exact ⟨fun e he => hl.1 e (List.mem_of_mem_filter he), ih hl.2⟩
    · exact ih hl.2

omit [DecidableEq α] in
theorem Table.rising_erase (t : Table n α) (i : Fin n) (h : t.rising = true) : (t.erase i).rising = true :=
  risingKeys_filter _ _ h

omit [DecidableEq α] in
theorem Table.rising_put (t : Table n α) (i : Fin n) (x : α) (h : t.rising = true) : (t.put i x).rising = true :=
  risingKeys_insertEntry i x _ (t.rising_erase i h) fun e he => by simpa using (List.mem_filter.1 he).2

/-- A write keeps the canonical form: keys rising, and no entry equal to what an unlisted key holds. -/
theorem Table.wf_store (d : α) (t : Table n α) (i : Fin n) (x : α) (h : t.wf d = true) : (t.store d i x).wf d = true := by
  simp only [Table.wf, Bool.and_eq_true, List.all_eq_true, decide_eq_true_eq] at h ⊢
  simp only [Table.store]
  split
  · exact ⟨t.rising_erase i h.1, fun e he => h.2 e (List.mem_of_mem_filter he)⟩
  · next hx =>
    refine ⟨t.rising_put i x h.1, fun e he => ?_⟩
    rcases mem_insertEntry he with rfl | he
    · exact hx
    · exact h.2 e (List.mem_of_mem_filter he)

/-- `fins n` lists every number below `n`. -/
theorem mem_finsFrom {n : Nat} (fuel i : Nat) (k : Fin n) (hi : i ≤ k.val) (hk : k.val < i + fuel) :
    k ∈ finsFrom n fuel i := by
  induction fuel generalizing i with
  | zero => omega
  | succ fuel ih =>
    have hin : i < n := lt_of_le_of_lt hi k.isLt
    simp only [finsFrom, hin, dif_pos, List.mem_cons]
    by_cases h : i = k.val
    · left; exact Fin.ext h.symm
    · right; exact ih (i + 1) (by omega) (by omega)

theorem mem_fins {n : Nat} (k : Fin n) : k ∈ fins n :=
  mem_finsFrom n 0 k (Nat.zero_le _) (by simp)

end Sys2Proof
end

