-- ==== Sys2Proof/Laws/State.lean ====
section
/-! SUPPORT. One lemma per field per update: what each lifted operation and each record setter leaves as it was, and what
it makes of the record it writes.  No later proof needs to unfold a record update. -/

namespace Sys2Proof.Machine

/-! ## Lifts -/

@[simp] theorem State.onBoard_setup (f : Setup → Board → Board) (s : State) : (s.onBoard f).setup = s.setup := rfl
@[simp] theorem State.onBoard_faults (f : Setup → Board → Board) (s : State) : (s.onBoard f).faults = s.faults := rfl
@[simp] theorem State.onBoard_field (f : Setup → Board → Board) (s : State) : (s.onBoard f).field = s.field := rfl
@[simp] theorem State.onBoard_error (f : Setup → Board → Board) (s : State) : (s.onBoard f).error = s.error := rfl
@[simp] theorem State.onBoard_draws (f : Setup → Board → Board) (s : State) : (s.onBoard f).draws = s.draws := rfl
@[simp] theorem State.onBoard_pending (f : Setup → Board → Board) (s : State) : (s.onBoard f).pending = s.pending := rfl
@[simp] theorem State.onBoard_board (f : Setup → Board → Board) (s : State) :
    (s.onBoard f).board = f s.setup s.board := rfl
@[simp] theorem State.onField_setup (f : Field → Field) (s : State) : (s.onField f).setup = s.setup := rfl
@[simp] theorem State.onField_faults (f : Field → Field) (s : State) : (s.onField f).faults = s.faults := rfl
@[simp] theorem State.onField_board (f : Field → Field) (s : State) : (s.onField f).board = s.board := rfl
@[simp] theorem State.onField_error (f : Field → Field) (s : State) : (s.onField f).error = s.error := rfl
@[simp] theorem State.onField_draws (f : Field → Field) (s : State) : (s.onField f).draws = s.draws := rfl
@[simp] theorem State.onField_pending (f : Field → Field) (s : State) : (s.onField f).pending = s.pending := rfl
@[simp] theorem State.onField_field (f : Field → Field) (s : State) : (s.onField f).field = f s.field := rfl
@[simp] theorem State.onFaults_setup (f : Faults → Faults) (s : State) : (s.onFaults f).setup = s.setup := rfl
@[simp] theorem State.onFaults_board (f : Faults → Faults) (s : State) : (s.onFaults f).board = s.board := rfl
@[simp] theorem State.onFaults_field (f : Faults → Faults) (s : State) : (s.onFaults f).field = s.field := rfl
@[simp] theorem State.onFaults_error (f : Faults → Faults) (s : State) : (s.onFaults f).error = s.error := rfl
@[simp] theorem State.onFaults_draws (f : Faults → Faults) (s : State) : (s.onFaults f).draws = s.draws := rfl
@[simp] theorem State.onFaults_pending (f : Faults → Faults) (s : State) : (s.onFaults f).pending = s.pending := rfl
@[simp] theorem State.onFaults_faults (f : Faults → Faults) (s : State) : (s.onFaults f).faults = f s.faults := rfl
@[simp] theorem State.onSetup_faults (f : Setup → Setup) (s : State) : (s.onSetup f).faults = s.faults := rfl
@[simp] theorem State.onSetup_board (f : Setup → Setup) (s : State) : (s.onSetup f).board = s.board := rfl
@[simp] theorem State.onSetup_field (f : Setup → Setup) (s : State) : (s.onSetup f).field = s.field := rfl
@[simp] theorem State.onSetup_error (f : Setup → Setup) (s : State) : (s.onSetup f).error = s.error := rfl
@[simp] theorem State.onSetup_draws (f : Setup → Setup) (s : State) : (s.onSetup f).draws = s.draws := rfl
@[simp] theorem State.onSetup_pending (f : Setup → Setup) (s : State) : (s.onSetup f).pending = s.pending := rfl
@[simp] theorem State.onSetup_setup (f : Setup → Setup) (s : State) : (s.onSetup f).setup = f s.setup := rfl
@[simp] theorem State.recordError_setup (c : ErrorCode) (p : Place) (s : State) :
    (s.recordError c p).setup = s.setup := rfl
@[simp] theorem State.recordError_faults (c : ErrorCode) (p : Place) (s : State) :
    (s.recordError c p).faults = s.faults := rfl
@[simp] theorem State.recordError_board (c : ErrorCode) (p : Place) (s : State) :
    (s.recordError c p).board = s.board := rfl
@[simp] theorem State.recordError_field (c : ErrorCode) (p : Place) (s : State) :
    (s.recordError c p).field = s.field := rfl
@[simp] theorem State.recordError_draws (c : ErrorCode) (p : Place) (s : State) :
    (s.recordError c p).draws = s.draws := rfl
@[simp] theorem State.recordError_pending (c : ErrorCode) (p : Place) (s : State) :
    (s.recordError c p).pending = s.pending := rfl
@[simp] theorem State.recordError_error (c : ErrorCode) (p : Place) (s : State) :
    (s.recordError c p).error = ⟨c, p, some s.setup.time, (s.error.writes + 1) % 65536⟩ := rfl

/-! ## One record of the state changed -/

@[simp] theorem State.updStation_setup (n : StationId) (g : Station → Station) (s : State) :
    (s.updStation n g).setup = s.setup := rfl
@[simp] theorem State.updStation_faults (n : StationId) (g : Station → Station) (s : State) :
    (s.updStation n g).faults = s.faults := rfl
@[simp] theorem State.updStation_board (n : StationId) (g : Station → Station) (s : State) :
    (s.updStation n g).board = s.board := rfl
@[simp] theorem State.updStation_error (n : StationId) (g : Station → Station) (s : State) :
    (s.updStation n g).error = s.error := rfl
@[simp] theorem State.updStation_draws (n : StationId) (g : Station → Station) (s : State) :
    (s.updStation n g).draws = s.draws := rfl
@[simp] theorem State.updStation_pending (n : StationId) (g : Station → Station) (s : State) :
    (s.updStation n g).pending = s.pending := rfl
@[simp] theorem State.updStation_field (n : StationId) (g : Station → Station) (s : State) :
    (s.updStation n g).field = s.field.setStation n (g (s.field.station n)) := rfl
@[simp] theorem State.updTrunk_setup (t : TrunkId) (g : Trunk → Trunk) (s : State) :
    (s.updTrunk t g).setup = s.setup := rfl
@[simp] theorem State.updTrunk_faults (t : TrunkId) (g : Trunk → Trunk) (s : State) :
    (s.updTrunk t g).faults = s.faults := rfl
@[simp] theorem State.updTrunk_board (t : TrunkId) (g : Trunk → Trunk) (s : State) :
    (s.updTrunk t g).board = s.board := rfl
@[simp] theorem State.updTrunk_error (t : TrunkId) (g : Trunk → Trunk) (s : State) :
    (s.updTrunk t g).error = s.error := rfl
@[simp] theorem State.updTrunk_draws (t : TrunkId) (g : Trunk → Trunk) (s : State) :
    (s.updTrunk t g).draws = s.draws := rfl
@[simp] theorem State.updTrunk_pending (t : TrunkId) (g : Trunk → Trunk) (s : State) :
    (s.updTrunk t g).pending = s.pending := rfl
@[simp] theorem State.updTrunk_field (t : TrunkId) (g : Trunk → Trunk) (s : State) :
    (s.updTrunk t g).field = s.field.setTrunk t (g s.field.trunks[t]) := rfl
@[simp] theorem State.updChain_setup (t : TrunkId) (g : Chain → Chain) (s : State) :
    (s.updChain t g).setup = s.setup := rfl
@[simp] theorem State.updChain_faults (t : TrunkId) (g : Chain → Chain) (s : State) :
    (s.updChain t g).faults = s.faults := rfl
@[simp] theorem State.updChain_board (t : TrunkId) (g : Chain → Chain) (s : State) :
    (s.updChain t g).board = s.board := rfl
@[simp] theorem State.updChain_error (t : TrunkId) (g : Chain → Chain) (s : State) :
    (s.updChain t g).error = s.error := rfl
@[simp] theorem State.updChain_draws (t : TrunkId) (g : Chain → Chain) (s : State) :
    (s.updChain t g).draws = s.draws := rfl
@[simp] theorem State.updChain_pending (t : TrunkId) (g : Chain → Chain) (s : State) :
    (s.updChain t g).pending = s.pending := rfl
@[simp] theorem State.updChain_field (t : TrunkId) (g : Chain → Chain) (s : State) :
    (s.updChain t g).field = s.field.setChain t (g s.field.chains[t]) := rfl
@[simp] theorem State.setOp_setup (o : OpId) (x : Op) (s : State) : (s.setOp o x).setup = s.setup := rfl
@[simp] theorem State.setOp_faults (o : OpId) (x : Op) (s : State) : (s.setOp o x).faults = s.faults := rfl
@[simp] theorem State.setOp_board (o : OpId) (x : Op) (s : State) : (s.setOp o x).board = s.board := rfl
@[simp] theorem State.setOp_error (o : OpId) (x : Op) (s : State) : (s.setOp o x).error = s.error := rfl
@[simp] theorem State.setOp_draws (o : OpId) (x : Op) (s : State) : (s.setOp o x).draws = s.draws := rfl
@[simp] theorem State.setOp_pending (o : OpId) (x : Op) (s : State) : (s.setOp o x).pending = s.pending := rfl
@[simp] theorem State.setOp_field (o : OpId) (x : Op) (s : State) : (s.setOp o x).field = s.field.setOp o x := rfl
@[simp] theorem State.updDesk_setup (d : DeskId) (g : Desk → Desk) (s : State) : (s.updDesk d g).setup = s.setup := rfl
@[simp] theorem State.updDesk_faults (d : DeskId) (g : Desk → Desk) (s : State) :
    (s.updDesk d g).faults = s.faults := rfl
@[simp] theorem State.updDesk_field (d : DeskId) (g : Desk → Desk) (s : State) : (s.updDesk d g).field = s.field := rfl
@[simp] theorem State.updDesk_error (d : DeskId) (g : Desk → Desk) (s : State) : (s.updDesk d g).error = s.error := rfl
@[simp] theorem State.updDesk_draws (d : DeskId) (g : Desk → Desk) (s : State) : (s.updDesk d g).draws = s.draws := rfl
@[simp] theorem State.updDesk_pending (d : DeskId) (g : Desk → Desk) (s : State) :
    (s.updDesk d g).pending = s.pending := rfl
@[simp] theorem State.updDesk_board (d : DeskId) (g : Desk → Desk) (s : State) :
    (s.updDesk d g).board = s.board.updDesk d g := rfl
@[simp] theorem State.updLink_setup (d : DeskId) (g : Link → Link) (s : State) : (s.updLink d g).setup = s.setup := rfl
@[simp] theorem State.updLink_faults (d : DeskId) (g : Link → Link) (s : State) :
    (s.updLink d g).faults = s.faults := rfl
@[simp] theorem State.updLink_field (d : DeskId) (g : Link → Link) (s : State) : (s.updLink d g).field = s.field := rfl
@[simp] theorem State.updLink_error (d : DeskId) (g : Link → Link) (s : State) : (s.updLink d g).error = s.error := rfl
@[simp] theorem State.updLink_draws (d : DeskId) (g : Link → Link) (s : State) : (s.updLink d g).draws = s.draws := rfl
@[simp] theorem State.updLink_pending (d : DeskId) (g : Link → Link) (s : State) :
    (s.updLink d g).pending = s.pending := rfl
@[simp] theorem State.updLink_board (d : DeskId) (g : Link → Link) (s : State) :
    (s.updLink d g).board = s.board.updLink d g := rfl
@[simp] theorem State.writeRecord_setup (r : FaultRecord) (s : State) : (s.writeRecord r).setup = s.setup := rfl
@[simp] theorem State.writeRecord_board (r : FaultRecord) (s : State) : (s.writeRecord r).board = s.board := rfl
@[simp] theorem State.writeRecord_field (r : FaultRecord) (s : State) : (s.writeRecord r).field = s.field := rfl
@[simp] theorem State.writeRecord_error (r : FaultRecord) (s : State) : (s.writeRecord r).error = s.error := rfl
@[simp] theorem State.writeRecord_draws (r : FaultRecord) (s : State) : (s.writeRecord r).draws = s.draws := rfl
@[simp] theorem State.writeRecord_pending (r : FaultRecord) (s : State) : (s.writeRecord r).pending = s.pending := rfl
@[simp] theorem State.writeRecord_faults (r : FaultRecord) (s : State) :
    (s.writeRecord r).faults = s.faults.write r := rfl
@[simp] theorem State.hand_setup (t : TrunkId) (f : DownFrame) (s : State) : (s.hand t f).setup = s.setup := rfl
@[simp] theorem State.hand_faults (t : TrunkId) (f : DownFrame) (s : State) : (s.hand t f).faults = s.faults := rfl
@[simp] theorem State.hand_board (t : TrunkId) (f : DownFrame) (s : State) : (s.hand t f).board = s.board := rfl
@[simp] theorem State.hand_error (t : TrunkId) (f : DownFrame) (s : State) : (s.hand t f).error = s.error := rfl
@[simp] theorem State.hand_draws (t : TrunkId) (f : DownFrame) (s : State) : (s.hand t f).draws = s.draws := rfl
@[simp] theorem State.hand_pending (t : TrunkId) (f : DownFrame) (s : State) : (s.hand t f).pending = s.pending := rfl
@[simp] theorem State.hand_field (t : TrunkId) (f : DownFrame) (s : State) :
    (s.hand t f).field = s.field.setTrunk t (s.field.trunks[t].hand f) := rfl
@[simp] theorem State.take_setup (t : TrunkId) (s : State) : (s.take t).setup = s.setup := rfl
@[simp] theorem State.take_faults (t : TrunkId) (s : State) : (s.take t).faults = s.faults := rfl
@[simp] theorem State.take_board (t : TrunkId) (s : State) : (s.take t).board = s.board := rfl
@[simp] theorem State.take_error (t : TrunkId) (s : State) : (s.take t).error = s.error := rfl
@[simp] theorem State.take_draws (t : TrunkId) (s : State) : (s.take t).draws = s.draws := rfl
@[simp] theorem State.take_pending (t : TrunkId) (s : State) : (s.take t).pending = s.pending := rfl
@[simp] theorem State.take_field (t : TrunkId) (s : State) :
    (s.take t).field = s.field.setTrunk t s.field.trunks[t].pop := rfl
@[simp] theorem State.countError_setup (t : TrunkId) (e : TrunkError) (s : State) :
    (s.countError t e).setup = s.setup := rfl
@[simp] theorem State.countError_faults (t : TrunkId) (e : TrunkError) (s : State) :
    (s.countError t e).faults = s.faults := rfl
@[simp] theorem State.countError_board (t : TrunkId) (e : TrunkError) (s : State) :
    (s.countError t e).board = s.board := rfl
@[simp] theorem State.countError_error (t : TrunkId) (e : TrunkError) (s : State) :
    (s.countError t e).error = s.error := rfl
@[simp] theorem State.countError_draws (t : TrunkId) (e : TrunkError) (s : State) :
    (s.countError t e).draws = s.draws := rfl
@[simp] theorem State.countError_pending (t : TrunkId) (e : TrunkError) (s : State) :
    (s.countError t e).pending = s.pending := rfl
@[simp] theorem State.countError_field (t : TrunkId) (e : TrunkError) (s : State) :
    (s.countError t e).field = s.field.setTrunk t (s.field.trunks[t].count e) := rfl
@[simp] theorem State.push_setup (d : DeskId) (c : Byte) (own : Bool) (r : Verdict) (s : State) :
    (s.push d c own r).setup = s.setup := rfl
@[simp] theorem State.push_faults (d : DeskId) (c : Byte) (own : Bool) (r : Verdict) (s : State) :
    (s.push d c own r).faults = s.faults := rfl
@[simp] theorem State.push_field (d : DeskId) (c : Byte) (own : Bool) (r : Verdict) (s : State) :
    (s.push d c own r).field = s.field := rfl
@[simp] theorem State.push_error (d : DeskId) (c : Byte) (own : Bool) (r : Verdict) (s : State) :
    (s.push d c own r).error = s.error := rfl
@[simp] theorem State.push_draws (d : DeskId) (c : Byte) (own : Bool) (r : Verdict) (s : State) :
    (s.push d c own r).draws = s.draws := rfl
@[simp] theorem State.push_pending (d : DeskId) (c : Byte) (own : Bool) (r : Verdict) (s : State) :
    (s.push d c own r).pending = s.pending := rfl
@[simp] theorem State.push_board (d : DeskId) (c : Byte) (own : Bool) (r : Verdict) (s : State) :
    (s.push d c own r).board = s.board.updLink d (Link.push c own r) := rfl
@[simp] theorem State.errorOn_setup (t : TrunkId) (e : TrunkError) (p : Place) (s : State) :
    (s.errorOn t e p).setup = s.setup := rfl
@[simp] theorem State.errorOn_faults (t : TrunkId) (e : TrunkError) (p : Place) (s : State) :
    (s.errorOn t e p).faults = s.faults := rfl
@[simp] theorem State.errorOn_board (t : TrunkId) (e : TrunkError) (p : Place) (s : State) :
    (s.errorOn t e p).board = s.board := rfl
@[simp] theorem State.errorOn_draws (t : TrunkId) (e : TrunkError) (p : Place) (s : State) :
    (s.errorOn t e p).draws = s.draws := rfl
@[simp] theorem State.errorOn_pending (t : TrunkId) (e : TrunkError) (p : Place) (s : State) :
    (s.errorOn t e p).pending = s.pending := rfl
@[simp] theorem State.errorOn_field (t : TrunkId) (e : TrunkError) (p : Place) (s : State) :
    (s.errorOn t e p).field = s.field.setTrunk t (s.field.trunks[t].count e) := rfl
@[simp] theorem State.errorOn_error (t : TrunkId) (e : TrunkError) (p : Place) (s : State) :
    (s.errorOn t e p).error = ⟨.trunk e, p, some s.setup.time, (s.error.writes + 1) % 65536⟩ := rfl

/-! ## Records of the field side -/

@[simp] theorem Field.setStation_trunks (n : StationId) (x : Station) (f : Field) :
    (f.setStation n x).trunks = f.trunks := rfl
@[simp] theorem Field.setStation_chains (n : StationId) (x : Station) (f : Field) :
    (f.setStation n x).chains = f.chains := rfl
@[simp] theorem Field.setStation_ops (n : StationId) (x : Station) (f : Field) : (f.setStation n x).ops = f.ops := rfl
@[simp] theorem Field.setStation_lastOp (n : StationId) (x : Station) (f : Field) :
    (f.setStation n x).lastOp = f.lastOp := rfl
@[simp] theorem Field.setTrunk_stations (t : TrunkId) (x : Trunk) (f : Field) :
    (f.setTrunk t x).stations = f.stations := rfl
@[simp] theorem Field.setTrunk_chains (t : TrunkId) (x : Trunk) (f : Field) : (f.setTrunk t x).chains = f.chains := rfl
@[simp] theorem Field.setTrunk_ops (t : TrunkId) (x : Trunk) (f : Field) : (f.setTrunk t x).ops = f.ops := rfl
@[simp] theorem Field.setTrunk_lastOp (t : TrunkId) (x : Trunk) (f : Field) : (f.setTrunk t x).lastOp = f.lastOp := rfl
@[simp] theorem Field.setChain_stations (t : TrunkId) (x : Chain) (f : Field) :
    (f.setChain t x).stations = f.stations := rfl
@[simp] theorem Field.setChain_trunks (t : TrunkId) (x : Chain) (f : Field) : (f.setChain t x).trunks = f.trunks := rfl
@[simp] theorem Field.setChain_ops (t : TrunkId) (x : Chain) (f : Field) : (f.setChain t x).ops = f.ops := rfl
@[simp] theorem Field.setChain_lastOp (t : TrunkId) (x : Chain) (f : Field) : (f.setChain t x).lastOp = f.lastOp := rfl
@[simp] theorem Field.setOp_stations (o : OpId) (x : Op) (f : Field) : (f.setOp o x).stations = f.stations := rfl
@[simp] theorem Field.setOp_trunks (o : OpId) (x : Op) (f : Field) : (f.setOp o x).trunks = f.trunks := rfl
@[simp] theorem Field.setOp_chains (o : OpId) (x : Op) (f : Field) : (f.setOp o x).chains = f.chains := rfl
@[simp] theorem Field.setOp_lastOp (o : OpId) (x : Op) (f : Field) : (f.setOp o x).lastOp = f.lastOp := rfl
@[simp] theorem Field.freeOp_stations (o : OpId) (f : Field) : (f.freeOp o).stations = f.stations := rfl
@[simp] theorem Field.freeOp_trunks (o : OpId) (f : Field) : (f.freeOp o).trunks = f.trunks := rfl
@[simp] theorem Field.freeOp_chains (o : OpId) (f : Field) : (f.freeOp o).chains = f.chains := rfl
@[simp] theorem Field.freeOp_lastOp (o : OpId) (f : Field) : (f.freeOp o).lastOp = f.lastOp := rfl
@[simp] theorem Field.setTrunk_trunks (t : TrunkId) (x : Trunk) (f : Field) :
    (f.setTrunk t x).trunks = f.trunks.set t x := rfl
@[simp] theorem Field.setChain_chains (t : TrunkId) (x : Chain) (f : Field) :
    (f.setChain t x).chains = f.chains.set t x := rfl
@[simp] theorem Field.setOp_ops (o : OpId) (x : Op) (f : Field) : (f.setOp o x).ops = f.ops.put o x := rfl
@[simp] theorem Field.freeOp_ops (o : OpId) (f : Field) : (f.freeOp o).ops = f.ops.erase o := rfl

theorem Field.station_setStation (n m : StationId) (x : Station) (f : Field) :
    (f.setStation n x).station m = if n = m then x else f.station m := Table.get_store ({} : Station) f.stations n m x

@[simp] theorem Field.station_setStation_self (n : StationId) (x : Station) (f : Field) :
    (f.setStation n x).station n = x := by simp [Field.station_setStation]

@[simp] theorem Field.station_setTrunk (t : TrunkId) (x : Trunk) (f : Field) (n : StationId) :
    (f.setTrunk t x).station n = f.station n := rfl

@[simp] theorem Field.station_setChain (t : TrunkId) (x : Chain) (f : Field) (n : StationId) :
    (f.setChain t x).station n = f.station n := rfl

@[simp] theorem Field.station_setOp (o : OpId) (x : Op) (f : Field) (n : StationId) :
    (f.setOp o x).station n = f.station n := rfl

@[simp] theorem Field.station_freeOp (o : OpId) (f : Field) (n : StationId) : (f.freeOp o).station n = f.station n := rfl

/-! ## Records of the desks' side -/

@[simp] theorem Board.updDesk_incidents (d : DeskId) (g : Desk → Desk) (b : Board) :
    (b.updDesk d g).incidents = b.incidents := rfl
@[simp] theorem Board.updDesk_aging (d : DeskId) (g : Desk → Desk) (b : Board) : (b.updDesk d g).aging = b.aging := rfl
@[simp] theorem Board.updDesk_queues (d : DeskId) (g : Desk → Desk) (b : Board) :
    (b.updDesk d g).queues = b.queues := rfl
@[simp] theorem Board.updDesk_stirs (d : DeskId) (g : Desk → Desk) (b : Board) : (b.updDesk d g).stirs = b.stirs := rfl
@[simp] theorem Board.updDesk_pointers (d : DeskId) (g : Desk → Desk) (b : Board) :
    (b.updDesk d g).pointers = b.pointers := rfl
@[simp] theorem Board.updDesk_timeouts (d : DeskId) (g : Desk → Desk) (b : Board) :
    (b.updDesk d g).timeouts = b.timeouts := rfl
@[simp] theorem Board.updDesk_links (d : DeskId) (g : Desk → Desk) (b : Board) : (b.updDesk d g).links = b.links := rfl
@[simp] theorem Board.updDesk_incident (d : DeskId) (g : Desk → Desk) (b : Board) (j : IncidentId) :
    (b.updDesk d g).incident j = b.incident j := rfl
@[simp] theorem Board.updDesk_change (d : DeskId) (g : Desk → Desk) (b : Board) (j : IncidentId) :
    (b.updDesk d g).change j = b.change j := rfl
@[simp] theorem Board.updLink_incidents (d : DeskId) (g : Link → Link) (b : Board) :
    (b.updLink d g).incidents = b.incidents := rfl
@[simp] theorem Board.updLink_aging (d : DeskId) (g : Link → Link) (b : Board) : (b.updLink d g).aging = b.aging := rfl
@[simp] theorem Board.updLink_queues (d : DeskId) (g : Link → Link) (b : Board) :
    (b.updLink d g).queues = b.queues := rfl
@[simp] theorem Board.updLink_stirs (d : DeskId) (g : Link → Link) (b : Board) : (b.updLink d g).stirs = b.stirs := rfl
@[simp] theorem Board.updLink_pointers (d : DeskId) (g : Link → Link) (b : Board) :
    (b.updLink d g).pointers = b.pointers := rfl
@[simp] theorem Board.updLink_timeouts (d : DeskId) (g : Link → Link) (b : Board) :
    (b.updLink d g).timeouts = b.timeouts := rfl
@[simp] theorem Board.updLink_desks (d : DeskId) (g : Link → Link) (b : Board) : (b.updLink d g).desks = b.desks := rfl
@[simp] theorem Board.updLink_incident (d : DeskId) (g : Link → Link) (b : Board) (j : IncidentId) :
    (b.updLink d g).incident j = b.incident j := rfl
@[simp] theorem Board.updLink_change (d : DeskId) (g : Link → Link) (b : Board) (j : IncidentId) :
    (b.updLink d g).change j = b.change j := rfl
@[simp] theorem Board.notify_incidents (d : DeskId) (x : Notice) (b : Board) :
    (b.notify d x).incidents = b.incidents := rfl
@[simp] theorem Board.notify_aging (d : DeskId) (x : Notice) (b : Board) : (b.notify d x).aging = b.aging := rfl
@[simp] theorem Board.notify_queues (d : DeskId) (x : Notice) (b : Board) : (b.notify d x).queues = b.queues := rfl
@[simp] theorem Board.notify_stirs (d : DeskId) (x : Notice) (b : Board) : (b.notify d x).stirs = b.stirs := rfl
@[simp] theorem Board.notify_pointers (d : DeskId) (x : Notice) (b : Board) :
    (b.notify d x).pointers = b.pointers := rfl
@[simp] theorem Board.notify_timeouts (d : DeskId) (x : Notice) (b : Board) :
    (b.notify d x).timeouts = b.timeouts := rfl
@[simp] theorem Board.notify_desks (d : DeskId) (x : Notice) (b : Board) : (b.notify d x).desks = b.desks := rfl
@[simp] theorem Board.notify_incident (d : DeskId) (x : Notice) (b : Board) (j : IncidentId) :
    (b.notify d x).incident j = b.incident j := rfl
@[simp] theorem Board.notify_change (d : DeskId) (x : Notice) (b : Board) (j : IncidentId) :
    (b.notify d x).change j = b.change j := rfl
@[simp] theorem Board.respond_incidents (d : DeskId) (b : Board) : (b.respond d).incidents = b.incidents := rfl
@[simp] theorem Board.respond_aging (d : DeskId) (b : Board) : (b.respond d).aging = b.aging := rfl
@[simp] theorem Board.respond_queues (d : DeskId) (b : Board) : (b.respond d).queues = b.queues := rfl
@[simp] theorem Board.respond_stirs (d : DeskId) (b : Board) : (b.respond d).stirs = b.stirs := rfl
@[simp] theorem Board.respond_pointers (d : DeskId) (b : Board) : (b.respond d).pointers = b.pointers := rfl
@[simp] theorem Board.respond_timeouts (d : DeskId) (b : Board) : (b.respond d).timeouts = b.timeouts := rfl
@[simp] theorem Board.respond_links (d : DeskId) (b : Board) : (b.respond d).links = b.links := rfl
@[simp] theorem Board.respond_incident (d : DeskId) (b : Board) (j : IncidentId) :
    (b.respond d).incident j = b.incident j := rfl
@[simp] theorem Board.respond_change (d : DeskId) (b : Board) (j : IncidentId) :
    (b.respond d).change j = b.change j := rfl
@[simp] theorem Board.lowerCount_incidents (d : DeskId) (b : Board) : (b.lowerCount d).incidents = b.incidents := rfl
@[simp] theorem Board.lowerCount_aging (d : DeskId) (b : Board) : (b.lowerCount d).aging = b.aging := rfl
@[simp] theorem Board.lowerCount_queues (d : DeskId) (b : Board) : (b.lowerCount d).queues = b.queues := rfl
@[simp] theorem Board.lowerCount_stirs (d : DeskId) (b : Board) : (b.lowerCount d).stirs = b.stirs := rfl
@[simp] theorem Board.lowerCount_pointers (d : DeskId) (b : Board) : (b.lowerCount d).pointers = b.pointers := rfl
@[simp] theorem Board.lowerCount_timeouts (d : DeskId) (b : Board) : (b.lowerCount d).timeouts = b.timeouts := rfl
@[simp] theorem Board.lowerCount_links (d : DeskId) (b : Board) : (b.lowerCount d).links = b.links := rfl
@[simp] theorem Board.lowerCount_incident (d : DeskId) (b : Board) (j : IncidentId) :
    (b.lowerCount d).incident j = b.incident j := rfl
@[simp] theorem Board.lowerCount_change (d : DeskId) (b : Board) (j : IncidentId) :
    (b.lowerCount d).change j = b.change j := rfl
@[simp] theorem Board.emptySlot_incidents (d : DeskId) (b : Board) : (b.emptySlot d).incidents = b.incidents := rfl
@[simp] theorem Board.emptySlot_aging (d : DeskId) (b : Board) : (b.emptySlot d).aging = b.aging := rfl
@[simp] theorem Board.emptySlot_queues (d : DeskId) (b : Board) : (b.emptySlot d).queues = b.queues := rfl
@[simp] theorem Board.emptySlot_stirs (d : DeskId) (b : Board) : (b.emptySlot d).stirs = b.stirs := rfl
@[simp] theorem Board.emptySlot_pointers (d : DeskId) (b : Board) : (b.emptySlot d).pointers = b.pointers := rfl
@[simp] theorem Board.emptySlot_timeouts (d : DeskId) (b : Board) : (b.emptySlot d).timeouts = b.timeouts := rfl
@[simp] theorem Board.emptySlot_links (d : DeskId) (b : Board) : (b.emptySlot d).links = b.links := rfl
@[simp] theorem Board.emptySlot_incident (d : DeskId) (b : Board) (j : IncidentId) :
    (b.emptySlot d).incident j = b.incident j := rfl
@[simp] theorem Board.emptySlot_change (d : DeskId) (b : Board) (j : IncidentId) :
    (b.emptySlot d).change j = b.change j := rfl
@[simp] theorem Board.leaveQueue_incidents (g : DeskId) (i : IncidentId) (b : Board) :
    (b.leaveQueue g i).incidents = b.incidents := rfl
@[simp] theorem Board.leaveQueue_aging (g : DeskId) (i : IncidentId) (b : Board) :
    (b.leaveQueue g i).aging = b.aging := rfl
@[simp] theorem Board.leaveQueue_stirs (g : DeskId) (i : IncidentId) (b : Board) : (b.leaveQueue g i).stirs = b.stirs := rfl
@[simp] theorem Board.leaveQueue_pointers (g : DeskId) (i : IncidentId) (b : Board) :
    (b.leaveQueue g i).pointers = b.pointers := rfl
@[simp] theorem Board.leaveQueue_timeouts (g : DeskId) (i : IncidentId) (b : Board) :
    (b.leaveQueue g i).timeouts = b.timeouts := rfl
@[simp] theorem Board.leaveQueue_desks (g : DeskId) (i : IncidentId) (b : Board) :
    (b.leaveQueue g i).desks = b.desks := rfl
@[simp] theorem Board.leaveQueue_links (g : DeskId) (i : IncidentId) (b : Board) :
    (b.leaveQueue g i).links = b.links := rfl
@[simp] theorem Board.leaveQueue_incident (g : DeskId) (i : IncidentId) (b : Board) (j : IncidentId) :
    (b.leaveQueue g i).incident j = b.incident j := rfl
@[simp] theorem Board.leaveQueue_change (g : DeskId) (i : IncidentId) (b : Board) (j : IncidentId) :
    (b.leaveQueue g i).change j = b.change j := rfl
@[simp] theorem Board.enterQueue_incidents (g : DeskId) (i : IncidentId) (b : Board) :
    (b.enterQueue g i).incidents = b.incidents := rfl
@[simp] theorem Board.enterQueue_aging (g : DeskId) (i : IncidentId) (b : Board) :
    (b.enterQueue g i).aging = b.aging := rfl
@[simp] theorem Board.enterQueue_stirs (g : DeskId) (i : IncidentId) (b : Board) :
    (b.enterQueue g i).stirs = b.stirs.set g (b.stirs[g] + 1) := rfl
@[simp] theorem Board.enterQueue_pointers (g : DeskId) (i : IncidentId) (b : Board) :
    (b.enterQueue g i).pointers = b.pointers := rfl
@[simp] theorem Board.enterQueue_timeouts (g : DeskId) (i : IncidentId) (b : Board) :
    (b.enterQueue g i).timeouts = b.timeouts := rfl
@[simp] theorem Board.enterQueue_desks (g : DeskId) (i : IncidentId) (b : Board) :
    (b.enterQueue g i).desks = b.desks := rfl
@[simp] theorem Board.enterQueue_links (g : DeskId) (i : IncidentId) (b : Board) :
    (b.enterQueue g i).links = b.links := rfl
@[simp] theorem Board.enterQueue_incident (g : DeskId) (i : IncidentId) (b : Board) (j : IncidentId) :
    (b.enterQueue g i).incident j = b.incident j := rfl
@[simp] theorem Board.enterQueue_change (g : DeskId) (i : IncidentId) (b : Board) (j : IncidentId) :
    (b.enterQueue g i).change j = b.change j := rfl
@[simp] theorem Board.updDesk_desks (d : DeskId) (g : Desk → Desk) (b : Board) :
    (b.updDesk d g).desks = b.desks.set d (g b.desks[d]) := rfl
@[simp] theorem Board.updLink_links (d : DeskId) (g : Link → Link) (b : Board) :
    (b.updLink d g).links = b.links.set d (g b.links[d]) := rfl
@[simp] theorem Board.notify_links (d : DeskId) (x : Notice) (b : Board) :
    (b.notify d x).links = b.links.set d (b.links[d].take x) := rfl
@[simp] theorem Board.setAging_incidents (i : IncidentId) (x : Option Boundary) (b : Board) :
    (b.setAging i x).incidents = b.incidents := by cases x <;> rfl
@[simp] theorem Board.setAging_queues (i : IncidentId) (x : Option Boundary) (b : Board) :
    (b.setAging i x).queues = b.queues := by cases x <;> rfl
@[simp] theorem Board.setAging_stirs (i : IncidentId) (x : Option Boundary) (b : Board) :
    (b.setAging i x).stirs = b.stirs := by cases x <;> rfl
@[simp] theorem Board.setAging_pointers (i : IncidentId) (x : Option Boundary) (b : Board) :
    (b.setAging i x).pointers = b.pointers := by cases x <;> rfl
@[simp] theorem Board.setAging_timeouts (i : IncidentId) (x : Option Boundary) (b : Board) :
    (b.setAging i x).timeouts = b.timeouts := by cases x <;> rfl
@[simp] theorem Board.setAging_desks (i : IncidentId) (x : Option Boundary) (b : Board) :
    (b.setAging i x).desks = b.desks := by cases x <;> rfl
@[simp] theorem Board.setAging_links (i : IncidentId) (x : Option Boundary) (b : Board) :
    (b.setAging i x).links = b.links := by cases x <;> rfl
@[simp] theorem Board.setAging_incident (i : IncidentId) (x : Option Boundary) (b : Board) (j : IncidentId) :
    (b.setAging i x).incident j = b.incident j := by cases x <;> rfl

/-! ## One record read after a write -/

theorem Vector.getElem_set_fin {α : Type} {n : Nat} (v : Vector α n) (i j : Fin n) (x : α) :
    (v.set i x)[j] = if i = j then x else v[j] := by
  simp only [Fin.getElem_fin, Vector.getElem_set, Fin.ext_iff]

@[simp] theorem State.trunk_updTrunk_self (t : TrunkId) (g : Trunk → Trunk) (s : State) :
    (s.updTrunk t g).trunk t = g (s.trunk t) := by simp [State.trunk, State.updTrunk, State.onField]

theorem State.trunk_updTrunk (t u : TrunkId) (g : Trunk → Trunk) (s : State) :
    (s.updTrunk t g).trunk u = if t = u then g (s.trunk t) else s.trunk u := by
  exact Vector.getElem_set_fin s.field.trunks t u (g s.field.trunks[t])

@[simp] theorem State.chain_updChain_self (t : TrunkId) (g : Chain → Chain) (s : State) :
    (s.updChain t g).chain t = g (s.chain t) := by simp [State.chain, State.updChain, State.onField]

@[simp] theorem State.station_updStation_self (n : StationId) (g : Station → Station) (s : State) :
    (s.updStation n g).station n = g (s.station n) := by simp [State.station, State.updStation, State.onField]

theorem State.station_updStation (n m : StationId) (g : Station → Station) (s : State) :
    (s.updStation n g).station m = if n = m then g (s.station n) else s.station m := by
  simp [State.station, State.updStation, State.onField, Field.station_setStation]

@[simp] theorem State.roster_updStation (n m : StationId) (g : Station → Station) (s : State) :
    (s.updStation n g).roster m = s.roster m := rfl

@[simp] theorem Board.updLink_links_self (d : DeskId) (g : Link → Link) (b : Board) :
    (b.updLink d g).links[d] = g b.links[d] := by simp [Board.updLink]

@[simp] theorem Board.updDesk_desks_self (d : DeskId) (g : Desk → Desk) (b : Board) :
    (b.updDesk d g).desks[d] = g b.desks[d] := by simp [Board.updDesk]

theorem Board.getElem_updLink (d e : DeskId) (g : Link → Link) (b : Board) :
    (b.updLink d g).links[e] = if d = e then g b.links[d] else b.links[e] := by
  exact Vector.getElem_set_fin b.links d e (g b.links[d])

theorem Board.getElem_updDesk (d e : DeskId) (g : Desk → Desk) (b : Board) :
    (b.updDesk d g).desks[e] = if d = e then g b.desks[d] else b.desks[e] := by
  exact Vector.getElem_set_fin b.desks d e (g b.desks[d])

end Sys2Proof.Machine
end

