-- ==== Sys2Proof/Laws/Event.lean ====
section
/-! SUPPORT. The end of an event: what a run of a group and the beginning of the lines can do, said once. -/

namespace Sys2Proof.Machine

/-! ## Records kept -/

theorem Offered.refl (able : Bool) (l : Link) (x : Desk) : Offered able l l x x := .inl ⟨rfl, rfl⟩

theorem RecordEnd.refl (r : IncidentRecord) : RecordEnd r r := .inl rfl

theorem RecordEnd.trans {a b c : IncidentRecord} (h : RecordEnd a b) (k : RecordEnd b c) : RecordEnd a c := by
  rcases h with rfl | ⟨x, hx, hn, rfl⟩
  · exact k
  · rcases k with rfl | ⟨y, hy, hm, rfl⟩
    · exact .inr ⟨x, hx, hn, rfl⟩
    · simp only [Option.some.injEq] at hy
      subst hy
      exact absurd rfl hm

/-- A record that the end of an event changes stays changed. -/
theorem RecordEnd.changed {a b c : IncidentRecord} (h : RecordEnd a b) (k : RecordEnd b c) (hne : b ≠ a ∨ c ≠ b) :
    c ≠ a := by
  rcases h with rfl | ⟨x, hx, hn, rfl⟩
  · simpa using hne
  · have hc : c = ⟨(a.change + 1) % 65536, some { x with state := .offered }⟩ := by
      rcases k with rfl | ⟨y, hy, hm, rfl⟩
      · rfl
      · simp only [Option.some.injEq] at hy
        subst hy
        exact absurd rfl hm
    rintro rfl
    rw [hc] at hx
    simp only [Option.some.injEq] at hx
    exact hn (by rw [← hx])

/-- Eligibility reads one desk and its link, and the settings. -/
theorem eligible_congr (a : Settings) {b c : Board} {d : DeskId} (hl : (c.links[d]).up = (b.links[d]).up)
    (hd : c.desks[d] = b.desks[d]) : eligible a c d = eligible a b d := by simp only [eligible, hl, hd]

/-- A desk with a filled slot is not eligible. -/
theorem not_eligible {a : Settings} {b : Board} {d : DeskId} {o : Offer} (h : b.desks[d].slot = some o) :
    eligible a b d = false := by
  simp only [eligible, h, Option.isNone_some, Bool.and_false, Bool.false_and]

/-- What the arbiter's runs leave of a board. -/
structure RunKept (a : Settings) (b c : Board) : Prop where
  aging    : c.aging = b.aging
  timeouts : c.timeouts = b.timeouts
  stirs    : c.stirs = b.stirs
  desks    : ∀ d : DeskId, Offered (eligible a b d) b.links[d] c.links[d] b.desks[d] c.desks[d]
  records  : ∀ i, RecordEnd (b.record i) (c.record i)
  queues   : ∀ g : DeskId, (c.queues[g]).Sublist b.queues[g] ∧ ∀ i ∈ b.queues[g], i ∉ c.queues[g] → c.record i ≠ b.record i
  pointers : ∀ g : DeskId, c.pointers[g] = b.pointers[g] ∨
    ∃ d : DeskId, c.pointers[g] = d ∧ inGroup a g d = true ∧ (b.desks[d]).slot = none ∧ (c.desks[d]).slot ≠ none

theorem RunKept.refl (a : Settings) (b : Board) : RunKept a b b :=
  ⟨rfl, rfl, rfl, fun _ => .refl _ _ _, fun _ => .refl _, fun _ => ⟨List.Sublist.refl _, fun _ h k => absurd h k⟩,
    fun _ => .inl rfl⟩

/-- A slot that a run has filled stays filled. -/
theorem Offered.filled {able : Bool} {l m : Link} {x y : Desk} (h : Offered able l m x y) (hx : x.slot ≠ none) :
    y.slot ≠ none := by
  rcases h with ⟨rfl, -⟩ | ⟨-, o, n, u, rfl, -⟩
  · exact hx
  · simp

/-- A slot that a run leaves empty was empty. -/
theorem Offered.emptied {able : Bool} {l m : Link} {x y : Desk} (h : Offered able l m x y) (hy : y.slot = none) :
    x.slot = none := by
  by_contra hx
  exact h.filled hx hy

theorem RunKept.trans {x : Settings} {a b c : Board} (h : RunKept x a b) (k : RunKept x b c) : RunKept x a c := by
  refine ⟨k.aging.trans h.aging, k.timeouts.trans h.timeouts, k.stirs.trans h.stirs, fun d => ?_,
    fun i => (h.records i).trans (k.records i),
    fun g => ⟨(k.queues g).1.trans (h.queues g).1, fun i hi hn => ?_⟩, fun g => ?_⟩
  · rcases h.desks d with ⟨hd, hl⟩ | ⟨he, o, n, u, hd, hl⟩
    · have := k.desks d
      rwa [hd, hl, eligible_congr x (by rw [hl]) hd] at this
    · rcases k.desks d with ⟨kd, kl⟩ | ⟨ke, -⟩
      · exact .inr ⟨he, o, n, u, kd.trans hd, kl.trans hl⟩
      · rw [not_eligible (o := o) (by rw [hd])] at ke
        cases ke
  · refine (h.records i).changed (k.records i) ?_
    by_cases hb : i ∈ b.queues[g]
    · exact .inr ((k.queues g).2 i hb hn)
    · exact .inl ((h.queues g).2 i hi hb)
  · rcases k.pointers g with hp | ⟨d, hd, hg, h0, h1⟩
    · rcases h.pointers g with hq | ⟨d, hd, hg, h0, h1⟩
      · exact .inl (hp.trans hq)
      · exact .inr ⟨d, hp.trans hd, hg, h0, (k.desks d).filled h1⟩
    · exact .inr ⟨d, hd, hg, (h.desks d).emptied h0, h1⟩

/-- A fold of steps each of which keeps the board keeps it. -/
theorem RunKept.foldl {a : Settings} {α : Type} (f : Board → α → Board) (h : ∀ b x, RunKept a b (f b x)) (l : List α)
    (b : Board) : RunKept a b (l.foldl f b) := by
  induction l generalizing b with
  | nil => exact .refl a b
  | cons x rest ih => exact (h b x).trans (ih _)

/-- Every line begins its next frame once. -/
theorem Board.beginLines_links (b : Board) (d : DeskId) : b.beginLines.links[d] = (b.links[d]).begin := by
  fin_cases d <;> simp [Board.beginLines, allDesks, Board.updLink]

/-- The beginning of the lines changes the links alone. -/
theorem Board.beginLines_eq (b : Board) : b.beginLines = { b with links := b.beginLines.links } := by
  have h : ∀ (l : List DeskId) (b : Board), l.foldl (fun b d => b.updLink d Link.begin) b =
      { b with links := (l.foldl (fun b d => b.updLink d Link.begin) b).links } := by
    intro l
    induction l with
    | nil => exact fun _ => rfl
    | cons d rest ih =>
      intro b
      rw [List.foldl_cons, ih]
      rfl
  exact h allDesks b

@[simp] theorem Board.beginLines_desks (b : Board) : b.beginLines.desks = b.desks := by rw [beginLines_eq]

@[simp] theorem Board.beginLines_queues (b : Board) : b.beginLines.queues = b.queues := by rw [beginLines_eq]

@[simp] theorem Board.beginLines_pointers (b : Board) : b.beginLines.pointers = b.pointers := by rw [beginLines_eq]

@[simp] theorem Board.beginLines_aging (b : Board) : b.beginLines.aging = b.aging := by rw [beginLines_eq]

@[simp] theorem Board.beginLines_timeouts (b : Board) : b.beginLines.timeouts = b.timeouts := by rw [beginLines_eq]

@[simp] theorem Board.beginLines_stirs (b : Board) : b.beginLines.stirs = b.stirs := by rw [beginLines_eq]

@[simp] theorem Board.beginLines_record (b : Board) (i : IncidentId) : b.beginLines.record i = b.record i := by
  rw [beginLines_eq]
  rfl

/-! ## Writing one incident -/

@[simp] theorem Board.writeIncident_links (i : IncidentId) (new : Incident) (b : Board) :
    (b.writeIncident i new).links = b.links := by simp only [Board.writeIncident]; split <;> rfl

@[simp] theorem Board.writeIncident_desks (i : IncidentId) (new : Incident) (b : Board) :
    (b.writeIncident i new).desks = b.desks := by simp only [Board.writeIncident]; split <;> rfl

@[simp] theorem Board.writeIncident_aging (i : IncidentId) (new : Incident) (b : Board) :
    (b.writeIncident i new).aging = b.aging := by simp only [Board.writeIncident]; split <;> rfl

@[simp] theorem Board.writeIncident_timeouts (i : IncidentId) (new : Incident) (b : Board) :
    (b.writeIncident i new).timeouts = b.timeouts := by simp only [Board.writeIncident]; split <;> rfl

@[simp] theorem Board.writeIncident_pointers (i : IncidentId) (new : Incident) (b : Board) :
    (b.writeIncident i new).pointers = b.pointers := by simp only [Board.writeIncident]; split <;> rfl

@[simp] theorem Board.writeIncident_queues (i : IncidentId) (new : Incident) (b : Board) :
    (b.writeIncident i new).queues = b.queues := by simp only [Board.writeIncident]; split <;> rfl

@[simp] theorem Board.writeIncident_stirs (i : IncidentId) (new : Incident) (b : Board) :
    (b.writeIncident i new).stirs = b.stirs := by simp only [Board.writeIncident]; split <;> rfl

theorem Board.writeIncident_incident (i j : IncidentId) (new : Incident) (b : Board) :
    (b.writeIncident i new).incident j = if i = j then some new else b.incident j := by
  simp only [Board.writeIncident]
  split
  · next h =>
    split
    · next hij => subst hij; exact h
    · rfl
  · simp only [Board.incident, Board.record]
    rw [Table.get_store ({} : IncidentRecord)]
    split <;> rfl

@[simp] theorem Board.requeue_links (i : IncidentId) (old : Option Incident) (new : Incident) (b : Board) :
    (b.requeue i old new).links = b.links := by
  simp only [Board.requeue]; split <;> (try rfl); split <;> split <;> rfl

@[simp] theorem Board.requeue_desks (i : IncidentId) (old : Option Incident) (new : Incident) (b : Board) :
    (b.requeue i old new).desks = b.desks := by
  simp only [Board.requeue]; split <;> (try rfl); split <;> split <;> rfl

@[simp] theorem Board.requeue_aging (i : IncidentId) (old : Option Incident) (new : Incident) (b : Board) :
    (b.requeue i old new).aging = b.aging := by
  simp only [Board.requeue]; split <;> (try rfl); split <;> split <;> rfl

@[simp] theorem Board.requeue_timeouts (i : IncidentId) (old : Option Incident) (new : Incident) (b : Board) :
    (b.requeue i old new).timeouts = b.timeouts := by
  simp only [Board.requeue]; split <;> (try rfl); split <;> split <;> rfl

@[simp] theorem Board.requeue_pointers (i : IncidentId) (old : Option Incident) (new : Incident) (b : Board) :
    (b.requeue i old new).pointers = b.pointers := by
  simp only [Board.requeue]; split <;> (try rfl); split <;> split <;> rfl

@[simp] theorem Board.requeue_incident (i j : IncidentId) (old : Option Incident) (new : Incident) (b : Board) :
    (b.requeue i old new).incident j = b.incident j := by
  simp only [Board.requeue]; split <;> (try rfl); split <;> split <;> rfl

@[simp] theorem Board.requeue_change (i j : IncidentId) (old : Option Incident) (new : Incident) (b : Board) :
    (b.requeue i old new).change j = b.change j := by
  simp only [Board.requeue]; split <;> (try rfl); split <;> split <;> rfl

/-- R85: what a change of an incident counts in each group's queue: one place taken, in the queue of its group, when it is
OPEN and was not so with this group and urgency before. -/
theorem Board.requeue_stirs (i : IncidentId) (old : Option Incident) (new : Incident) (b : Board) (g : DeskId) :
    (b.requeue i old new).stirs[g] =
      if new.state = .opened ∧ new.group = g ∧ old.bind Incident.standing ≠ some (new.group, new.urgency) then
        b.stirs[g] + 1
      else b.stirs[g] := by
  by_cases hn : new.state = .opened
  · have hs : new.standing = some (new.group, new.urgency) := if_pos hn
    have entered : ∀ c : Board, c.stirs = b.stirs → (c.enterQueue new.group i).stirs[g] =
        if new.group = g then b.stirs[g] + 1 else b.stirs[g] := by
      intro c hc
      refine (Vector.getElem_set_fin ..).trans ?_
      rw [hc]
      split
      · next h => rw [h]
      · rfl
    rcases hb : old.bind Incident.standing with _ | ⟨h, u⟩
    · simp only [Board.requeue, hb, hs, hn, reduceCtorEq, if_false, true_and, ne_eq, not_false_eq_true, and_true]
      exact entered b rfl
    · by_cases ho : (h, u) = (new.group, new.urgency)
      · simp [Board.requeue, hb, hs, ho]
      · simp only [Board.requeue, hb, hs, hn, Option.some.injEq, ho, if_false, true_and, ne_eq, not_false_eq_true, and_true]
        exact entered _ rfl
  · have hs : new.standing = none := if_neg hn
    rw [if_neg fun h => hn h.1]
    rcases hb : old.bind Incident.standing with _ | ⟨h, u⟩ <;>
      simp [Board.requeue, hb, hs]

/-- An event of the arbiter that closes nothing: the record and the queues, and nothing else. -/
theorem Board.commit_arbiter (i : IncidentId) (new : Incident) (b : Board) (h : new.state ≠ .closed) :
    b.commit .arbiter i new = if b.incident i = some new then b
      else (b.writeIncident i new).requeue i (b.incident i) new := by
  simp [Board.commit, h]

/-- R83: an incident offered leaves its group's queue, and no other queue changes. -/
theorem Board.offer_queues {i : IncidentId} {x : Incident} {b : Board} (hi : b.incident i = some x) (g : DeskId) :
    (b.commit .arbiter i { x with state := .offered }).queues[g] =
      if x.state = .opened ∧ x.group = g then (b.queues[g]).filter fun j => decide (j ≠ i) else b.queues[g] := by
  have hc := Board.commit_arbiter i { x with state := .offered } b (by simp)
  by_cases hs : x.state = .opened
  · have hne : b.incident i ≠ some { x with state := .offered } := by
      intro hb
      rw [hi, Option.some.injEq] at hb
      rw [hb] at hs
      cases hs
    rw [if_neg hne, hi] at hc
    simp only [hc, Board.requeue, Option.bind_some, Incident.standing, hs, if_true, Board.leaveQueue,
      Board.writeIncident_queues, reduceCtorEq, if_false, true_and]
    by_cases hg : x.group = g
    · subst hg
      simp
    · rw [if_neg hg]
      exact (Vector.getElem_set_fin ..).trans (if_neg hg)
  · have hq : (b.commit .arbiter i { x with state := .offered }).queues = b.queues := by
      rw [hc]
      split
      · rfl
      · simp only [hi, Board.requeue, Option.bind_some, Incident.standing, hs, if_false, reduceCtorEq, if_true,
          Board.writeIncident_queues]
    rw [if_neg fun h => hs h.1, hq]

/-! ## Offers and runs (R84, R86) -/

theorem offerableTo_spec {b : Board} {g d : DeskId} {i : IncidentId} {x : Incident}
    (h : offerableTo b g d = some (i, x)) : b.incident i = some x ∧ i ∈ b.queues[g] := by
  obtain ⟨j, hm, hj⟩ := List.exists_of_findSome?_eq_some h
  revert hj
  cases hb : b.incident j with
  | none => simp
  | some y =>
    simp only
    split
    · simp
    · intro h; cases h; exact ⟨hb, hm⟩

theorem nextOffer_spec {x : Settings} {b : Board} {g d : DeskId} {i : IncidentId} {y : Incident}
    (h : nextOffer x b g = some (d, i, y)) :
    eligible x b d = true ∧ inGroup x g d = true ∧ b.incident i = some y ∧ i ∈ b.queues[g] := by
  obtain ⟨e, hm, he⟩ := List.exists_of_findSome?_eq_some h
  have hg : inGroup x g e = true := by
    simp only [roundRobin, groupDesks, List.mem_append, List.mem_filter] at hm
    exact hm.elim (·.1.2) (·.1.2)
  by_cases hel : eligible x b e = true
  · simp only [hel, if_true, Option.map_eq_some_iff] at he
    obtain ⟨p, hp, hq⟩ := he
    cases hq
    exact ⟨hel, hg, offerableTo_spec hp⟩
  · simp [hel] at he

theorem eligible_slot {x : Settings} {b : Board} {d : DeskId} (h : eligible x b d = true) : b.desks[d].slot = none := by
  simp only [eligible, Bool.and_eq_true, Option.isNone_iff_eq_none] at h
  exact h.1.2

theorem Board.writeIncident_record (i j : IncidentId) (new : Incident) (b : Board) :
    (b.writeIncident i new).record j =
      if i = j ∧ b.incident i ≠ some new then ⟨(b.change i + 1) % 65536, some new⟩ else b.record j := by
  by_cases h : b.incident i = some new
  · have hw : b.writeIncident i new = b := if_pos h
    simp [hw, h]
  · have hw : b.writeIncident i new =
        { b with incidents := b.incidents.store {} i ⟨(b.change i + 1) % 65536, some new⟩ } := if_neg h
    rw [hw]
    show Table.get {} (Table.store {} b.incidents i _) j = _
    rw [Table.get_store ({} : IncidentRecord)]
    simp only [ne_eq, h, not_false_eq_true, and_true, Board.record]

@[simp] theorem Board.requeue_record (i j : IncidentId) (old : Option Incident) (new : Incident) (b : Board) :
    (b.requeue i old new).record j = b.record j := by
  simp only [Board.requeue]; split <;> (try rfl); split <;> split <;> rfl

/-- R86: what one offer makes of a board. -/
theorem RunKept.makeOffer (c : Setup) (g d : DeskId) (i : IncidentId) (x : Incident) (b : Board)
    (he : eligible c.active b d = true) (hg : inGroup c.active g d = true) (hi : b.incident i = some x) :
    RunKept c.active b (b.makeOffer c g d i x) := by
  have hc := Board.commit_arbiter i { x with state := .offered } b (by simp)
  have hd : (b.commit .arbiter i { x with state := .offered }).desks = b.desks := by rw [hc]; split <;> simp
  have hl : (b.commit .arbiter i { x with state := .offered }).links = b.links := by rw [hc]; split <;> simp
  have ha : (b.commit .arbiter i { x with state := .offered }).aging = b.aging := by rw [hc]; split <;> simp
  have ht : (b.commit .arbiter i { x with state := .offered }).timeouts = b.timeouts := by rw [hc]; split <;> simp
  have hst : (b.commit .arbiter i { x with state := .offered }).stirs = b.stirs := by
    rw [hc]
    split
    · rfl
    · refine Vector.ext fun k hk => ?_
      have := Board.requeue_stirs i (b.incident i) { x with state := .offered }
        (b.writeIncident i { x with state := .offered }) ⟨k, hk⟩
      rw [if_neg (by simp), Board.writeIncident_stirs] at this
      exact this
  have hr : ∀ j, RecordEnd (b.record j) ((b.commit .arbiter i { x with state := .offered }).record j) := by
    intro j
    rw [hc]
    split
    · exact .refl _
    · next hne =>
      rw [Board.requeue_record, Board.writeIncident_record]
      split
      · next h =>
        obtain ⟨rfl, -⟩ := h
        refine .inr ⟨x, hi, fun hs => hne ?_, rfl⟩
        rw [hi, ← hs]
      · exact .refl _
  refine ⟨ha, ht, hst, fun e => ?_, hr, fun h => ?_, fun h => ?_⟩
  · by_cases hde : d = e
    · subst hde
      refine .inr ⟨he, ⟨i, c.time + b.timeouts[g]⟩, (b.commit .arbiter i { x with state := .offered }).change i,
        x.urgency, ?_, ?_⟩
      · show ((b.commit .arbiter i { x with state := .offered }).desks.set d _)[d] = _
        rw [Vector.getElem_set_fin, if_pos rfl, hd]
      · show ((b.commit .arbiter i { x with state := .offered }).links.set d _)[d] = _
        rw [Vector.getElem_set_fin, if_pos rfl, ← hl]
        rfl
    · refine .inl ⟨?_, ?_⟩
      · show ((b.commit .arbiter i { x with state := .offered }).desks.set d _)[e] = _
        rw [Vector.getElem_set_fin, if_neg hde, hd]
      · show ((b.commit .arbiter i { x with state := .offered }).links.set d _)[e] = _
        rw [Vector.getElem_set_fin, if_neg hde, hl]
  · show ((b.commit .arbiter i { x with state := .offered }).queues[h]).Sublist _ ∧
      ∀ j ∈ _, j ∉ (b.commit .arbiter i { x with state := .offered }).queues[h] →
        (b.commit .arbiter i { x with state := .offered }).record j ≠ _
    rw [Board.offer_queues hi]
    split
    · next hs =>
      refine ⟨List.filter_sublist, fun j hj hn => ?_⟩
      have hji : j = i := by
        by_contra hji
        exact hn (List.mem_filter.mpr ⟨hj, by simpa using hji⟩)
      subst hji
      have hne : b.incident j ≠ some { x with state := .offered } := by
        intro hb
        rw [hi, Option.some.injEq] at hb
        have := congrArg Incident.state hb
        rw [hs.1] at this
        cases this
      rw [hc, if_neg hne, Board.requeue_record, Board.writeIncident_record, if_pos ⟨rfl, hne⟩]
      intro hb
      exact hne (by rw [Board.incident, ← hb])
    · exact ⟨List.Sublist.refl _, fun j hj hn => absurd hj hn⟩
  · have hp : (b.commit .arbiter i { x with state := .offered }).pointers = b.pointers := by
      rw [hc]; split <;> simp
    show ((b.commit .arbiter i { x with state := .offered }).pointers.set g d)[h] = _ ∨ ∃ e : DeskId,
      ((b.commit .arbiter i { x with state := .offered }).pointers.set g d)[h] = e ∧ inGroup c.active h e = true ∧
        (b.desks[e]).slot = none ∧
        (((b.commit .arbiter i { x with state := .offered }).desks.set d
          { (b.commit .arbiter i { x with state := .offered }).desks[d] with
            slot := some ⟨i, c.time + b.timeouts[g]⟩ })[e]).slot ≠ none
    rw [Vector.getElem_set_fin, hp, hd]
    split
    · next hgh =>
      subst hgh
      refine .inr ⟨d, rfl, hg, eligible_slot he, ?_⟩
      rw [Vector.getElem_set_fin, if_pos rfl]
      simp
    · exact .inl rfl

theorem RunKept.runSteps (c : Setup) (g : DeskId) (fuel : Nat) (b : Board) :
    RunKept c.active b (runSteps c g fuel b) := by
  induction fuel generalizing b with
  | zero => exact .refl _ b
  | succ fuel ih =>
    simp only [Machine.runSteps]
    split
    · next h => exact (RunKept.makeOffer c g _ _ _ b (nextOffer_spec h).1 (nextOffer_spec h).2.1 (nextOffer_spec h).2.2.1).trans (ih _)
    · exact .refl _ b

/-- R84: a run keeps all but slots, pointers, queues, and the incidents it offers. -/
theorem RunKept.run (c : Setup) (g : DeskId) (b : Board) : RunKept c.active b (b.run c g) := .runSteps c g 6 b

theorem RunKept.runsAfter (c : Setup) (a b : Board) : RunKept c.active b (Board.runsAfter c a b) :=
  .foldl _ (fun b g => .run c g b) _ b

theorem RunKept.runAll (c : Setup) (b : Board) : RunKept c.active b (b.runAll c) := .foldl _ (fun b g => .run c g b) _ b

/-! ## A group that is not run (R85) -/

/-- What the runs of other groups leave to a group. -/
structure Spared (g : DeskId) (b c : Board) : Prop where
  pointer : c.pointers[g] = b.pointers[g]
  queue   : b.QueuesOwn → c.QueuesOwn ∧ c.queues[g] = b.queues[g]

theorem Spared.refl (g : DeskId) (b : Board) : Spared g b b := ⟨rfl, fun h => ⟨h, rfl⟩⟩

theorem Spared.trans {g : DeskId} {a b c : Board} (h : Spared g a b) (k : Spared g b c) : Spared g a c :=
  ⟨k.pointer.trans h.pointer, fun ha =>
    ⟨(k.queue (h.queue ha).1).1, ((k.queue (h.queue ha).1).2).trans (h.queue ha).2⟩⟩

/-- An incident keeps its group through an offer. -/
theorem Board.offer_group {i j : IncidentId} {x y : Incident} {b : Board} (hi : b.incident i = some x)
    (hj : (b.commit .arbiter i { x with state := .offered }).incident j = some y) :
    ∃ z, b.incident j = some z ∧ z.group = y.group := by
  rw [Board.commit_arbiter _ _ _ (by simp)] at hj
  split at hj
  · exact ⟨y, hj, rfl⟩
  · rw [Board.requeue_incident, Board.writeIncident_incident] at hj
    split at hj
    · next h =>
      subst h
      rw [Option.some.injEq] at hj
      exact ⟨x, hi, by rw [← hj]⟩
    · exact ⟨y, hj, rfl⟩

theorem Spared.makeOffer (c : Setup) {g h d : DeskId} {i : IncidentId} {x : Incident} {b : Board} (hne : h ≠ g)
    (hi : b.incident i = some x) (hm : i ∈ b.queues[h]) : Spared g b (b.makeOffer c h d i x) := by
  have hp : (b.commit .arbiter i { x with state := .offered }).pointers = b.pointers := by
    rw [Board.commit_arbiter _ _ _ (by simp)]; split <;> simp
  refine ⟨?_, fun ho => ⟨fun e j y hj hy => ?_, ?_⟩⟩
  · show ((b.commit .arbiter i { x with state := .offered }).pointers.set h d)[g] = _
    rw [Vector.getElem_set_fin, if_neg hne, hp]
  · obtain ⟨z, hz, hg⟩ := Board.offer_group hi hy
    rw [← hg]
    have hj : j ∈ (b.commit .arbiter i { x with state := .offered }).queues[e] := hj
    rw [Board.offer_queues hi] at hj
    refine ho e j z ?_ hz
    split at hj
    · exact (List.mem_filter.mp hj).1
    · exact hj
  · show (b.commit .arbiter i { x with state := .offered }).queues[g] = _
    rw [Board.offer_queues hi, if_neg]
    rintro ⟨-, hg⟩
    exact hne ((ho h i x hm hi).symm.trans hg)

theorem Spared.runSteps (c : Setup) {g h : DeskId} (hne : h ≠ g) (fuel : Nat) (b : Board) :
    Spared g b (runSteps c h fuel b) := by
  induction fuel generalizing b with
  | zero => exact .refl g b
  | succ fuel ih =>
    simp only [Machine.runSteps]
    split
    · next hn => exact (Spared.makeOffer c hne (nextOffer_spec hn).2.2.1 (nextOffer_spec hn).2.2.2).trans (ih _)
    · exact .refl g b

/-- R85: the runs at the end of an event spare a group that the event does not run. -/
theorem Spared.runsAfter {c : Setup} {a b : Board} {g : DeskId} (hg : runDue c a b g = false) :
    Spared g b (Board.runsAfter c a b) := by
  have : ∀ (l : List DeskId) (b : Board), (∀ h ∈ l, h ≠ g) → Spared g b (l.foldl (fun b h => b.run c h) b) := by
    intro l
    induction l with
    | nil => exact fun b _ => .refl g b
    | cons h rest ih =>
      exact fun b hl => (Spared.runSteps c (hl h (by simp)) 6 b).trans (ih _ fun k hk => hl k (by simp [hk]))
  refine this _ b fun h hh => ?_
  rintro rfl
  rw [List.mem_filter, hg] at hh
  exact Bool.false_ne_true hh.2

/-- The end of an event, said once. -/
theorem eventEnd_conclude (s u : State) : EventEnd s u (s.conclude u) := by
  have hq : ∀ g, runDue u.setup s.board u.board g = false →
      Spared g u.board (Board.runsAfter u.setup s.board u.board) := fun g => Spared.runsAfter
  have h : RunKept u.setup.active u.board (Board.runsAfter u.setup s.board u.board) := .runsAfter ..
  have hc : s.conclude u = { u with board := (Board.runsAfter u.setup s.board u.board).beginLines } := rfl
  rw [hc]
  generalize Board.runsAfter u.setup s.board u.board = c at h hq
  exact ⟨rfl, rfl, rfl, rfl, rfl, rfl, (Board.beginLines_aging c).trans h.aging,
    (Board.beginLines_timeouts c).trans h.timeouts, (Board.beginLines_stirs c).trans h.stirs,
    fun d => ⟨c.links[d], by rw [Board.beginLines_desks]; exact h.desks d, Board.beginLines_links c d⟩,
    fun i => by rw [Board.beginLines_record]; exact h.records i,
    fun g => by simp only [Board.beginLines_queues, Board.beginLines_record]; exact h.queues g,
    fun g => by simp only [Board.beginLines_pointers, Board.beginLines_desks]; exact h.pointers g,
    fun g hg => by
      simp only [Board.beginLines_queues, Board.beginLines_pointers]
      exact ⟨(hq g hg).pointer, fun ho => ((hq g hg).queue ho).2⟩⟩

/-- An event that puts no incident into a queue, moves none within one, and changes no desk runs no group: only the lines
begin. -/
theorem conclude_quiet {s u : State} (hq : u.board.stirs = s.board.stirs) (hd : u.board.desks = s.board.desks) :
    s.conclude u = u.onBoard fun _ b => b.beginLines := by
  have h1 : ∀ g, queueStirred s.board u.board g = false := by
    intro g
    simp only [queueStirred, hq, Nat.lt_irrefl, decide_false]
  have h2 : ∀ d, deskFreed s.board u.board d = false := by
    intro d
    simp only [deskFreed, hd, Nat.lt_irrefl, decide_false, Bool.and_not_self, Bool.or_false]
    cases s.board.desks[d].slot <;> rfl
  have h3 : Board.runsAfter u.setup s.board u.board = u.board := by
    have h4 : ∀ g, runDue u.setup s.board u.board g = false := by
      intro g
      have : ((groupDesks u.setup.active g).any fun d => deskFreed s.board u.board d) = false := by
        rw [List.any_eq_false]
        intro d _
        rw [h2]
        exact Bool.false_ne_true
      simp only [runDue, h1, this, Bool.or_false, Bool.and_false]
    have h5 : (allDesks.filter fun g => runDue u.setup s.board u.board g) = [] := by
      simp only [h4, List.filter_false]
    rw [Board.runsAfter, h5, List.foldl_nil]
  show { u with board := (Board.runsAfter u.setup s.board u.board).beginLines } = _
  rw [h3]
  rfl

/-- A group with no offer to make is left as it is by its run. -/
theorem Board.run_of_none {c : Setup} {g : DeskId} {b : Board} (h : nextOffer c.active b g = none) : b.run c g = b := by
  simp only [Board.run, runSteps, h]

/-- Where no group has an offer to make, the end of an event begins the lines and does nothing else. -/
theorem conclude_of_none {s u : State}
    (h : ∀ g, startsGroup u.setup.active g = true → nextOffer u.setup.active u.board g = none) :
    s.conclude u = u.onBoard fun _ b => b.beginLines := by
  have runs : ∀ l : List DeskId, (∀ g ∈ l, startsGroup u.setup.active g = true) →
      l.foldl (fun b g => b.run u.setup g) u.board = u.board := by
    intro l
    induction l with
    | nil => exact fun _ => rfl
    | cons g rest ih =>
      intro hl
      rw [List.foldl_cons, Board.run_of_none (h g (hl g (by simp)))]
      exact ih fun k hk => hl k (by simp [hk])
  have h1 : Board.runsAfter u.setup s.board u.board = u.board := runs _ fun g hg => by
    have := (List.mem_filter.mp hg).2
    simp only [runDue, Bool.and_eq_true] at this
    exact this.1
  show { u with board := (Board.runsAfter u.setup s.board u.board).beginLines } = _
  rw [h1]
  rfl

/-! ## Adoption (R85, R101) -/

/-- R85: what the runs of an adoption can do, each desk, record, queue and pointer; everything else of the state stays. -/
theorem State.runEvery_eq (s : State) : ∃ b, s.runEvery = { s with board := b } ∧ RunKept s.setup.active s.board b :=
  ⟨_, rfl, .runAll s.setup s.board⟩

/-! ## Answers -/

theorem State.answer_eq (d : DeskId) (code : Byte) (own : Bool) (v : Verdict) (s : State) :
    s.answer d code own v = s.withResult d code own v := rfl

theorem State.answered_eq (d : DeskId) (code : Byte) (v : Verdict) (s : State) :
    (s.updLink d Link.nowAnswering).answer d code true v = s.answered d code v := rfl

/-- The arguments of a WAITING command. -/
theorem waitingArgs_of_waits {s : State} {d : DeskId} {code : Byte} {args : List Byte}
    (h : s.waits d (code :: args)) : waitingArgs s d code = some args := by
  have h' : (s.board.links[d]).outstanding = some ⟨code :: args, .waiting⟩ := h
  simp only [waitingArgs, h', if_true]

/-- An owner that has a WAITING command carries it out, answers it, and the event ends. -/
theorem serve_of_waits {s : State} {d : DeskId} {code : Byte} {args : List Byte} (op : Owner)
    (h : s.waits d (code :: args)) :
    s.serve code d op = s.conclude ((op args d s).1.answered d code (op args d s).2) := by
  simp only [State.serve, waitingArgs_of_waits h, State.carryOut, State.answered_eq, id_eq]

/-- A command that a desk has WAITING, carried out by its owner. -/
theorem does_of_waits {s : State} {d : DeskId} {code : Byte} {args : List Byte} {i : Instr} (op : Owner)
    (hi : exec i s = .next (s.serve code d op)) (h : s.waits d (code :: args)) :
    Does i s ((op args d s).1.answered d code (op args d s).2) :=
  ⟨_, hi, by rw [serve_of_waits op h]; exact eventEnd_conclude _ _⟩

/-- A command that reads, or that its owner turns away. -/
theorem answers_of_waits {s : State} {d : DeskId} {code : Byte} {args : List Byte} {i : Instr} {v : Verdict} (op : Owner)
    (hi : exec i s = .next (s.serve code d op)) (h : s.waits d (code :: args)) (hop : op args d s = (s, v)) :
    Answers i d code v s := by
  refine ⟨by simpa only [hop] using does_of_waits op hi h, fun hu => ?_⟩
  rw [hi, serve_of_waits op h, hop]
  refine congrArg Host.Outcome.next (conclude_quiet rfl ?_)
  show (s.board.desks.set d { s.board.desks[d] with unresponsive := false }) = s.board.desks
  rw [show ({ s.board.desks[d] with unresponsive := false } : Desk) = s.board.desks[d] by rw [← hu]]
  exact Vector.set_getElem_self _

/-- ADOPT from a WAITING command: the owner's effects, the result, the runs where the claim allows it, and the event's
end. -/
theorem execAdopt_of_waits {s : State} {d : DeskId} {args : List Byte} (h : s.waits d (0x57#8 :: args)) :
    execAdopt d s = .next (s.conclude
      ((if s.setup.claim = some d then State.runEvery else id)
        ((adoptEdit args d s).1.answered d 0x57#8 (adoptEdit args d s).2))) := by
  simp only [execAdopt, waitingArgs_of_waits h, State.carryOut, State.answered_eq]

/-- An owner that has no such command does nothing. -/
theorem serve_of_none {s : State} {d : DeskId} {code : Byte} (op : Owner) (h : waitingArgs s d code = none) :
    s.serve code d op = s := by simp only [State.serve, h]

end Sys2Proof.Machine
end

