-- ==== Sys2Proof/Tests/Slice0.lean ====
section
/-! SUPPORT. Tests on small states, with expected results from the spec's own tables and worked examples, and for every
obligation with hypotheses a concrete state and operands that meet them. -/

namespace Sys2Proof.Machine.Tests

set_option Elab.async false

/-! ## Small states -/

/-- The row's next state, or the state itself where the row stops. -/
def after (i : Instr) (s : State) : State :=
  match exec i s with
  | .next t => t
  | _ => s

def afterAll (l : List Instr) (s : State) : State := l.foldl (fun s i => after i s) s

/-- The configuration of "Worked example: six reports" (01_circuits_and_classification): its entries 1 to 4 and stations
2/3, 2/4 and 2/6, with entry 4 as an alternate group and a loop rack at 2/7 for the operations. -/
def settings : Settings :=
  { circuits := ⟨[(0, { bound := 999 }), (1, { bound := 1999, invalid := false, group := 2, weight := 40, trip := 8, tau := 10 }),
      (2, { bound := 2499, invalid := false, fold := true, group := 2, weight := 10 }),
      (3, { bound := 3999, invalid := false, weight := 200, tau := 5 })]⟩
    roster := ⟨[(50, { kind := some .lamp, first := 1400, count := 200 }),
      (51, { kind := some .lamp, first := 2000, count := 200 }),
      (53, { kind := some .sign, first := 4800, count := 100 }),
      (54, { kind := some .loop, first := 3000, count := 100 })]⟩ }

def activeStation : Station := { mode := .active, nextExpiry := some 7260, balance := 2 }

def runningTrunk : Trunk := { state := .running, upCredit := 4, downCredit := 2, watch := true }

/-- Every desk UP and on duty, trunk 2 RUNNING, its stations ACTIVE, part time 7200. -/
def base : State :=
  { setup := { time := 7200, active := settings, shadow := settings }
    board := { desks := Vector.replicate 6 { onDuty := true }, links := Vector.replicate 6 { up := true } }
    field :=
      { stations := ⟨[(50, activeStation), (51, activeStation), (53, activeStation), (54, activeStation)]⟩
        trunks := (Vector.replicate 16 ({} : Trunk)).set 2 runningTrunk } }

/-- Desk 0's WAITING command. -/
def ask (body : List Byte) (s : State) : State := s.updLink 0 fun l => { l with outstanding := some ⟨body, .waiting⟩ }

/-- Desk 0 off duty. -/
def off (s : State) : State := s.updDesk 0 fun x => { x with onDuty := false }

/-- The last result in desk 0's queue. -/
def answer (s : State) : Option (Termination × Option Reason × ResultData) :=
  ((s.board.links[(0 : DeskId)]).results.getLast?).map fun r => (r.termination, r.reason, r.data)

/-- A frame at the head of trunk 2's upstream buffer. -/
def arrived (frame : List Byte) (s : State) : State := s.updTrunk 2 fun x => { x with buffer := [frame] }

def withTrunkState (g : Trunk → Trunk) (s : State) : State := s.updTrunk 2 g

def withChain (c : Chain) (s : State) : State := s.updChain 2 fun _ => c

def oneMember : Member :=
  { asset := 1500, kind := .lamp, condition := .out, confirmedAt := 7100, stale := false, underOp := false }

def sample : Incident :=
  { subject := .circuit 1, state := .opened, cls := .lamp, group := 2, assigned := none, members := [oneMember]
    unrecorded := 0, worst := some .out, tripped := false, rounds := 0, declined := 0, urgency := 56, openedAt := 7100
    restoredAt := none, closeDelay := none, closedAt := none, tag := none }

/-- An incident at index 3 with change number 9, in its group's queue if it is OPEN. -/
def holding (x : Incident) (s : State) : State :=
  s.onBoard fun _ b => { b with
    incidents := b.incidents.put 3 ⟨9, some x⟩
    queues := if x.state = .opened then b.queues.set x.group [3] else b.queues
    stirs := if x.state = .opened then b.stirs.set x.group 1 else b.stirs }

/-- The incident offered to desk 0 until 7200. -/
def offered (s : State) : State :=
  (s.updDesk 0 fun x => { x with slot := some ⟨3, 7200⟩ }).onBoard fun _ b =>
    { b with incidents := b.incidents.put 3 ⟨9, some { sample with state := .offered }⟩ }

def record (state : FaultState) (timer : StateTimer) : FaultRecord :=
  { asset := 1500, station := 50, circuit := 1, kind := .lamp, condition := .out, state, confirms := 1, flips := 0
    firstSeen := 7100, confirmedAt := none, lastReport := 7100, reports := 1, timer, stale := false, underOp := false
    incident := if state = .suspect then none else some 3 }

def recorded (r : FaultRecord) (s : State) : State := s.onFaults fun f => { f with records := [r] }

def operation (k : OpKind) (state : OpState) : Op :=
  { kind := k, desk := 0, station := 54, asset := 3005, state, level := some 8, direction := none, steps := 0
    retried := false, deadline := 7200, offTime := 5, startLevel := 8, margin := 2, noise := none }

/-- An operation at index 0 on station 2/7. -/
def operating (x : Op) (s : State) : State := (s.setOp 0 x).updStation 54 fun y => { y with op := some 0 }

/-! ## Well-formed steps -/

theorem test_wf_longest_body : (Instr.commandFrame 0 (List.replicate 254 0)).wf = true := by decide +kernel
theorem test_wf_refuses_long_body : (Instr.commandFrame 0 (List.replicate 255 0)).wf = false := by decide +kernel
theorem test_wf_refuses_asset : (Instr.confirmWindowExpiry 65536).wf = false ∧ (Instr.restoreHoldExpiry 65536).wf = false ∧
    (Instr.confirmWindowExpiry 65535).wf = true := by decide

/-! ## Frames, codes and symbols -/

/-- R176: the nine ASCII bytes "123456789" give 0x29B1. -/
theorem test_crc_check_value : crcOf [0x31, 0x32, 0x33, 0x34, 0x35, 0x36, 0x37, 0x38, 0x39] = 0x29B1#16 := by
  decide +kernel

/-- R196: an odd number of the ten bits of a symbol are set; a FILL is a control symbol with payload 0. -/
theorem test_symbol_fill : symbolOf 0b1000000000#10 = .fill ∧ symbolOf 0b1000000001#10 = .bad ∧
    symbolOf 0b0000000011#10 = .bad ∧ symbolOf 0b0000000010#10 = .data 1#8 := by decide +kernel

/-- R196: the symbols that the part sends are read back as what they are. -/
theorem test_symbols_sent : symbolOf fillSymbol = .fill ∧ symbolOf grantSymbol = .grant ∧ symbolOf endSymbol = .frameEnd ∧
    ∀ b : Byte, symbolOf (symbolBits false b) = .data b := by decide +kernel

/-- R41, R188: a deadline takes 4 bytes, a remaining time 2, and with no timer the deadline is absent (R189). -/
theorem test_timer_bytes : (StateTimer.running .restoreHold 7500).bytes = [2, 0, 0, 0, 0x1D, 0x4C] ∧
    (StateTimer.suspended .restoreHold 300).bytes = [2, 1, 0x01, 0x2C] ∧
    StateTimer.none.bytes = [0, 0, 0xFF, 0xFF, 0xFF, 0xFF] := by decide +kernel

/-- R191: no row of the table has bits to decode. -/
theorem test_decode_none : decodeTableWord 8 1 = none := rfl

/-- R195: a census of one full entry, a bypass marker and an unlabelled marker. -/
theorem test_census_entries :
    censusEntries 3 [0x01, 0x00, 0x00, 0xFE, 0xFF] = some [.full 1, .bypass, .unlabelled] ∧
    censusEntries 2 [0x01, 0x00, 0x00] = none := by decide +kernel

/-! ## Urgency (04_urgency, the worked examples) -/

theorem test_urgency_lamp_feeder :
    urgencyOf ⟨40, 16, 9, 24, 25, 10, 0, true⟩ = 268 ∧ urgencyOf ⟨40, 16, 9, 16, 25, 10, 0, true⟩ = 216 := by decide

theorem test_urgency_saturation :
    urgencyOf ⟨200, 64, 20, 32, 95, 5, 2, false⟩ = 1023 ∧ urgencyOf ⟨200, 64, 18, 32, 95, 5, 2, false⟩ = 1012 := by decide

/-! ## Settings and clamps (01_circuits_and_classification, "an adoption with clamps") -/

def written : Settings :=
  { circuits := ⟨[(0, { bound := 1999, invalid := false, group := 3, alternate := some 1, trip := 70 }),
      (1, { bound := 1500, invalid := false, trip := 4 }), (2, { bound := 2999, invalid := false, fold := true, group := 5 })]⟩
    roster := ⟨[(50, { kind := some .lamp, first := 1400, count := 200 }),
      (51, { kind := some .lamp, first := 1550, count := 100 }), (52, { kind := some .lamp, first := 1420, count := 30 })]⟩
    desks := #v[{}, { continues := true }, {}, { continues := true }, { continues := true }, {}] }

set_option maxRecDepth 20000 in
theorem test_clamps_circuits :
    (clampAll written).circuit 0 =
      { bound := 1999, invalid := false, group := 2, alternate := some 0, trip := 64 } ∧
    ((clampAll written).circuit 1).bound = 1999 ∧ ((clampAll written).circuit 2).group = 5 ∧
    circuitsChanged written (clampAll written) = 2 := by decide +kernel

set_option maxRecDepth 20000 in
theorem test_clamps_rosters :
    ((clampAll written).station 50).first = 1400 ∧ ((clampAll written).station 51).first = 1600 ∧
    ((clampAll written).station 51).count = 50 ∧ ((clampAll written).station 52).count = 0 := by decide +kernel

theorem test_circuit_lookup :
    circuitFor settings 1500 = 1 ∧ circuitFor settings 2100 = 2 ∧ circuitFor settings 4850 = 4 ∧
    circuitFor settings 999 = 0 ∧ circuitFor settings 1000 = 1 ∧ circuitFor settings 65535 = 4 := by decide +kernel

/-! ## Reports ("six reports") -/

theorem test_report_normal : (after (.assetState 2)
    (arrived [0x02, 3, 0x05, 0xDC, 1, 1, 0] base)).faults.find 1500 =
      some { record .suspect (.running .confirmWindow 7320) with firstSeen := 7200, lastReport := 7200 } := by
  decide +kernel

theorem test_report_fold :
    let s := after (.assetState 2) (arrived [0x02, 4, 0x08, 0x34, 1, 2, 0] base)
    s.faults.records = [] ∧ (s.board.incident 0).map (fun x => (x.subject, x.unrecorded)) = some (.circuit 2, 1) := by
  decide +kernel

theorem test_report_not_owned : (after (.assetState 2) (arrived [0x02, 3, 0x02, 0xBC, 1, 1, 0] base)).error.code =
    .trunk .notOwned := by decide +kernel

theorem test_report_bad_condition : (after (.assetState 2) (arrived [0x02, 3, 0x06, 0x0E, 1, 3, 0] base)).error.code =
    .trunk .badCondition := by decide +kernel

theorem test_report_invalid : (after (.assetState 2) (arrived [0x02, 6, 0x12, 0xF2, 3, 8, 0] base)).error.code =
    .trunk .invalidCircuit := by decide +kernel

theorem test_report_unknown_label : (after (.assetState 2) (arrived [0x02, 9, 0x05, 0xDC, 1, 0, 0] base)).error =
    ⟨.trunk .unknownLabel, .label 2 9, some 7200, 1⟩ := by decide +kernel

/-! ## Credit ("credit on a running trunk") -/

theorem test_credit_start :
    let s := after (.chainValidFill 2) (base.updTrunk 2 fun _ => { state := .starting })
    (s.trunk 2).upCredit = 6 ∧ (s.trunk 2).downCredit = 0 ∧ (s.trunk 2).queue = [⟨255, .census⟩] := by decide +kernel

theorem test_credit_grant_begins_frame :
    let s := after (.grant 2) (base.updTrunk 2 fun x => { x with downCredit := 0, queue := [⟨255, .census⟩, ⟨5, .sleepGrant 1⟩] })
    (s.trunk 2).downCredit = 1 ∧ (s.trunk 2).queue = [⟨5, .sleepGrant 1⟩] ∧
      (s.trunk 2).transmitting = some ⟨255, .census⟩ := by decide +kernel

theorem test_credit_frame_end :
    let s := afterAll [.dataSymbol 2 1, .dataSymbol 2 3, .frameEnd 2] (base.updTrunk 2 fun x => { x with upCredit := 6 })
    (s.trunk 2).upCredit = 5 ∧ (s.trunk 2).buffer = [[1, 3]] := by decide +kernel

theorem test_credit_excess : ((after (.grant 2) (base.updTrunk 2 fun x => { x with downCredit := 6 })).trunk 2).state =
    .faulted := by decide +kernel

/-! ## Commands, one small state each -/

theorem test_sign_on : answer (after (.signOn 0) (ask [0x03] (off base))) = some (.done, none, .count 0) := by
  decide +kernel

theorem test_accept : answer (after (.accept 0) (ask [0x20, 0, 3] (offered base))) =
    some (.done, none, .accepted 3 10 1) := by decide +kernel

theorem test_decline_reoffers : ((after (.decline 2) ((base.updLink 2 fun l => { l with
    outstanding := some ⟨[0x21, 0, 3], .waiting⟩ }).updDesk 2 (fun x => { x with slot := some ⟨3, 7300⟩ }) |>.onBoard
      fun _ b => { b with incidents := b.incidents.put 3 ⟨9, some { sample with state := .offered }⟩ })).board.incident 3).map
    (fun x => (x.state, x.rounds, x.declined)) = some (.offered, 1, 0) := by decide +kernel

theorem test_probe : answer (after (.probe 0) (ask [0x38, 0x05, 0xDC] base)) =
    some (.done, none, .started 0 .probe 50 7210) := by decide +kernel

theorem test_trunk_start : ((after (.trunkStart 0) (ask [0x40, 2] (base.updTrunk 2 fun _ => {}))).trunk 2).startDeadline =
    some 7202 := by decide +kernel

theorem test_census_busy : answer (after (.census 0) (ask [0x42, 2] (withChain { census := some 7201 } base))) =
    some (.done, none, .census false) := by decide +kernel

theorem test_station_silent : ((after (.intervalExpiry 50) (base.updStation 50 fun x =>
    { x with balance := -2, nextExpiry := some 7200 })).board.incident 0).map (fun x => (x.subject, x.worst)) =
    some (.station 50, some .silent) := by decide +kernel

theorem test_sleep_granted : ((after (.sleep 2) (arrived [0x03, 3, 9] base)).station 50).mode = .asleep ∧
    ((after (.sleep 2) (arrived [0x03, 3, 10] base)).trunk 2).transmitting = some ⟨3, .sleepDeny 6⟩ := by decide +kernel

theorem test_full_queue_drops_frame : (((after (.commandFrame 0 [0x01]) (base.updLink 0 fun l => { l with
    results := List.replicate 3 ⟨1, .done, none, false, .none, false⟩ })).board.links[(0 : DeskId)]).results).length = 3 := by
  decide +kernel

/-- R1: at second 7201 the deadline 7200 of operation 0 has come, and no other timer has. -/
theorem test_tick_raises_timer :
    (match step (operating (operation .probe .sent) base) with
      | .next t => (t.setup.time, t.pending)
      | _ => (0, [])) = (7201, [.probeDeadline 0]) := by decide +kernel

/-- Trunk 2 with frames queued, and a PROBE on station 2/7. -/
def queued (n : Nat) : State :=
  operating (operation .probe .sent) (withTrunkState (fun x => { x with
    downCredit := 0, queue := List.replicate n ⟨3, .sleepGrant 1⟩ }) base)

/-- R150: the ABORT-OP of step 3 stands between the FORGET and the first LABEL. -/
theorem test_label_chain_order :
    let t := after (.labelChain 0) (ask [0x43, 2] (queued 5))
    answer t = some (.done, none, .labelled 4) ∧ t.chain 2 = { labelling := some ⟨2, 7202⟩, list := [3, 5, 6] } ∧
    (t.trunk 2).queue.drop 5 = [⟨255, .forget⟩, ⟨7, .abortOp 0 3005⟩, ⟨0, .label 2⟩] := by decide +kernel

/-- R147, R149, R150: where that ABORT-OP takes the last place, each LABEL is refused and its labelling fails (log
entry 31). -/
theorem test_label_chain_at_full_queue :
    let t := after (.labelChain 0) (ask [0x43, 2] (queued 6))
    answer t = some (.done, none, .labelled 4) ∧ t.chain 2 = {} ∧
    (t.trunk 2).queue.drop 6 = [⟨255, .forget⟩, ⟨7, .abortOp 0 3005⟩] ∧
    (t.trunk 2).counters[TrunkError.labelFailed.index] = 4 ∧
    t.error = ⟨.trunk .labelFailed, .position 2 7, some 7200, 4⟩ := by decide +kernel

/-- R126: a RUNNING trunk sends the symbols of its frame in transmission and an END, or else FILL. -/
theorem test_trunk_sends : ({ runningTrunk with transmitting := some ⟨255, .census⟩ } : Trunk).sends =
    ((⟨255, .census⟩ : DownFrame).symbols.map (symbolBits false)) ++ [endSymbol] ∧ runningTrunk.sends = [fillSymbol] ∧
    ({} : Trunk).sends = [] := by decide +kernel

/-! ## A board whose queues, slots and counts agree -/

/-- Incident 3 offered to desk 0, incidents 4 and 5 in group 2's queue, of one urgency, incident 6 held by desk 1, and
incident 7 RESTORED. -/
def arranged : State :=
  base.onBoard fun _ b => { b with
    incidents := ⟨[(3, ⟨9, some { sample with state := .offered }⟩), (4, ⟨1, some { sample with subject := .circuit 2 }⟩),
      (5, ⟨1, some { sample with subject := .station 50, members := [], openedAt := 7150 }⟩),
      (6, ⟨2, some { sample with subject := .trunk 2, members := [], state := .assigned, assigned := some 1 }⟩),
      (7, ⟨4, some { sample with subject := .station 53, members := [], state := .restored, closeDelay := some 7500 }⟩)]⟩
    queues := b.queues.set 2 [4, 5]
    desks := (b.desks.set 0 { onDuty := true, slot := some ⟨3, 7300⟩ }).set 1 { onDuty := true, assigned := 1 } }

/-- The incidents of `arranged`. -/
theorem arranged_at {i : IncidentId} {x : Incident} (h : arranged.board.incident i = some x) :
    i ∈ ([3, 4, 5, 6, 7] : List IncidentId) := by
  have hi : ∀ i : IncidentId, arranged.board.incident i ≠ none → i ∈ ([3, 4, 5, 6, 7] : List IncidentId) := by decide +kernel
  exact hi i (by rw [h]; exact Option.some_ne_none _)

theorem arranged_queued (g : DeskId) (i : IncidentId) : i ∈ arranged.board.queues[g] ↔
    ∃ x, arranged.board.incident i = some x ∧ x.state = .opened ∧ x.group = g := by
  have queue : ∀ (g : DeskId) (i : IncidentId), i ∈ arranged.board.queues[g] ↔
      (arranged.board.incident i).map (fun x => (x.state, x.group)) = some (.opened, g) := by decide +kernel
  rw [queue, Option.map_eq_some_iff]
  simp only [Prod.mk.injEq]

theorem arranged_sorted (g : DeskId) : (arranged.board.queues[g]).Pairwise arranged.board.InOrder := by
  have only : ∀ g : DeskId, arranged.board.queues[g] = if g = 2 then [4, 5] else [] := by decide +kernel
  have h4 : arranged.board.incident 4 = some { sample with subject := .circuit 2 } := by decide +kernel
  have h5 : arranged.board.incident 5 = some { sample with subject := .station 50, members := [], openedAt := 7150 } := by
    decide +kernel
  rw [only]
  split
  · refine List.Pairwise.cons (fun j hj x y hx hy => ?_) (List.pairwise_singleton _ _)
    rw [List.mem_singleton.1 hj, h5] at hy
    rw [h4] at hx
    cases hx
    cases hy
    exact .inr ⟨rfl, .inl (by decide)⟩
  · exact List.Pairwise.nil

theorem arranged_slot {d : DeskId} {o : Offer} (h : (arranged.board.desks[d]).slot = some o) : d = 0 ∧ o = ⟨3, 7300⟩ := by
  have slots : ∀ d : DeskId, (arranged.board.desks[d]).slot = if d = 0 then some ⟨3, 7300⟩ else none := by decide +kernel
  rw [slots] at h
  split at h
  · exact ⟨‹_›, (Option.some.inj h).symm⟩
  · cases h

theorem arranged_single {i j : IncidentId} {x y : Incident} (hx : arranged.board.incident i = some x)
    (hy : arranged.board.incident j = some y) (hs : x.subject = y.subject) : i = j := by
  have one : ∀ i ∈ ([3, 4, 5, 6, 7] : List IncidentId), ∀ j ∈ ([3, 4, 5, 6, 7] : List IncidentId),
      (arranged.board.incident i).map (·.subject) = (arranged.board.incident j).map (·.subject) → i = j := by decide +kernel
  exact one i (arranged_at hx) j (arranged_at hy) (by rw [hx, hy, Option.map_some, Option.map_some, hs])

theorem arranged_free {i : IncidentId} {x : Incident} (h : arranged.board.incident i = some x)
    (hs : x.state = .opened ∨ x.state = .offered) : x.assigned = none := by
  have free : ∀ i ∈ ([3, 4, 5, 6, 7] : List IncidentId), (arranged.board.incident i).map (·.state) = some .assigned ∨
      (arranged.board.incident i).map (·.assigned) = some none := by decide +kernel
  rcases free i (arranged_at h) with r | r <;> rw [h, Option.map_some] at r
  · rcases hs with hs | hs <;> rw [hs] at r <;> cases r
  · exact Option.some.inj r

theorem arranged_stands {i : IncidentId} {x : Incident} (h : arranged.board.incident i = some x) (hs : x.state = .offered) :
    ∃ d : DeskId, (arranged.board.desks[d]).slot.map (·.incident) = some i := by
  have three : ∀ i ∈ ([3, 4, 5, 6, 7] : List IncidentId), (arranged.board.incident i).map (·.state) = some .offered → i = 3 := by
    decide +kernel
  rw [three i (arranged_at h) (by rw [h, Option.map_some, hs])]
  exact ⟨0, by decide +kernel⟩

theorem witness_Arranged : arranged.board.Arranged where
  rising := by decide +kernel
  single _ _ _ _ hx hy _ _ hs := arranged_single hx hy hs
  queued := arranged_queued
  once := by decide +kernel
  sorted := arranged_sorted
  offered _ _ h := ⟨{ sample with state := .offered }, by rw [(arranged_slot h).2]; decide +kernel, rfl⟩
  stands _ _ h hs := arranged_stands h hs
  apart _ _ _ _ h k _ := (arranged_slot h).1.trans (arranged_slot k).1.symm
  free _ _ h hs := arranged_free h hs
  counts := by decide +kernel

/-! ## The hypotheses of the obligations met, clause by clause

The name of each theorem is that of its obligation. -/

/-- A board without incidents is arranged. -/
theorem witness_Arranged_empty : base.board.Arranged := by
  have incidents : ∀ i, base.board.incident i = none := by decide +kernel
  have queues : ∀ g : DeskId, base.board.queues[g] = [] := by decide +kernel
  have slots : ∀ d : DeskId, (base.board.desks[d]).slot = none := by decide +kernel
  exact {
    rising := rfl
    single := fun i j x y h => by simp [incidents] at h
    queued := fun g i => by simp [incidents, queues]
    once := fun g => by simp [queues]
    sorted := fun g => by simp [queues]
    offered := fun d o h => nomatch (slots d).symm.trans h
    stands := fun i x h => by simp [incidents] at h
    apart := fun d e o p h => nomatch (slots d).symm.trans h
    free := fun i x h => by simp [incidents] at h
    counts := by decide +kernel }

theorem witness_IdleStepCountsSecond :
    base.pending = [] ∧ base.setup.time < 4294967295 ∧
    4294967295 ≤ (base.onSetup fun c => { c with time := 4294967295 }).setup.time := by decide

theorem witness_RowsKeepQueueAndClock : ∃ t, exec (.signOn 0) (ask [0x03] base) = .next t := ⟨_, rfl⟩

theorem witness_LinkDownTakesOffDuty : (base.board.links[(5 : DeskId)]).up = true ∧ base.setup.active.params.absenceGrace ≠ 0 ∧
    (5 : DeskId) ≠ 0 ∧ ((offered base).board.desks[(0 : DeskId)]).slot = some ⟨3, 7200⟩ ∧
    (offered base).board.incident 3 = some { sample with state := .offered } := by decide +kernel

theorem witness_LinkUpSetsAttention : (State.reset.board.links[(5 : DeskId)]).up = false := by decide

theorem witness_CommandBecomesOutstanding :
    let l := base.board.links[(0 : DeskId)]
    l.up = true ∧ l.outstanding = none ∧ l.results = [] ∧ lengthAllowed (0x25#8).toNat ([0, 3] ++ List.replicate 16 65#8 ++ [] |>.length |>.succ) = true ∧
      (0x25#8 : Byte) ≠ 0x0E#8 ∧ (0x25#8 : Byte) ≠ 0x0F#8 := by decide +kernel

theorem witness_CommandAnsweredByTheLink :
    let l := base.board.links[(0 : DeskId)]
    l.up = true ∧ l.load ≤ 2 ∧ (List.replicate 254 0#8).length ≤ 254 ∧
    3 ≤ ({ l with results := List.replicate 3 ⟨1, .done, none, false, .none, false⟩ } : Link).load ∧
    bodyLengths (0x05#8).toNat = none ∧
    (bodyLengths (0x01#8).toNat).isSome = true ∧ lengthAllowed (0x01#8).toNat 2 = false ∧
    lengthAllowed (0x01#8).toNat 1 = true ∧
    ((ask [0x01] base).board.links[(0 : DeskId)]).outstanding ≠ none ∧
      ((ask [0x01] base).board.links[(0 : DeskId)]).load ≤ 2 ∧ (0#8).toNat = 0 ∧ 3 < (4#8).toNat := by decide +kernel

/-- A row whose event cannot happen: no command waits, a line UP or DOWN, nothing sent or received, no frame, no timer. -/
theorem witness_EveryRowCompletes :
    (∀ args, ¬base.waits 0 (0x01#8 :: args)) ∧ (base.board.links[(0 : DeskId)]).up = true ∧
    (State.reset.board.links[(0 : DeskId)]).up = false ∧ (base.board.links[(0 : DeskId)]).receiver = none ∧
    (base.board.links[(0 : DeskId)]).sending = .idle ∧ (base.trunk 2).buffer.head? = none ∧ (base.trunk 0).state = .off ∧
    (base.trunk 2).transmitting = none ∧ base.faults.find 1500 = none ∧ base.board.incident 3 = none ∧
    base.board.aging.find 3 = none ∧ (base.board.desks[(0 : DeskId)]).slot = none ∧
    (base.board.desks[(0 : DeskId)]).absence = none ∧ (base.station 50).nextExpiry = some 7260 ∧ base.setup.time < 7260 ∧
    (base.trunk 2).graceDeadline = none ∧ (base.chain 2).labelling = none ∧ (base.chain 2).census = none ∧
    base.field.ops.find 0 = none := by
  have silent : (base.board.links[(0 : DeskId)]).outstanding = none := by decide +kernel
  exact ⟨fun args h => (nomatch silent.symm.trans h), by decide +kernel⟩

theorem witness_FrameErrorsAreCounted : (base.board.links[(0 : DeskId)]).up = true ∧
    ((base.updLink 0 fun l => { l with receiver := some [] }).board.links[(0 : DeskId)]).receiver ≠ none := by
  decide +kernel

theorem witness_DeskByteInReception :
    let at_ (r : Option (List Byte)) : Link := (base.updLink 0 fun l => { l with receiver := r }).board.links[(0 : DeskId)]
    (at_ none).up = true ∧ (at_ none).receiver = none ∧ (at_ (some [])).receiver = some [] ∧
    (at_ (some [2])).receiver = some [2] ∧ (2#8 : Byte) ≠ 0#8 ∧ ([] : List Byte).length + 1 < (2#8).toNat + 2 ∧
    (at_ (some [2, 1, 1])).receiver = some [2, 1, 1] ∧ ([1, 1] : List Byte).length + 1 < (2#8).toNat + 2 := by decide +kernel

/-- A byte that completes a frame: with the CRC right, with it wrong, and with the kind of a NOTICE. -/
theorem witness_DeskByteInReception_complete :
    let command := (deskFrame 0x01 [0x01]).drop 1
    let notice := (deskFrame 0x03 [0x01]).drop 1
    let s (bytes : List Byte) := base.updLink 0 fun l => { l with receiver := some bytes }
    ((s (command.take 4)).board.links[(0 : DeskId)]).receiver = some (2 :: 0x01 :: 0x01 :: (command.drop 3).take 1) ∧
    (2#8 : Byte) ≠ 0#8 ∧ (0x01 :: 0x01 :: (command.drop 3).take 1).length + 1 = (2#8).toNat + 2 ∧
    command.drop 3 = crcBytes (command.take 3) ∧ command.take 3 = [2, 0x01, 0x01] ∧
    (command.take 4 ++ [0]).drop 3 ≠ crcBytes (command.take 3) ∧ notice.drop 3 = crcBytes (notice.take 3) ∧
    (notice.drop 1).head? ≠ some 0x01#8 := by decide +kernel

theorem witness_BytesMakeTheFrame : (base.board.links[(0 : DeskId)]).up = true ∧
    (base.board.links[(0 : DeskId)]).receiver = none ∧ base.board.beginLines = base.board ∧
    (List.replicate 254 0#8).length ≤ 254 := by decide +kernel

theorem witness_FramesSent :
    let r : Result := ⟨1, .done, none, false, .none, true⟩
    let s := base.updLink 0 fun l => { l with sending := .result, results := [r] }
    let u := base.updLink 0 fun l => { l with sending := .notice (.reset 2) }
    let l : Link := { up := true, results := [r] }
    let m : Link := { up := true, notices := [.reset 2] }
    (s.board.links[(0 : DeskId)]).sending = .result ∧ (s.board.links[(0 : DeskId)]).results = [r] ∧
    (u.board.links[(0 : DeskId)]).sending = .notice (.reset 2) ∧ l.up = true ∧ l.sending = .idle ∧ l.results ≠ [] ∧
    m.results = [] ∧ m.sending = .idle ∧ m.notices = [.reset 2] ∧ ({} : Link).up = false := by decide +kernel

/-- Read results without an open code: a station with a span, an identity and a balance, and an incident with a worst
condition. -/
theorem witness_FrameBytes :
    let x : Station := { mode := .asleep, balance := 0, span := some 9, identity := some ⟨1, 1400, 200⟩ }
    (settings.station 50).kind = some .lamp ∧ x.span = some 9 ∧ x.identity = some ⟨1, 1400, 200⟩ ∧ 0 ≤ x.balance ∧
    ({ sample with worst := some .out } : Incident).worst = some .out ∧ sample.tag.getD [] = [] ∧
    ({ sending := .idle } : Link).sending = .idle := by decide +kernel

theorem witness_AbortWithdrawsWaitingCommand : (base.board.links[(0 : DeskId)]).up = true ∧ (base.board.links[(0 : DeskId)]).load ≤ 2 ∧
    (ask [0x01] base).waits 0 [0x01] ∧ ((ask [0x01] base).board.links[(0 : DeskId)]).load ≤ 2 ∧
    (base.board.links[(0 : DeskId)]).waiting = false := by decide +kernel

theorem witness_Resets :
    let s := (ask [0x01] (offered base)).onSetup fun c => { c with claim := some 0 }
    (s.board.links[(0 : DeskId)]).up = true ∧ (s.board.links[(0 : DeskId)]).load ≤ 2 ∧ s.setup.claim = some 0 ∧
    (s.board.desks[(0 : DeskId)]).slot = some ⟨3, 7200⟩ ∧ s.board.incident 3 = some { sample with state := .offered } ∧
    base.setup.claim ≠ some 0 ∧ (base.board.links[(0 : DeskId)]).load ≤ 2 := by decide +kernel

/-- A level 2 RESET with an operation in flight on a RUNNING trunk. -/
theorem witness_ResetLevel2Effects_operation :
    let s := (operating (operation .sweep .sent) base).onSetup fun c => { c with claim := some 0 }
    (s.board.links[(0 : DeskId)]).up = true ∧ (s.board.links[(0 : DeskId)]).load ≤ 2 ∧ s.setup.claim = some 0 ∧
    s.field.ops.find 0 = some (operation .sweep .sent) ∧ stationTrunk (operation .sweep .sent).station = 2 := by
  decide +kernel

theorem witness_IdentifyAndSenseAnswer : (ask [0x01] base).waits 0 [0x01] ∧ (ask [0x02] base).waits 0 [0x02] := by
  decide +kernel

theorem witness_ReadsOfFaultsTrunksAndErrors : (ask [0x12, 0xFF, 0xFF] base).waits 0 [0x12, 0xFF, 0xFF] ∧
    (ask [0x14, 16] base).waits 0 [0x14, 16] ∧ 16 ≤ (16#8).toNat ∧ (ask [0x14, 15] base).waits 0 [0x14, 15] ∧
    (15#8).toNat = (15 : TrunkId).val ∧ (ask [0x15] base).waits 0 [0x15] := by decide +kernel

theorem witness_ReadsOfStationsAndShadow : (ask [0x13, 2, 25] base).waits 0 [0x13, 2, 25] ∧ 24 < (25#8).toNat ∧
    (ask [0x13, 15, 24] base).waits 0 [0x13, 15, 24] ∧ (24#8).toNat = (23 : Position).val + 1 ∧
    (ask [0x56, 1, 128, 0] base).waits 0 [0x56, 1, 128, 0] ∧ (128#8).toNat = (127 : CircuitId).val + 1 ∧
    (ask [0x56, 2, 15, 24] base).waits 0 [0x56, 2, 15, 24] ∧ (ask [0x56, 3, 5, 0] base).waits 0 [0x56, 3, 5, 0] ∧
    (5#8).toNat = (5 : DeskId).val ∧ (ask [0x56, 4, 13, 0] base).waits 0 [0x56, 4, 13, 0] ∧
    base.setup.shadow.params.read 13 = some 5 ∧ (ask [0x56, 5, 3, 0] base).waits 0 [0x56, 5, 3, 0] ∧
    (3#8).toNat = Period.storm.code ∧ (ask [0x56, 6, 0, 0] base).waits 0 [0x56, 6, 0, 0] ∧ 5 < (6#8).toNat := by
  decide +kernel

theorem witness_ReadIncidentShowsPage : (ask [0x11, 2, 0x80, 0, 0] base).waits 0 [0x11, 2, 0x80, 0, 0] ∧ 640 ≤ half 2 0x80 ∧
    (ask [0x11, 2, 0x7F, 0, 0] base).waits 0 [0x11, 2, 0x7F, 0, 0] ∧ half 2 0x7F = (639 : IncidentId).val ∧
    (ask [0x11, 2, 0x7F, 0, 0] base).board.incident 639 = none ∧
    (ask [0x11, 0, 3, 0, 1] (holding sample base)).waits 0 [0x11, 0, 3, 0, 1] ∧
    (ask [0x11, 0, 3, 0, 1] (holding sample base)).board.incident 3 = some sample := by decide +kernel

theorem witness_ListPendingShowsPage : (ask [0x10, 6, 0, 0] base).waits 0 [0x10, 6, 0, 0] ∧ 6 ≤ (6#8).toNat ∧
    (ask [0x10, 2, 0, 0] (holding sample base)).waits 0 [0x10, 2, 0, 0] ∧ (2#8).toNat = (2 : DeskId).val ∧
    ∀ i ∈ (holding sample base).board.queues[(2 : DeskId)], (holding sample base).board.incident i ≠ none := by
  decide +kernel

theorem witness_SignOnPutsOnDuty : (ask [0x03] (off base)).waits 0 [0x03] ∧
    ((ask [0x03] (off base)).board.desks[(0 : DeskId)]).onDuty = false := by decide +kernel

theorem witness_SignOffTakesOffDuty :
    let s := base.updDesk 0 fun x => { x with assigned := 1 }
    let held := holding { sample with state := .restored, assigned := some 0 } base
    (ask [0x04, 2] base).waits 0 [0x04, 2] ∧ 1 < (2#8).toNat ∧ (ask [0x04, 0] s).waits 0 [0x04, 0] ∧
    0 < ((ask [0x04, 0] s).board.desks[(0 : DeskId)]).assigned ∧ (ask [0x04, 0] base).waits 0 [0x04, 0] ∧
    ((ask [0x04, 0] base).board.desks[(0 : DeskId)]).assigned = 0 ∧ (ask [0x04, 1] s).waits 0 [0x04, 1] ∧
    (held.board.incident 3).isSome = true ∧ (held.board.desks[(0 : DeskId)]).slot = none ∧
    ((offered base).board.desks[(0 : DeskId)]).slot = some ⟨3, 7200⟩ ∧
    (offered base).board.incident 3 = some { sample with state := .offered } := by decide +kernel

/-- A desk that holds an incident on an arranged board. -/
theorem witness_SignOffTakesOffDuty_holds : arranged.board.Arranged ∧ (arranged.board.desks[(1 : DeskId)]).assigned = 1 ∧
    (arranged.board.incident 6).map (fun x => (x.assigned, x.state)) = some (some 1, .assigned) :=
  ⟨witness_Arranged, by decide +kernel⟩

theorem witness_AcceptAssignsOffer :
    let s := ask [0x20, 0, 3] (offered base)
    (ask [0x20, 2, 0x80] base).waits 0 [0x20, 2, 0x80] ∧ 640 ≤ half 2 0x80 ∧ s.waits 0 [0x20, 0, 3] ∧
    half 0 3 = (3 : IncidentId).val ∧ (s.board.desks[(0 : DeskId)]).slot = some ⟨3, 7200⟩ ∧
    s.board.incident 3 = some { sample with state := .offered } ∧
    ((ask [0x20, 0, 3] base).board.desks[(0 : DeskId)]).slot = none ∧
    ((ask [0x20, 0, 3] base).board.desks[(0 : DeskId)]).lastWithdrawn ≠ some 3 ∧
    ((ask [0x20, 0, 3] (base.updDesk 0 fun x => { x with lastWithdrawn := some 3 })).board.desks[(0 : DeskId)]).lastWithdrawn =
      some 3 := by decide +kernel

theorem witness_DeclineReturnsIncident :
    let s := ask [0x21, 0, 3] (offered base)
    let late := ask [0x21, 0, 3] (base.updDesk 0 fun x => { x with lastWithdrawn := some 3 })
    let x : Incident := { sample with state := .offered }
    let one : DeskSet := x.declined ||| BitVec.ofNat 6 (2 ^ 0)
    let two : DeskSet := x.declined ||| BitVec.ofNat 6 (2 ^ 2)
    let group := groupSet settings (groupStart settings x.group)
    (ask [0x21, 2, 0x80] base).waits 0 [0x21, 2, 0x80] ∧ s.waits 0 [0x21, 0, 3] ∧
    (s.board.desks[(0 : DeskId)]).slot = some ⟨3, 7200⟩ ∧ s.board.incident 3 = some x ∧ late.waits 0 [0x21, 0, 3] ∧
    (late.board.desks[(0 : DeskId)]).slot = none ∧ (late.board.desks[(0 : DeskId)]).lastWithdrawn = some 3 ∧
    (ask [0x21, 0, 3] base).waits 0 [0x21, 0, 3] ∧ one &&& group ≠ group ∧ two &&& group = group ∧ x.rounds < 3 ∧
    3 ≤ ({ x with rounds := 3 } : Incident).rounds := by decide +kernel

theorem witness_ReleaseAndHandoverGiveUp :
    let mine (k : IncidentState) (body : List Byte) := ask body (holding { sample with state := k, assigned := some 0 } base)
    (ask [0x22, 2, 0x80] base).waits 0 [0x22, 2, 0x80] ∧ (ask [0x22, 0, 3] base).waits 0 [0x22, 0, 3] ∧
    (ask [0x22, 0, 3] base).board.incident 3 = none ∧
    ((mine .assigned [0x22, 0, 3]).board.incident 3).map (fun x => (x.state, x.assigned)) = some (.assigned, some 0) ∧
    ((mine .restored [0x22, 0, 3]).board.incident 3).map (fun x => (x.state, x.assigned)) = some (.restored, some 0) ∧
    ((mine .closed [0x22, 0, 3]).board.incident 3).map (·.state) = some .closed ∧
    ((ask [0x22, 0, 3] (holding sample base)).board.incident 3).map (·.assigned) = some none ∧
    (mine .assigned [0x22, 0, 3]).waits 0 [0x22, 0, 3] ∧ (ask [0x23, 0, 3, 6] base).waits 0 [0x23, 0, 3, 6] ∧
    6 ≤ (6#8).toNat ∧ (mine .assigned [0x23, 0, 3, 5]).waits 0 [0x23, 0, 3, 5] ∧ (5#8).toNat = (5 : DeskId).val := by
  decide +kernel

theorem witness_CloseClosesIncident :
    let s (k : IncidentState) (e : Option DeskId) (body : List Byte) := ask body (holding { sample with state := k, assigned := e } base)
    (ask [0x24, 2, 0x80, 0] base).waits 0 [0x24, 2, 0x80, 0] ∧ (ask [0x24, 0, 3, 2] base).waits 0 [0x24, 0, 3, 2] ∧
    1 < (2#8).toNat ∧ (ask [0x24, 0, 3, 1] base).board.incident 3 = none ∧
    ((s .closed none [0x24, 0, 3, 1]).board.incident 3).map (·.state) = some .closed ∧
    ((s .opened none [0x24, 0, 3, 1]).board.incident 3).map (·.state) = some .opened ∧
    ((s .assigned (some 1) [0x24, 0, 3, 1]).board.incident 3).map (·.assigned) = some (some 1) ∧
    ((off (s .restored none [0x24, 0, 3, 1])).board.desks[(0 : DeskId)]).onDuty = false ∧
    ((s .restored none [0x24, 0, 3, 1]).board.desks[(0 : DeskId)]).onDuty = true ∧
    (s .assigned (some 0) [0x24, 0, 3, 0]).waits 0 [0x24, 0, 3, 0] ∧ sample.isCircuit = true ∧ sample.members ≠ [] ∧
    (s .assigned (some 0) [0x24, 0, 3, 1]).waits 0 [0x24, 0, 3, 1] := by decide +kernel

theorem witness_TagWritesCrewTag :
    let text := List.replicate 16 0x7E#8
    let s := ask (0x25#8 :: 0 :: 3 :: text) (holding sample base)
    s.waits 0 (0x25#8 :: 0 :: 3 :: text) ∧ text.length ≤ 16 ∧ (∀ b ∈ text, 0x20 ≤ b.toNat ∧ b.toNat ≤ 0x7E) ∧
    s.board.incident 3 = some sample ∧ sample.assigned = none ∧ (s.board.desks[(0 : DeskId)]).onDuty = true ∧
    sample.tag ≠ some text ∧ (ask [0x25, 0, 3] (holding sample base)).waits 0 [0x25, 0, 3] ∧ sample.tag = none ∧
    (ask [0x25, 0, 3, 0x7F] base).waits 0 [0x25, 0, 3, 0x7F] ∧ 0x7E < (0x7F#8).toNat ∧
    ((off s).board.desks[(0 : DeskId)]).onDuty = false ∧
    ((holding { sample with state := .assigned, assigned := some 1 } base).board.incident 3).map (·.assigned) =
      some (some 1) := by decide +kernel

theorem witness_SetPeriodReweighsIncidents : (ask [0x48, 4] base).waits 0 [0x48, 4] ∧ 3 < (4#8).toNat ∧
    (ask [0x48, 3] base).waits 0 [0x48, 3] ∧ (3#8).toNat = Period.storm.code ∧ Period.storm ≠ base.setup.period ∧
    (base.board.desks[(0 : DeskId)]).onDuty = true ∧ ((off base).board.desks[(0 : DeskId)]).onDuty = false ∧
    (ask [0x48, 0] base).waits 0 [0x48, 0] ∧ (0#8).toNat = Period.day.code ∧ Period.day = base.setup.period ∧
    (holding sample base).board.incident 3 = some sample ∧
    urgencyOf (urgencyInputs { base.setup with period := .day } sample) = sample.urgency ∧
    urgencyOf (urgencyInputs base.setup { sample with urgency := 0 }) ≠ 0 := by decide +kernel

theorem witness_HoldAndUnholdChangeHoldSet :
    let cabinet := base.updStation 50 fun x => { x with hold := ⟨false, true⟩ }
    let both := base.updStation 50 fun x => { x with hold := ⟨true, false⟩ }
    (ask [0x30, 16, 1] base).waits 0 [0x30, 16, 1] ∧ 16 ≤ (16#8).toNat ∧ (ask [0x30, 2, 3] base).waits 0 [0x30, 2, 3] ∧
    stationAt 2 2 = 50 ∧ (base.roster 50).count ≠ 0 ∧ (base.roster 52).count = 0 ∧
    (base.board.desks[(0 : DeskId)]).onDuty = true ∧ ((off base).board.desks[(0 : DeskId)]).onDuty = false ∧
    (ask [0x31, 0, 25] base).waits 0 [0x31, 0, 25] ∧ 24 < (25#8).toNat ∧ (ask [0x31, 2, 3] both).waits 0 [0x31, 2, 3] ∧
    (cabinet.station 50).hold = ⟨false, true⟩ ∧ (both.station 50).hold ≠ ⟨false, true⟩ ∧
    (base.station 50).hold.held = false ∧ (both.station 50).hold.held = true ∧ (both.station 50).mode = .active ∧
    ((operating (operation .probe .sent) base).station 54).op = some 0 ∧
    ((operating (operation .probe .sent) base).station 54).hold.held = false ∧
    (∀ r ∈ [record .suspect (.suspended .confirmWindow 3), record .suspect (.suspended .confirmWindow 0),
        record .restoring (.suspended .restoreHold 0), record .confirmed .none],
      r ∈ (recorded r both).faults.records ∧ r.station = 50) := by
  decide +kernel

theorem witness_OperationsStart :
    let s := ask [0x38, 0x05, 0xDC] base
    s.waits 0 [0x38, 0x05, 0xDC] ∧ ownerOf s.setup.active (half 0x05 0xDC) = some 50 ∧
    OpKind.probe.allows (s.roster 50).kind = true ∧ OpKind.sweep.allows (s.roster 50).kind = false ∧
    (s.board.desks[(0 : DeskId)]).onDuty = true ∧ (s.trunk (stationTrunk 50)).state = .running ∧
    (s.station 50).mode = .active ∧ (s.station 50).hold.held = false ∧ (s.station 50).op = none ∧
    s.field.freeOpIndex = some 0 ∧ (s.trunk (stationTrunk 50)).queue.length < 8 ∧
    (∀ n, (s.roster n).owns 0 = false) ∧ (ask [0x3A, 0x0B, 0xBD] base).waits 0 [0x3A, 0x0B, 0xBD] ∧
    ownerOf settings (half 0x0B 0xBD) = some 54 ∧ OpKind.sweep.allows (base.roster 54).kind = true ∧
    (ask [0x39, 0x05, 0xDC] base).waits 0 [0x39, 0x05, 0xDC] ∧ OpKind.cycle.allows (base.roster 50).kind = true := by
  decide +kernel

/-- A CYCLE of an asset whose record is a member and not under operation, and one whose record is no member; the wrap of
the operation index. -/
theorem witness_OperationsStart_mark :
    let s := recorded (record .confirmed .none) (holding sample base)
    let late := { base.field with lastOp := 31 }
    s.faults.find 1500 = some (record .confirmed .none) ∧ (record .confirmed .none).underOp = false ∧
    (record .confirmed .none).incident = some 3 ∧ s.board.incident 3 = some sample ∧
    (record .suspect .none).incident = none ∧ late.freeOpIndex = some 0 ∧ late.ops.find 0 = none ∧
    (settings.station 50).owns 1400 = true ∧ ∀ m < 50, (settings.station m).owns 1400 = false := by decide +kernel

theorem witness_OperationsEnd :
    let s := ask [0x3B, 0] (operating (operation .sweep .sent) base)
    (ask [0x3B, 32] base).waits 0 [0x3B, 32] ∧ 32 ≤ (32#8).toNat ∧ s.waits 0 [0x3B, 0] ∧ (0#8).toNat = (0 : OpId).val ∧
    (s.board.desks[(0 : DeskId)]).onDuty = true ∧ s.field.ops.find 0 = some (operation .sweep .sent) ∧
    (ask [0x3B, 31] base).waits 0 [0x3B, 31] ∧ base.field.ops.find 31 = none ∧
    ((off s).board.desks[(0 : DeskId)]).onDuty = false ∧ (s.board.links[(0 : DeskId)]).up = true := by decide +kernel

/-- The desk that a mark and an OP-DONE reach while the requesting desk's link is DOWN; the two outcomes of a circuit. -/
theorem witness_OperationsEnd_outcomes :
    let r : FaultRecord := { record .confirmed .none with underOp := true, condition := .drift }
    let x : Op := { operation .cycle .sent with station := 50, asset := 1500 }
    let s := ((operating x (recorded r (holding { sample with state := .assigned, assigned := some 1 } base))).updLink 0
      fun l => { l with up := false })
    s.field.ops.find 0 = some x ∧ (s.board.links[x.desk]).up = false ∧ s.faults.find x.asset = some r ∧
    r.incident = some 3 ∧ s.board.incident 3 = some { sample with state := .assigned, assigned := some 1 } ∧
    (settings.circuit (circuitFor settings 1500)).invalid = false ∧
    (settings.circuit (circuitFor settings 1500)).fold = false ∧ (settings.circuit (circuitFor settings 999)).invalid = true ∧
    (settings.circuit (circuitFor settings 2100)).fold = true ∧ base.faults.find 1500 = none ∧
    base.faults.records.length < 2048 ∧ settings.params.restoreHold ≠ 0 := by decide +kernel

theorem witness_TrunkStartEveryLine : (ask [0x40, 16] base).waits 0 [0x40, 16] ∧ 16 ≤ (16#8).toNat ∧
    (ask [0x40, 2] base).waits 0 [0x40, 2] ∧ (2#8).toNat = (2 : TrunkId).val ∧ (base.trunk 2).state = .running ∧
    (base.trunk 15).state = .off ∧ ((withTrunkState (fun x => { x with state := .faulted }) base).trunk 2).state = .faulted ∧
    ((withTrunkState (fun x => { x with state := .starting }) base).trunk 2).state = .starting := by decide +kernel

theorem witness_TrunkStopLeavesRunning :
    let faulted := withTrunkState (fun x => { x with state := .faulted }) base
    (ask [0x41, 16] base).waits 0 [0x41, 16] ∧ (ask [0x41, 15] base).waits 0 [0x41, 15] ∧ (base.trunk 15).state = .off ∧
    (ask [0x41, 2] base).waits 0 [0x41, 2] ∧ (base.trunk 2).state = .running ∧ (base.trunk 2).state ≠ .off ∧
    (faulted.trunk 2).state ≠ .running ∧ (faulted.trunk 2).state ≠ .off ∧ (base.roster (stationAt 2 2)).count ≠ 0 ∧
    ((holding { sample with subject := .trunk 2, members := [], state := .assigned } base).board.incident 3).map
      (fun x => (x.subject, x.atFault)) = some (.trunk 2, true) := by decide +kernel

/-- A RUNNING trunk one of whose stations has a record that is not stale. -/
theorem witness_TrunkStopLeavesRunning_stale :
    let s := recorded (record .suspect .none) base
    s.faults.Sound ∧ (s.trunk 2).state = .running ∧ s.faults.records = [record .suspect .none] ∧
    stationTrunk (record .suspect .none).station = 2 ∧ (s.roster (record .suspect .none).station).count ≠ 0 ∧
    (record .suspect .none).stale = false :=
  ⟨⟨by decide, by simp [recorded, State.onFaults]⟩, by decide +kernel⟩

/-- Operation fields agree with the operations where the one field set is that of station 54, and names its operation. -/
theorem opsAgree_of_one {f : Field} {o : OpId} {x : Op} (h : ∀ n, (f.station n).op ≠ none → n = 54)
    (ho : (f.station 54).op = some o) (hx : f.ops.find o = some x) (hs : x.station = 54) : f.OpsAgree := by
  intro n k hn
  obtain rfl := h n (by rw [hn]; exact Option.some_ne_none k)
  rw [ho] at hn
  cases hn
  exact ⟨x, hx, hs⟩

/-- The premise that operation fields agree with the operations, of a state with an operation. -/
theorem witness_OpsAgree : (operating (operation .sweep .sent) base).field.OpsAgree :=
  opsAgree_of_one (o := 0) (x := operation .sweep .sent) (by decide +kernel) (by decide +kernel) (by decide +kernel) rfl

theorem witness_CensusAndLabelChainStart : (ask [0x42, 16] base).waits 0 [0x42, 16] ∧ (ask [0x42, 2] base).waits 0 [0x42, 2] ∧
    (base.trunk 2).state = .running ∧ (base.trunk 0).state ≠ .running ∧ (base.chain 2).census = none ∧
    (base.chain 2).labelling = none ∧ (base.chain 2).list = [] ∧ (base.trunk 2).queue.length < 8 ∧
    ((withTrunkState (fun x => { x with queue := List.replicate 8 ⟨0, .forget⟩ }) base).trunk 2).queue.length = 8 ∧
    ((withChain { again := false, list := [2] } base).chain 2).list ≠ [] ∧
    (ask [0x43, 2] base).waits 0 [0x43, 2] ∧ (base.chain 2).busy = false ∧ (base.chain 2).again = false ∧
    occupiedPositions base 2 = [2, 3, 5, 6] ∧ (base.trunk 2).queue.length + 2 ≤ 8 ∧
    (∀ q ∈ occupiedPositions base 2, (base.station (stationAt 2 q)).op = none) ∧
    ((withChain { list := [2] } base).chain 2).busy = true := by decide +kernel

/-- The clauses on what LABEL_CHAIN makes of the chain: room for the LABEL behind an ABORT-OP, no room, and a chain without
stations. -/
theorem witness_CensusAndLabelChainStart_queue :
    (queued 5).field.OpsAgree ∧ ((queued 5).trunk 2).state = .running ∧ ((queued 5).chain 2).busy = false ∧
    ((queued 5).chain 2).again = false ∧ occupiedPositions (queued 5) 2 = [2, 3, 5, 6] ∧
    ((queued 5).station 54).mode = .active ∧ ((queued 5).station 54).op = some 0 ∧
    ((queued 5).field.ops.find 0).isSome ∧ ((queued 5).trunk 2).queue.length + 2 + 1 = 8 ∧
    (((queued 5).forgetLabels 2).trunk 2).queue.length = 7 ∧ ((queued 6).trunk 2).state = .running ∧
    ((queued 6).chain 2).busy = false ∧ ((queued 6).chain 2).again = false ∧
    occupiedPositions (queued 6) 2 = [2, 3, 5, 6] ∧ (((queued 6).forgetLabels 2).trunk 2).queue.length = 8 ∧
    [2, 3, 5, 6].getLast? = some (6 : Position) ∧
    let bare := base.updTrunk 3 fun _ => runningTrunk
    (bare.trunk 3).state = .running ∧ (bare.chain 3).busy = false ∧ (bare.chain 3).again = false ∧
    occupiedPositions bare 3 = [] :=
  ⟨opsAgree_of_one (o := 0) (x := operation .probe .sent) (by decide +kernel) (by decide +kernel) (by decide +kernel) rfl,
    by decide +kernel⟩

theorem witness_EditBeginTakesClaim :
    let s (e : Option DeskId) := ask [0x50] (base.onSetup fun c => { c with claim := e })
    (s none).waits 0 [0x50] ∧ (s none).setup.claim = none ∧ (s (some 0)).waits 0 [0x50] ∧ (s (some 0)).setup.claim = some 0 ∧
    (s (some 5)).waits 0 [0x50] ∧ (s (some 5)).setup.claim = some 5 ∧ (5 : DeskId) ≠ 0 := by decide +kernel

theorem witness_DiscardFreesClaim :
    let s := ask [0x58] (base.onSetup fun c => { c with claim := some 0 })
    s.waits 0 [0x58] ∧ s.setup.claim = some 0 ∧ (ask [0x58] base).waits 0 [0x58] ∧ base.setup.claim ≠ some 0 := by
  decide +kernel

theorem witness_WritesSetOneSetting :
    let s (body : List Byte) := ask body (base.onSetup fun c => { c with claim := some 0 })
    let circuit (n : Byte) : List Byte := [0x51, n, 0, 9, 3, 7, 0xFF, 1, 70, 70]
    let station (p k : Byte) : List Byte := [0x52, 15, p, k, 0, 1, 0, 1, 0, 60, 2, 9, 64]
    (s (circuit 128)).waits 0 (circuit 128) ∧ (128#8).toNat = (127 : CircuitId).val + 1 ∧
    (s (circuit 129)).waits 0 (circuit 129) ∧ 128 < (129#8).toNat ∧ (s (station 24 3)).waits 0 (station 24 3) ∧
    (24#8).toNat = (23 : Position).val + 1 ∧ (3#8).toNat = Kind.sign.code ∧ (s (station 24 4)).waits 0 (station 24 4) ∧
    3 < (4#8).toNat ∧ (s [0x53, 5, 3, 8, 45]).waits 0 [0x53, 5, 3, 8, 45] ∧ (5#8).toNat = (5 : DeskId).val ∧
    (s [0x53, 6, 3, 8, 45]).waits 0 [0x53, 6, 3, 8, 45] ∧ 6 ≤ (6#8).toNat ∧
    (s [0x54, 13, 0, 9]).waits 0 [0x54, 13, 0, 9] ∧
    (13#8 : Byte) ≠ 0#8 ∧ (13#8).toNat ≤ 13 ∧
    (s [0x54, 14, 0, 9]).waits 0 [0x54, 14, 0, 9] ∧ 13 < (14#8).toNat ∧ (s [0x55, 3, 4, 32]).waits 0 [0x55, 3, 4, 32] ∧
    (3#8).toNat = Period.storm.code ∧ (4#8).toNat = Cls.infra.code ∧ (s [0x55, 4, 4, 32]).waits 0 [0x55, 4, 4, 32] ∧
    (s []).setup.claim = some 0 ∧ base.setup.claim ≠ some 0 := by decide +kernel

set_option maxRecDepth 20000 in
theorem witness_AdoptTakesClampedShadow :
    let s := ask [0x57] (base.onSetup fun c => { c with shadow := written, claim := some 0 })
    s.waits 0 [0x57] ∧ s.setup.claim = some 0 ∧ (ask [0x57] base).waits 0 [0x57] ∧ base.setup.claim ≠ some 0 ∧
    (s.roster 54).count ≠ 0 ∧ ((clampAll written).station 54).count = 0 ∧ (s.roster 50).count ≠ 0 ∧
    ((clampAll written).station 50).count ≠ 0 ∧ (s.roster 52).count = 0 ∧ startsGroup (clampAll written) 2 = true := by
  decide +kernel

set_option maxRecDepth 20000 in
/-- R85, R93: the runs of an adoption find the unresponsive flag of the desk that sent ADOPT clear: desk 1 stands before desk
2 in the order of its group. -/
theorem test_adopt_runs_last :
    let a := { settings with desks := #v[{}, { continues := true }, { continues := true }, {}, {}, {}] }
    let s := ((holding { sample with group := 0 } base).updDesk 1 fun x => { x with unresponsive := true }).updLink 1
      fun l => { l with outstanding := some ⟨[0x57], .waiting⟩ }
    let t := after (.adopt 1) (s.onSetup fun c => { c with active := a, shadow := a, claim := some 1 })
    (t.board.desks[(1 : DeskId)]).slot.map (·.incident) = some 3 ∧ (t.board.desks[(2 : DeskId)]).slot = none := by
  decide +kernel

set_option maxRecDepth 20000 in
/-- At an adoption of an empty shadow copy: an operation whose station goes, a position that leaves the labelling list, and
a station VACANT before and after; at one that keeps the settings, the operation is kept. -/
theorem witness_AdoptTakesClampedShadow_operations :
    let s (a : Settings) := (withChain { labelling := some ⟨3, 7202⟩, list := [5, 6] } (operating (operation .sweep .sent)
      (ask [0x57] base))).onSetup fun c => { c with shadow := a, claim := some 0 }
    (s {}).waits 0 [0x57] ∧ (s {}).setup.claim = some 0 ∧ (s {}).field.ops.find 0 = some (operation .sweep .sent) ∧
    ((s {}).station 54).op = some 0 ∧ ((clampAll {}).station 54).count = 0 ∧ ((s {}).roster 54).count ≠ 0 ∧
    ((s {}).roster 52).count = 0 ∧ ((clampAll {}).station 52).count = 0 ∧ ((s {}).trunk 2).state = .running ∧
    ((clampAll settings).station 54).count ≠ 0 ∧ ((clampAll settings).station 54).owns 3005 = true ∧
    ((clampAll settings).station 54).kind = some .loop := by decide +kernel

/-- An incident of each kind of subject, with members and without. -/
theorem witness_SetPeriodReweighsIncidents_urgency :
    sample.subject = .circuit 1 ∧ sample.members ≠ [] ∧ sample.worst = some .out ∧
    ({ sample with members := [] } : Incident).members = [] ∧
    (arranged.board.incident 5).map (·.subject) = some (.station 50) ∧
    (arranged.board.incident 6).map (·.subject) = some (.trunk 2) := by decide +kernel

/-- A circuit with an alternate group and one without, and a close delay of 0. -/
theorem witness_HandoffsMoveIncidents_groups :
    (written.circuit 0).alternate = some 1 ∧ (written.circuit 1).alternate = none ∧
    base.setup.active.params.closeDelay ≠ 0 ∧ ({ closeDelay := 0 } : Params).closeDelay = 0 := by decide +kernel

/-- Upstream frames at the limits of each check. -/
theorem witness_TrunkSymbols_frames :
    (0#8 : Byte) = 0#8 ∧ 9 < (10#8).toNat ∧ (9#8).toNat = 9 ∧ ([9#8, 1#8, 2#8] : List Byte).length < 4 ∧
    4 ≤ ([9#8, 1#8, 2#8, 3#8] : List Byte).length ∧ (1#8).toNat = 1 ∧ ([1#8] : List Byte).length < 2 ∧
    2 ≤ ([1#8, 3#8] : List Byte).length := by decide

/-- A link that takes a notice, one that is DOWN, and one with a full queue. -/
theorem witness_IncidentEvent_links :
    (base.board.links[(0 : DeskId)]).up = true ∧ (base.board.links[(0 : DeskId)]).notices.length < 16 ∧ ({} : Link).up = false ∧
    16 ≤ ({ up := true, notices := List.replicate 16 (.reset 2) } : Link).notices.length := by decide +kernel

/-- The premises of the clamps: a shadow copy whose bounds are those that WRITE-CIRCUIT can write. -/
theorem witness_ClampsHold : written.Bounded ∧ ∀ n, (written.station n).first ≤ 65535 :=
  ⟨⟨by decide +kernel, by decide +kernel⟩, by decide +kernel⟩

set_option maxRecDepth 20000 in
/-- The cases of R18: a range that overlaps no earlier one, one that keeps its top, one that is swallowed, and a VACANT
entry; and an alternate group with and without. -/
theorem witness_ClampsHold_ranges :
    let b := clampAll written
    let top (m : StationId) : Nat := (b.station m).first + (b.station m).count - 1
    let hits (n m : StationId) : Prop :=
      m < n ∧ (b.station m).count ≠ 0 ∧ (b.station m).first ≤ (written.station n).first + (written.station n).count - 1 ∧
        (written.station n).first ≤ top m
    (written.station 49).count = 0 ∧ (∀ m < 50, (b.station m).count = 0) ∧ (written.station 50).count = 200 ∧
    hits 51 50 ∧ top 50 = 1599 ∧ top 50 < 1550 + 100 - 1 ∧ hits 52 50 ∧ ¬hits 52 51 ∧ 1420 + 30 - 1 ≤ top 50 ∧
    (written.circuit 0).alternate = some 1 ∧ (written.circuit 1).alternate = none := by decide +kernel

/-- R45, R85: a record CLOSED and taken again for a new incident in one event, which enters the queue it has left at an equal
urgency: the queue reads as before, and its group is run. -/
theorem test_reused_record_runs_group :
    let b := (holding sample base).board
    let c := (b.commit .table 3 { sample with state := .closed }).commit .table 3 { sample with subject := .circuit 2 }
    c.queues[(2 : DeskId)] = b.queues[(2 : DeskId)] ∧ runDue base.setup b c 2 = true ∧ runDue base.setup b c 0 = false := by
  decide +kernel

/-- R189: the OP-DONE of a SWEEP that ended without N carries two absent levels. -/
theorem test_sweep_without_levels : (Notice.opDone 14 .sweep 22040 50 2 .noAnswer .stepping 3 .none).body.drop 11 =
    [3, 0xFF, 0xFF] := by decide +kernel

theorem witness_OffersAndRuns :
    let s := holding sample base
    s.board.incident 3 = some sample ∧ sample.state = .opened ∧ runDue s.setup base.board s.board 2 = true ∧
    nextOffer s.setup.active s.board 2 = some (2, 3, sample) ∧ nextOffer base.setup.active base.board 2 = none ∧
    runDue s.setup base.board s.board 0 = false := by
  decide +kernel

/-- Every queue of this board lists incidents of its own group. -/
theorem witness_QueuesOwn : arranged.board.QueuesOwn := fun g i x hi hx => by
  obtain ⟨y, hy, -, hg⟩ := (arranged_queued g i).1 hi
  rw [hx, Option.some.injEq] at hy
  rw [hy, hg]

theorem witness_IncidentEvent :
    let b := (offered base).board
    let x : Incident := { sample with state := .closed, assigned := some 1 }
    b.incident 3 ≠ some x ∧ (b.incident 3).map (·.state) = some .offered ∧
    (holding sample base).board.incident 3 = some sample ∧ sample.state = .opened := by decide +kernel

/-- An OPEN incident that takes a place in its queue by a changed urgency, and one that keeps its place. -/
theorem witness_IncidentEvent_stirs :
    let b := (holding sample base).board
    b.incident 3 ≠ some { sample with urgency := 57 } ∧ b.incident 3 ≠ some { sample with tag := some [0x43] } ∧
    (b.commit .table 3 { sample with urgency := 57 }).stirs[(2 : DeskId)] = b.stirs[(2 : DeskId)] + 1 ∧
    (b.commit .table 3 { sample with tag := some [0x43] }).stirs[(2 : DeskId)] = b.stirs[(2 : DeskId)] := by decide +kernel

theorem witness_HandoffsMoveIncidents :
    let b := (holding { sample with subject := .trunk 2, state := .restored, members := [] } base).board
    b.liveOf (.trunk 2) = some (3, { sample with subject := .trunk 2, state := .restored, members := [] }) ∧
    base.board.liveOf (.trunk 2) = none ∧ base.board.freshRecord = some 0 ∧
    (sample.members.filter fun m => decide (m.asset ≠ 1500)) = [] ∧ sample.unrecorded = 0 ∧ sample.isCircuit = true ∧
    sample.atFault = true ∧ (settings.circuit 1).trip = 8 ∧ base.setup.active.params.closeDelay ≠ 0 ∧
    (holding sample base).board.liveOf (.circuit (record .suspect .none).circuit) = some (3, sample) ∧
    base.board.liveOf (.circuit (record .suspect .none).circuit) = none ∧ (record .suspect .none).incident = none ∧
    (record .confirmed .none).incident = some 3 ∧ (holding sample base).board.incident 3 = some sample ∧
    sample.members ≠ [] ∧ (conditionChanged base.setup 1500 .degraded sample).worst ≠ sample.worst ∧
    (conditionChanged base.setup 1500 .out sample).worst = sample.worst := by decide +kernel

/-- A join and a count that trip an incident, OFFERED or RESTORED, into an alternate group, those that do not, and the
edges of the unrecorded count. -/
theorem witness_HandoffsMoveIncidents_trips :
    let c : Setup := { base.setup with active := settings.setCircuit 1 {
        bound := 1999, invalid := false, group := 2, alternate := some 3, trip := 3 } }
    let offered : Incident := { sample with state := .offered, unrecorded := 1 }
    let restored : Incident := { sample with state := .restored, members := [], unrecorded := 2, assigned := some 1 }
    let counted : Incident := { sample with unrecorded := 1, members := [] }
    (c.active.circuit 1).trip = 3 ∧ (c.active.circuit 1).alternate = some 3 ∧ groupOf 3 ≠ offered.group ∧
    offered.tripped = false ∧ 3 ≤ offered.members.length + 1 + offered.unrecorded ∧
    offered.reopenedState = .offered ∧ restored.reopenedState = .assigned ∧
    3 ≤ restored.members.length + (restored.unrecorded + 1) ∧ sample.members.length + 1 + sample.unrecorded < 3 ∧
    sample.members.Pairwise (fun m n => m.confirmedAt ≤ n.confirmedAt) ∧ counted.atFault = true ∧
    counted.unrecorded = 1 ∧ 1 < restored.unrecorded ∧ offered.unrecorded < 65535 ∧ offered.members ≠ [] ∧
    base.board.liveOf (.circuit 1) = none ∧ (holding sample base).board.liveOf (.circuit 1) = some (3, sample) := by
  decide +kernel

theorem witness_BoardTimers :
    let restored := holding { sample with state := .restored, closeDelay := some 7200 } base
    let aging := (holding sample base).onBoard fun _ b => { b with aging := b.aging.put 3 ⟨7200, 30⟩ }
    let away := base.updDesk 5 fun x => { x with absence := some 7200 }
    restored.board.incident 3 = some { sample with state := .restored, closeDelay := some 7200 } ∧
    7200 ≤ restored.setup.time ∧ aging.board.aging.find 3 = some ⟨7200, 30⟩ ∧ 7200 ≤ aging.setup.time ∧
    aging.board.incident 3 = some sample ∧ sample.live = true ∧
    ((offered base).board.desks[(0 : DeskId)]).slot = some ⟨3, 7200⟩ ∧ 7200 ≤ (offered base).setup.time ∧
    (offered base).board.incident 3 = some { sample with state := .offered } ∧
    (away.board.desks[(5 : DeskId)]).absence = some 7200 := by decide +kernel

/-- A DOWN desk whose absence runs out while it holds an incident. -/
theorem witness_BoardTimers_absence :
    let away := (arranged.updDesk 1 fun x => { x with absence := some 7200 }).updLink 1 fun l => { l with up := false }
    (away.board.desks[(1 : DeskId)]).absence = some 7200 ∧ (away.board.links[(1 : DeskId)]).up = false ∧
    (away.board.links[(1 : DeskId)]).overflow ≤ 255 ∧
    (away.board.incident 6).map (fun x => (x.assigned, x.state)) = some (some 1, .assigned) ∧
    away.board.incidents.rising = true := by decide +kernel

theorem witness_IntervalExpiryDebitsOrWakes :
    let at_ (b : Int) := base.updStation 50 fun x => { x with balance := b, nextExpiry := some 7200 }
    let asleep (c : Nat) := base.updStation 50 fun x =>
      { x with mode := .asleep, nextExpiry := some 7200, span := some 3, sleepCount := c }
    ((at_ (-1)).station 50).nextExpiry = some 7200 ∧ 7200 ≤ (at_ 0).setup.time ∧ ((at_ (-1)).station 50).mode = .active ∧
    ((at_ (-1)).station 50).hold.held = false ∧ -((base.roster 50).allowance : Int) < -1 ∧
    ((at_ (-2)).station 50).balance ≤ -((base.roster 50).allowance : Int) ∧ ((asleep 1).station 50).mode = .asleep ∧
    ((asleep 1).station 50).sleepCount + 1 < 3 ∧ ((asleep 2).station 50).span = some 3 ∧
    3 ≤ ((asleep 2).station 50).sleepCount + 1 := by decide +kernel

/-- A station with a live incident, one with a RESTORED incident and one with none; a census trigger of a trunk that does
not run, of a busy chain, and of a free one with room and without. -/
theorem witness_IntervalExpiryDebitsOrWakes_silent :
    let full := withTrunkState (fun x => { x with queue := List.replicate 8 ⟨3, .forget⟩ }) base
    arranged.board.Arranged ∧ arranged.field.OpsAgree ∧ arranged.faults.Sound ∧
    (∀ i ∈ ([3, 4, 5, 6, 7] : List IncidentId), (arranged.board.incident i).map (·.subject) ≠ some (.station 51)) ∧
    (arranged.board.incident 5).map (fun x => (x.subject, x.live, x.state)) = some (.station 50, true, .opened) ∧
    (arranged.board.incident 7).map (fun x => (x.subject, x.live, x.state)) = some (.station 53, true, .restored) ∧
    (base.trunk 0).state ≠ .running ∧ (base.trunk 2).state = .running ∧ (base.trunk 2).queue.length < 8 ∧
    (base.chain 2).census = none ∧ (base.chain 2).labelling = none ∧ (base.chain 2).list = [] ∧
    ((withChain { census := some 7204 } base).chain 2).census ≠ none ∧ 8 ≤ (full.trunk 2).queue.length := by
  have ops : ∀ n : StationId, (arranged.field.station n).op = none := by decide +kernel
  have agree : arranged.field.OpsAgree := fun n o h => by
    rw [ops n] at h
    cases h
  exact ⟨witness_Arranged, agree, ⟨by decide, List.Pairwise.nil⟩, by decide +kernel⟩

/-- A station whose one record is a member and not stale, in a sound fault table. -/
theorem witness_IntervalExpiryDebitsOrWakes_stale :
    let r := record .confirmed .none
    let s := recorded r (holding sample base)
    s.faults.Sound ∧ s.faults.records = [] ++ r :: [] ∧ r.station = 50 ∧ r.stale ≠ true ∧ r.incident = some 3 ∧
    s.board.incident 3 = some sample ∧ (record .suspect .none).incident = none :=
  ⟨⟨by decide, by simp [recorded, State.onFaults]⟩, by decide +kernel⟩

theorem witness_ReportsMoveRecords :
    let w := recorded (record .suspect (.running .confirmWindow 7200)) base
    let h := recorded (record .restoring (.running .restoreHold 7200)) base
    let marked := base.onFaults fun f => { f with marks := [1500] }
    let report (c : Condition) : Report := ⟨1500, 50, .lamp, c, false, 1, false⟩
    w.faults.find 1500 = some (record .suspect (.running .confirmWindow 7200)) ∧ 7200 ≤ w.setup.time ∧
    h.faults.find 1500 = some (record .restoring (.running .restoreHold 7200)) ∧
    marked.faults.marked 1500 = true ∧ base.faults.marked 1500 = false ∧ base.faults.find 1500 = none ∧
    base.faults.records.length < 2048 ∧ 1 < settings.params.threshold .lamp ∧ settings.params.threshold .sign ≤ 1 ∧
    (recorded (record .confirmed .none) base).faults.find 1500 = some (record .confirmed .none) ∧
    (report .out).condition ≠ .ok ∧ settings.params.restoreHold ≠ 0 := by decide +kernel

theorem witness_Bounded : settings.Bounded := ⟨by decide +kernel, by decide +kernel⟩

theorem witness_AssetStateChecksAndReports :
    let f : List Byte := [0x02, 3, 0x05, 0xDC, 1, 1, 0]
    let s := arrived f base
    let held := s.updStation 50 fun x => { x with hold := ⟨true, false⟩ }
    (s.trunk 2).buffer.head? = some f ∧ (3#8).toNat = (2 : Position).val + 1 ∧ (s.roster (stationAt 2 2)).count ≠ 0 ∧
    (s.roster 50).first ≤ half 0x05 0xDC ∧ half 0x05 0xDC < (s.roster 50).first + (s.roster 50).count ∧
    (s.roster 50).kind = some .lamp ∧ kindOf 1 = some .lamp ∧ conditionOf 1 = some .out ∧ reportable .lamp .out = true ∧
    reportable .lamp .dark = false ∧ (s.station 50).hold.held = false ∧ (held.station 50).hold.held = true ∧
    (settings.circuit (circuitFor settings 1500)).invalid = false ∧ (base.roster (stationAt 2 4)).count = 0 ∧
    half 0x06 0x40 = (base.roster 50).first + (base.roster 50).count ∧ 24 < (25#8).toNat := by decide +kernel

theorem witness_StationFrames :
    let s (f : List Byte) := arrived f base
    ((s [0x01, 3]).trunk 2).buffer.head? = some [0x01, 3] ∧ ((s [0x03, 3, 9]).trunk 2).buffer.head? = some [0x03, 3, 9] ∧
    ((s [0x04, 3]).trunk 2).buffer.head? = some [0x04, 3] ∧ ((s [0x05, 25]).trunk 2).buffer.head? = some [0x05, 25] ∧
    (3#8).toNat = (2 : Position).val + 1 ∧ ((s [0x01, 3]).roster (stationAt 2 2)).count ≠ 0 ∧
    ((s [0x01, 3]).station 50).mode = .active ∧ ((s [0x01, 3]).station 50).hold.held = false ∧
    ((((s [0x03, 3, 9]).take 2).hear 50).station 50).mode = .active ∧
    ((((s [0x03, 3, 9]).take 2).hear 50).station 50).hold.held = false ∧
    0 ≤ ((((s [0x03, 3, 9]).take 2).hear 50).station 50).balance ∧
    ((((s [0x03, 3, 9]).take 2).hear 50).station 50).wakeExtra = false ∧
    ((((s [0x03, 3, 9]).take 2).hear 50).station 50).op = none ∧
    1 ≤ (9#8).toNat ∧ (9#8).toNat ≤ (base.roster 50).sleepLimit ∧ (base.roster 50).sleepLimit < (10#8).toNat ∧
    ((s [0x03, 3, 9]).trunk 2).state = .running ∧ ((s [0x03, 3, 9]).trunk 2).queue.length < 8 := by decide +kernel

/-- A SILENT, a PENDING and an ASLEEP station on an arranged board with the station's incident at fault. -/
theorem witness_StationFrames_heard :
    let s (m : Mode) := arranged.updStation 50 fun x => { x with mode := m }
    (∀ m, (s m).board.Arranged ∧ (s m).faults.Sound) ∧ ((s .silent).station 50).mode = .silent ∧
    ((s .pending).station 50).mode = .pending ∧ ((s .asleep).station 50).mode = .asleep ∧
    ((s .silent).board.incident 5).map (fun x => (x.subject, x.atFault)) = some (.station 50, true) :=
  ⟨fun _ => ⟨witness_Arranged, Nat.zero_le 2048, List.Pairwise.nil⟩, by decide +kernel⟩

/-- What a census can hold for a station of the roster, which is PENDING, and for a position in no labelling. -/
theorem witness_ChainFrames_found :
    let s := base.updStation 50 fun x => { x with mode := .pending }
    let found : List CensusEntry := [.unlabelled, .unlabelled, .full 3, .bypass]
    (s.roster (stationAt 2 2)).count ≠ 0 ∧ (s.station 50).mode ≠ .active ∧ found[(2 : Position).val]? = some (.full 3) ∧
    found[(3 : Position).val]? = some .bypass ∧ found[(0 : Position).val]? = some .unlabelled ∧
    found[(5 : Position).val]? = none ∧ (4 : Nat) ≠ (2 : Position).val + 1 ∧ (base.roster (stationAt 2 3)).count ≠ 0 ∧
    (base.roster (stationAt 2 5)).count ≠ 0 ∧ 1 ≤ (24#8).toNat ∧ (24#8).toNat ≤ 24 ∧ 24 < (25#8).toNat ∧
    (25#8).toNat < 0xFE ∧ (base.chain 2).labelling = none ∧ [(1 : Position), 4].Pairwise (· < ·) := by decide +kernel

theorem witness_ChainFrames :
    let lab := withChain { labelling := some ⟨2, 7202⟩ } (arrived [0x06, 3, 1, 0x05, 0x78, 0, 200] base)
    let cen := withChain { census := some 7204 } (arrived [0x08, 255, 25, 0xFF] base)
    let ret := operating (operation .probe .sent) (arrived [0x09, 7, 0x86, 0] base)
    (lab.trunk 2).buffer.head? = some [0x06, 3, 1, 0x05, 0x78, 0, 200] ∧
    (lab.chain 2).labelling = some ⟨2, 7202⟩ ∧ (3#8).toNat = (2 : Position).val + 1 ∧
    (lab.roster (stationAt 2 2)).count ≠ 0 ∧ kindOf 1 = (lab.roster 50).kind ∧ half 0x05 0x78 = (lab.roster 50).first ∧
    half 0 200 = (lab.roster 50).count ∧ (base.chain 2).labelling = none ∧
    (cen.trunk 2).buffer.head? = some [0x08, 255, 25, 0xFF] ∧ (cen.chain 2).census ≠ none ∧
    censusEntries (min (25#8).toNat 24) [0xFF] = none ∧
    censusEntries (min (25#8).toNat 24) (List.replicate 24 0xFE) = some (List.replicate 24 .bypass) ∧
    24 < (25#8).toNat ∧ (base.chain 2).census = none ∧ (ret.trunk 2).buffer.head? = some [0x09, 7, 0x86, 0] ∧
    ret.field.ops.find 0 = some (operation .probe .sent) ∧ stationTrunk 54 = 2 ∧ (stationPosition 54).val + 1 = (7#8).toNat ∧
    (0x85#8).toNat < 0x86 ∧ 0x89 < (0x8A#8).toNat ∧ ret.field.ops.find 1 = none := by decide +kernel

theorem witness_OperationsAdvance :
    let f : List Byte := [0x07, 7, 0, 0x0B, 0xBD, 4, 8, 1]
    let s := operating (operation .sweep .sent) (arrived f base)
    let p := operating (operation .probe .sent) base
    (s.trunk 2).buffer.head? = some f ∧ (7#8).toNat = (6 : Position).val + 1 ∧ (s.roster (stationAt 2 6)).count ≠ 0 ∧
    s.field.ops.find 0 = some (operation .sweep .sent) ∧ replyOf 4 8 1 = some (.sample 8 true) ∧
    (operation .sweep .sent).asset = half 0x0B 0xBD ∧ takesReply .sweep .sent (.sample 8 true) = true ∧
    takesReply .sweep .sent (.confirmation 8) = false ∧ (operation .sweep .sent).deadline ≤ s.setup.time ∧
    (operation .sweep .sent).retried = false ∧ (operation .sweep .sent).level = some 8 ∧
    (operation .sweep .sent).state ≠ .ending ∧
    p.field.ops.find 0 = some (operation .probe .sent) ∧ (operation .probe .sent).deadline ≤ p.setup.time ∧
    (s.trunk (stationTrunk 54)).state = .running ∧ (s.trunk (stationTrunk 54)).queue.length < 8 ∧
    (s.roster 54).kind = some .loop ∧ reportable .loop .drift = true ∧ reportable .loop .out = false ∧
    (operating (operation .cycle .sent) base).field.ops.find 0 = some (operation .cycle .sent) := by decide +kernel

/-- A sample of a sweep whose trunk is full, and one whose trunk has room; reply kinds that name none. -/
theorem witness_OperationsAdvance_refused :
    let full := withTrunkState (fun x => { x with queue := List.replicate 8 ⟨3, .forget⟩ }) base
    let x := operation .sweep .sent
    ¬((full.trunk (stationTrunk x.station)).state = .running ∧ (full.trunk (stationTrunk x.station)).queue.length < 8) ∧
    ((base.trunk (stationTrunk x.station)).state = .running ∧ (base.trunk (stationTrunk x.station)).queue.length < 8) ∧
    x.direction = none ∧ ({ x with direction := some .up } : Op).direction = some .up ∧
    takesReply .sweep .ending (.confirmation 9) = true ∧ 6 < (7#8).toNat := by decide +kernel

theorem witness_TrunkSymbols :
    let starting := base.updTrunk 2 fun _ => { state := .starting }
    let full := withTrunkState (fun x => { x with assembly := some ⟨List.replicate 80 1, false⟩ }) base
    let sending := withTrunkState (fun x => { x with transmitting := some ⟨255, .census⟩ }) base
    let ended := withTrunkState (fun x => { x with assembly := some ⟨[1, 3], false⟩ }) base
    (starting.trunk 2).state = .starting ∧ starting.chain 2 = {} ∧ (starting.trunk 2).queue = [] ∧
    (base.trunk 2).state = .running ∧ (base.trunk 2).assembly = none ∧ (base.trunk 2).downCredit ≤ 4 ∧
    (full.trunk 2).assembly = some ⟨List.replicate 80 1, false⟩ ∧ 80 ≤ (List.replicate 80 1#8).length ∧
    (sending.trunk 2).transmitting ≠ none ∧ 0 < (ended.trunk 2).upCredit ∧
    (ended.trunk 2).assembly = some ⟨[1, 3], false⟩ ∧ frameError (some ⟨[1, 3], false⟩) = none ∧
    frameError (base.trunk 2).assembly = some .nullFrame ∧ (base.trunk 0).state = .off ∧
    (base.trunk 2).transmitting = none ∧ ((arrived [0x01, 3] base).trunk 2).buffer ≠ [] := by decide +kernel

theorem witness_TrunkFaults :
    let none_ := withTrunkState (fun x => { x with upCredit := 0, downCredit := 5 }) base
    let down := (base.updLink 0 fun l => { l with up := false }).onSetup fun c =>
      { c with active := { c.active with desks := c.active.desks.set 0 { maintenance := true } } }
    (none_.trunk 2).state = .running ∧ (none_.trunk 2).watch = true ∧ (none_.trunk 2).upCredit = 0 ∧
    5 ≤ (none_.trunk 2).downCredit ∧ (base.roster (stationAt 2 2)).count ≠ 0 ∧ (down.trunk 2).state = .running ∧
    (down.setup.active.desks[(0 : DeskId)]).maintenance = true ∧ (down.board.links[(0 : DeskId)]).up = false ∧
    down.setup.active.params.trunkGrace ≠ 0 ∧ down.faults.records = [] ∧ down.field.ops.entries = [] ∧
    (down.setup.active.desks[(1 : DeskId)]).maintenance = false ∧ (base.board.links[(0 : DeskId)]).up = true ∧
    (base.board.links[(0 : DeskId)]).notices.length < 16 := by decide +kernel

/-- A RUNNING trunk with a trunk grace of 0: one with a live incident, and one with none. -/
theorem witness_TrunkFaults_noGrace :
    let brief (s : State) := s.onSetup fun c => { c with active := { c.active with
      params := { c.active.params with trunkGrace := 0 } } }
    (brief arranged).board.Arranged ∧ (brief base).board.Arranged ∧ (brief arranged).setup.active.params.trunkGrace = 0 ∧
    ((brief arranged).trunk 2).state = .running ∧ ((brief base).trunk 2).state = .running ∧
    ((brief arranged).roster (stationAt 2 2)).count ≠ 0 ∧ ((brief base).roster (stationAt 2 2)).count ≠ 0 ∧
    ((brief arranged).board.incident 6).map (fun x => (x.subject, x.live)) = some (.trunk 2, true) ∧
    ∀ i, (brief base).board.incident i = none :=
  ⟨witness_Arranged, witness_Arranged_empty, by decide +kernel⟩

theorem witness_TrunkDeadlines :
    let s := withTrunkState (fun x => { x with state := .starting, startDeadline := some 7200 }) base
    let r := withTrunkState (fun x => { x with
      state := .faulted, retryDeadline := some 7200, graceDeadline := some 7200 }) base
    let c := withChain { census := some 7200, again := true } base
    let l := withChain { labelling := some ⟨2, 7200⟩ } base
    7200 ≤ s.setup.time ∧ (s.trunk 2).state = .starting ∧ (s.trunk 2).startDeadline = some 7200 ∧
    (r.trunk 2).state = .faulted ∧ (r.trunk 2).retryDeadline = some 7200 ∧ (r.trunk 2).graceDeadline = some 7200 ∧
    occupied settings 2 ≠ 0 ∧ occupied settings 0 = 0 ∧ (l.chain 2).labelling = some ⟨2, 7200⟩ ∧
    (l.roster (stationAt 2 2)).count ≠ 0 ∧ (c.chain 2).census = some 7200 ∧ (c.chain 2).again = true ∧
    (c.chain 2).labelling = none ∧ (c.chain 2).list = [] ∧ (c.trunk 2).state = .running ∧ (c.trunk 2).queue.length < 8 ∧
    ((withChain { list := [2] } base).chain 2).list = [2] ∧ (s.trunk 2).startCause ≠ .retry ∧
    s.setup.active.params.trunkGrace ≠ 0 ∧
    8 ≤ ((withTrunkState (fun x => { x with queue := List.replicate 8 ⟨3, .forget⟩ }) c).trunk 2).queue.length := by
  decide +kernel

/-- A labelling list whose first LABEL a full send queue refuses, with a position that is VACANT and one that is not, and a
chain that is free with a census waiting. -/
theorem witness_TrunkDeadlines_chain :
    let full := withTrunkState (fun x => { x with queue := List.replicate 8 ⟨3, .forget⟩ })
    let s := full (withChain { list := [1, 2] } base)
    let c := withChain { again := true } base
    (s.chain 2).labelling = none ∧ (s.chain 2).list = [1, 2] ∧ 8 ≤ (s.trunk 2).queue.length ∧
    (s.roster (stationAt 2 1)).count = 0 ∧ (s.roster (stationAt 2 2)).count ≠ 0 ∧
    (c.chain 2).census = none ∧ (c.chain 2).labelling = none ∧ (c.chain 2).list = [] ∧ (c.chain 2).again = true ∧
    (c.trunk 2).state = .running ∧ (c.trunk 2).queue.length < 8 ∧ 8 ≤ ((full c).trunk 2).queue.length ∧
    (base.chain 2).again = false := by decide +kernel

theorem witness_FaultsSound : (recorded (record .suspect .none) base).faults.Sound := ⟨by decide, by simp [recorded, State.onFaults]⟩

/-- The premises about incidents and offers of an adoption: an offer to a desk outside its incident's group, a live
incident, and a subject gone with the adoption of an empty shadow copy. -/
theorem witness_AdoptTakesClampedShadow_incidents :
    let s := ask [0x57] (arranged.onSetup fun c => { c with shadow := {}, claim := some 0 })
    arranged.board.Arranged ∧ base.faults.Sound ∧ s.waits 0 [0x57] ∧ s.setup.claim = some 0 ∧
    (s.board.desks[(0 : DeskId)]).slot = some ⟨3, 7300⟩ ∧ inGroup settings sample.group 0 = false ∧
    (s.board.incident 5).map (fun x => (x.subject, x.live)) = some (.station 50, true) ∧
    subjectGone { s.setup with active := {} } (.station 50) = true ∧ subjectGone s.setup (.station 50) = false :=
  ⟨witness_Arranged, ⟨by decide, List.Pairwise.nil⟩, by decide +kernel⟩

/-- The premises of R128's last step: a STARTING trunk whose incident is at fault. -/
theorem witness_TrunkSymbols_incident :
    let s := arranged.updTrunk 2 fun x => { x with state := .starting }
    s.board.Arranged ∧ (s.trunk 2).state = .starting ∧
    (s.board.incident 6).map (fun x => (x.subject, x.atFault)) = some (.trunk 2, true) :=
  ⟨witness_Arranged, by decide +kernel⟩

/-- The invariants that the kept statements start from hold of a state with trunks running, from which a step goes on. -/
theorem witness_Kept : base.field.TrunksSound ∧ base.field.OpsAgree ∧ base.board.LinksSound ∧ base.setup.Sound ∧
    base.board.IncidentsSound ∧ base.faults.Sound ∧ arranged.board.Arranged ∧ (∃ t, step base = .next t) ∧
    ∃ t, step arranged = .next t := by
  have trunks : ∀ t : TrunkId, (base.trunk t).upCredit + (base.trunk t).buffer.length ≤ 6 ∧ (base.trunk t).downCredit ≤ 6 ∧
      (base.trunk t).queue.length ≤ 8 := by decide +kernel
  have links : ∀ d : DeskId, (base.board.links[d]).notices.length ≤ 16 ∧ (base.board.links[d]).load ≤ 3 ∧
      (base.board.links[d]).overflow ≤ 255 := by decide +kernel
  have ops : ∀ n : StationId, (base.field.station n).op = none := by decide +kernel
  have bounded : settings.Bounded := ⟨by decide +kernel, by decide +kernel⟩
  refine ⟨fun t => ⟨(trunks t).1, (trunks t).2.1, (trunks t).2.2⟩, fun n o h => ?_, fun d => ⟨(links d).1, (links d).2.1, (links d).2.2⟩,
    ⟨bounded, bounded, fun _ => rfl⟩, fun i x h => ?_, ⟨by decide, List.Pairwise.nil⟩, witness_Arranged, ⟨_, rfl⟩, _, rfl⟩
  · rw [ops n] at h; cases h
  · cases h

end Sys2Proof.Machine.Tests
end

section
/-! SUPPORT and PROOFS. The clock's second (R1): which rows it raises, and that it changes nothing else. -/

namespace Sys2Proof.Machine

/-! ## Timers that have run out -/

theorem due_iff {deadline : Option Nat} {now : Nat} : due deadline now = true ↔ ∃ e, deadline = some e ∧ e ≤ now := by
  cases deadline <;> simp [due]

theorem mem_ite_due {deadline : Option Nat} {now : Nat} {row i : Instr} :
    i ∈ (if due deadline now then [row] else []) ↔ ∃ e, deadline = some e ∧ e ≤ now ∧ i = row := by
  simp only [List.mem_ite_nil_right, List.mem_singleton, due_iff, ← exists_and_right, and_assoc]

theorem mem_ite_and_due {p : Prop} [Decidable p] {deadline : Option Nat} {now : Nat} {row i : Instr} :
    i ∈ (if p ∧ due deadline now = true then [row] else []) ↔ ∃ e, p ∧ deadline = some e ∧ e ≤ now ∧ i = row := by
  simp only [List.mem_ite_nil_right, List.mem_singleton, due_iff, ← exists_and_right, ← exists_and_left, and_assoc]

theorem Faults.find_asset {f : Faults} {asset : Nat} {r : FaultRecord} (h : f.find asset = some r) : r.asset = asset := by
  simpa using List.find?_some h

theorem Faults.asset_mem_of_find {f : Faults} {asset : Nat} {r : FaultRecord} (h : f.find asset = some r) :
    asset ∈ f.records.map (·.asset) :=
  List.mem_map.2 ⟨r, List.mem_of_find?_eq_some h, f.find_asset h⟩

theorem dueRecord_isSome_iff {s : State} {asset : Nat} {k : TimerKind} :
    (dueRecord s asset k).isSome = true ↔
      ∃ r e, s.faults.find asset = some r ∧ r.timer = .running k e ∧ e ≤ s.setup.time := by
  unfold dueRecord
  cases s.faults.find asset with
  | none => simp
  | some r => cases htimer : r.timer <;> simp [htimer]

/-! ## The rows of one record, desk, station, trunk or operation -/

theorem mem_recordRow {s : State} {asset : Nat} {i : Instr} :
    i ∈ recordRow s asset ↔ ∃ r e, s.faults.find asset = some r ∧ e ≤ s.setup.time ∧
      ((r.timer = .running .confirmWindow e ∧ i = .confirmWindowExpiry asset) ∨
        (r.timer = .running .restoreHold e ∧ i = .restoreHoldExpiry asset)) := by
  simp only [recordRow, List.mem_append, List.mem_ite_nil_right, List.mem_singleton, dueRecord_isSome_iff]
  constructor
  · rintro (⟨⟨r, e, hr, ht, he⟩, hi⟩ | ⟨⟨r, e, hr, ht, he⟩, hi⟩)
    · exact ⟨r, e, hr, he, .inl ⟨ht, hi⟩⟩
    · exact ⟨r, e, hr, he, .inr ⟨ht, hi⟩⟩
  · rintro ⟨r, e, hr, he, ⟨ht, hi⟩ | ⟨ht, hi⟩⟩
    · exact .inl ⟨⟨r, e, hr, ht, he⟩, hi⟩
    · exact .inr ⟨⟨r, e, hr, ht, he⟩, hi⟩

theorem mem_incidentRows {s : State} {n : IncidentId} {i : Instr} :
    i ∈ incidentRows s n ↔
      (∃ x e, s.board.incident n = some x ∧ x.state = .restored ∧ x.closeDelay = some e ∧ e ≤ s.setup.time ∧
        i = .closeDelayExpiry n) ∨
      (∃ y, s.board.aging.find n = some y ∧ y.due ≤ s.setup.time ∧ i = .agingBoundary n) := by
  rw [incidentRows, List.mem_append]
  refine or_congr ?_ ?_
  · cases s.board.incident n with
    | none => simp
    | some x => simp only [mem_ite_and_due, Option.some.injEq, exists_eq_left', exists_and_left]
  · simp only [mem_ite_due, Option.map_eq_some_iff, exists_exists_and_eq_and]

theorem mem_deskRows {s : State} {d : DeskId} {i : Instr} :
    i ∈ deskRows s d ↔
      (∃ o : Offer, (s.board.desks[d]).slot = some o ∧ o.deadline ≤ s.setup.time ∧ i = .offerExpiry d) ∨
      (∃ e : Nat, (s.board.desks[d]).absence = some e ∧ e ≤ s.setup.time ∧ i = .absenceExpiry d) := by
  simp only [deskRows, List.mem_append, mem_ite_due, Option.map_eq_some_iff, exists_exists_and_eq_and]

theorem mem_stationRow {s : State} {n : StationId} {i : Instr} :
    i ∈ stationRow s n ↔ ∃ e, (s.station n).nextExpiry = some e ∧ e ≤ s.setup.time ∧ i = .intervalExpiry n := by
  exact mem_ite_due

theorem mem_trunkRows {s : State} {t : TrunkId} {i : Instr} :
    i ∈ trunkRows s t ↔ ∃ e, e ≤ s.setup.time ∧
      (((s.trunk t).state = .starting ∧ (s.trunk t).startDeadline = some e ∧ i = .startDeadline t) ∨
        ((s.trunk t).state = .faulted ∧ (s.trunk t).retryDeadline = some e ∧ i = .retryDeadline t) ∨
        ((s.trunk t).graceDeadline = some e ∧ i = .graceDeadline t) ∨
        ((s.chain t).census = some e ∧ i = .censusDeadline t) ∨
        (∃ p, (s.chain t).labelling = some ⟨p, e⟩ ∧ i = .labelDeadline t)) := by
  simp only [trunkRows, List.mem_append, mem_ite_due, mem_ite_and_due, Option.map_eq_some_iff]
  constructor
  · rintro ((((⟨e, hs, h, he, hi⟩ | ⟨e, hs, h, he, hi⟩) | ⟨e, h, he, hi⟩) | ⟨_, ⟨⟨p, e⟩, h, rfl⟩, he, hi⟩) |
      ⟨e, h, he, hi⟩)
    · exact ⟨e, he, .inl ⟨hs, h, hi⟩⟩
    · exact ⟨e, he, .inr (.inl ⟨hs, h, hi⟩)⟩
    · exact ⟨e, he, .inr (.inr (.inl ⟨h, hi⟩))⟩
    · exact ⟨e, he, .inr (.inr (.inr (.inr ⟨p, h, hi⟩)))⟩
    · exact ⟨e, he, .inr (.inr (.inr (.inl ⟨h, hi⟩)))⟩
  · rintro ⟨e, he, ⟨hs, h, hi⟩ | ⟨hs, h, hi⟩ | ⟨h, hi⟩ | ⟨h, hi⟩ | ⟨p, h, hi⟩⟩
    · exact .inl (.inl (.inl (.inl ⟨e, hs, h, he, hi⟩)))
    · exact .inl (.inl (.inl (.inr ⟨e, hs, h, he, hi⟩)))
    · exact .inl (.inl (.inr ⟨e, h, he, hi⟩))
    · exact .inr ⟨e, h, he, hi⟩
    · exact .inl (.inr ⟨e, ⟨⟨p, e⟩, h, rfl⟩, he, hi⟩)

theorem mem_opRow {s : State} {o : OpId} {i : Instr} :
    i ∈ opRow s o ↔ ∃ x, s.field.ops.find o = some x ∧ x.deadline ≤ s.setup.time ∧
      ((x.kind = .probe ∧ i = .probeDeadline o) ∨ (x.kind = .cycle ∧ i = .cycleDeadline o) ∨
        (x.kind = .sweep ∧ i = .stepDeadline o)) := by
  unfold opRow
  cases s.field.ops.find o with
  | none => simp
  | some x => cases hkind : x.kind <;> simp [hkind]

/-! ## The rows of the whole part -/

theorem mem_recordRows {s : State} {i : Instr} :
    i ∈ (s.faults.records.map (·.asset)).flatMap (recordRow s) ↔
      ∃ r e, s.faults.find r.asset = some r ∧ e ≤ s.setup.time ∧
        ((r.timer = .running .confirmWindow e ∧ i = .confirmWindowExpiry r.asset) ∨
          (r.timer = .running .restoreHold e ∧ i = .restoreHoldExpiry r.asset)) := by
  rw [List.mem_flatMap]
  constructor
  · rintro ⟨asset, -, hi⟩
    obtain ⟨r, e, hr, h⟩ := mem_recordRow.1 hi
    obtain rfl := s.faults.find_asset hr
    exact ⟨r, e, hr, h⟩
  · rintro ⟨r, e, hr, h⟩
    exact ⟨r.asset, s.faults.asset_mem_of_find hr, mem_recordRow.2 ⟨r, e, hr, h⟩⟩

theorem mem_allDesks (d : DeskId) : d ∈ allDesks := by
  revert d; decide

/-- R1: a row is due if some record, incident, desk, station, trunk or operation gives it. -/
theorem mem_dueRows {s : State} {i : Instr} :
    i ∈ dueRows s ↔ i ∈ (s.faults.records.map (·.asset)).flatMap (recordRow s) ∨ (∃ n, i ∈ incidentRows s n) ∨
      (∃ d, i ∈ deskRows s d) ∨ (∃ n, i ∈ stationRow s n) ∨ (∃ t, i ∈ trunkRows s t) ∨ ∃ o, i ∈ opRow s o := by
  simp only [dueRows, allTrunks, List.mem_append, or_assoc]
  simp only [List.mem_flatMap (l := fins _), List.mem_flatMap (l := allDesks), mem_fins, mem_allDesks, true_and]

/-! ## One second -/

theorem State.dueRows_tick (s : State) : dueRows s.tick = dueRows s.countSecond := rfl

/-- Of the settings block, a second changes the clock alone. -/
theorem State.countSecond_setup_frame (s : State) : { s.countSecond.setup with time := s.setup.time } = s.setup := by
  rcases s.countSecond_cases with ⟨_, h⟩ | ⟨_, h⟩ <;> rw [h] <;> rfl

theorem State.countSecond_time {s : State} (h : s.setup.time < 4294967295) :
    s.countSecond.setup.time = s.setup.time + 1 := by
  rcases s.countSecond_cases with ⟨_, hs⟩ | ⟨htop, _⟩
  · rw [hs]; rfl
  · omega

/-- Past the last second the clock still shows a number of 32 bits (log entry 4). -/
theorem State.countSecond_time_le {s : State} (h : 4294967295 ≤ s.setup.time) :
    s.countSecond.setup.time ≤ 4294967295 := by
  rcases s.countSecond_cases with ⟨hlt, _⟩ | ⟨_, hs⟩
  · omega
  · rw [hs]
    exact Nat.le_of_lt_succ (Config.clockPastTop s.draws).isLt

@[simp] theorem State.tick_station (s : State) (n : StationId) : s.tick.station n = s.station n := by simp [State.station]
@[simp] theorem State.tick_trunk (s : State) (t : TrunkId) : s.tick.trunk t = s.trunk t := by simp [State.trunk]
@[simp] theorem State.tick_chain (s : State) (t : TrunkId) : s.tick.chain t = s.chain t := by simp [State.chain]

theorem step_of_pending_nil {s : State} (h : s.pending = []) : step s = .next s.tick := by
  simp [step, h]

theorem State.tick_pending_perm_dueRows {s : State} (h : s.pending = []) : s.tick.pending.Perm (dueRows s.tick) := by
  rw [s.dueRows_tick]
  simpa [h] using s.tick_pending_perm

/-- Settles O2: the second is `State.tick`, whose queue is the due rows in another order, and those are read block by
block. -/
theorem idleStepCountsSecond : Obligations.IdleStepCountsSecond := by
  intro s hs
  have hperm := State.tick_pending_perm_dueRows hs
  refine ⟨s.tick, step_of_pending_nil hs, s.tick_faults, s.tick_board, s.tick_field, s.tick_error,
    s.countSecond_setup_frame, State.countSecond_time, State.countSecond_time_le, hperm, fun i => ?_⟩
  rw [hperm.mem_iff, mem_dueRows, mem_recordRows]
  simp only [mem_incidentRows, mem_deskRows, mem_stationRow, mem_trunkRows, mem_opRow,
    exists_or, or_assoc, State.tick_faults, State.tick_board, State.tick_field, State.tick_station, State.tick_trunk,
    State.tick_chain]

end Sys2Proof.Machine
end

section
/-! PROOFS. The reads of the fault table, of the trunks and of the most recent error (R41, R141): what the owner answers and
how the answer is laid out. -/

namespace Sys2Proof.Machine

/-! ## Trunk numbers -/

theorem finOf_of_le {n k : Nat} (h : n ≤ k) : finOf n k = none := dif_neg (by omega)

theorem finOf_val {n : Nat} (i : Fin n) : finOf n i.val = some i := dif_pos i.isLt

theorem withTrunk_of_le {trunk : Byte} (h : 16 ≤ trunk.toNat) (s : State) (g : TrunkId → State × Verdict) :
    withTrunk trunk s g = (s, .invalid) := by rw [withTrunk, finOf_of_le h]

theorem withTrunk_of_eq {trunk : Byte} {t : TrunkId} (h : trunk.toNat = t.val) (s : State)
    (g : TrunkId → State × Verdict) : withTrunk trunk s g = g t := by rw [withTrunk, h, finOf_val]

/-! ## What the owners answer -/

/-- R41: READ-FAULT. -/
theorem readFault_answers {d : DeskId} {s : State} {a1 a0 : Byte} (h : s.waits d [0x12#8, a1, a0]) :
    Answers (.readFault d) d 0x12#8 ⟨.done, none, .faultView
      { record := s.faults.find (half a1 a0), marked := s.faults.marked (half a1 a0)
        records := s.faults.records.length, dropped := s.faults.dropped }⟩ s :=
  answers_of_waits readFaultRecord rfl h rfl

/-- R141: READ-TRUNK of a number that names no trunk. -/
theorem readTrunk_answers_invalid {d : DeskId} {s : State} {trunk : Byte} (h : s.waits d [0x14#8, trunk])
    (ht : 16 ≤ trunk.toNat) : Answers (.readTrunk d) d 0x14#8 ⟨.invalid, some .badArgument, .none⟩ s :=
  answers_of_waits readTrunkRecord rfl h (withTrunk_of_le ht ..)

/-- R141: READ-TRUNK of a trunk. -/
theorem readTrunk_answers {d : DeskId} {s : State} {trunk : Byte} {t : TrunkId} (h : s.waits d [0x14#8, trunk])
    (ht : trunk.toNat = t.val) : Answers (.readTrunk d) d 0x14#8 ⟨.done, none, .trunkView (trunkView t s)⟩ s :=
  answers_of_waits readTrunkRecord rfl h (withTrunk_of_eq ht ..)

/-- R141: READ-ERROR. -/
theorem readError_answers {d : DeskId} {s : State} (h : s.waits d [0x15#8]) :
    Answers (.readError d) d 0x15#8 ⟨.done, none, .errorView s.error⟩ s :=
  answers_of_waits readErrorRecord rfl h rfl

/-! ## How the answers are laid out -/

theorem FaultView.bytes_of_record {v : FaultView} {r : FaultRecord} (h : v.record = some r) :
    v.bytes = 1#8 :: r.bytes ++ yesNo v.marked ++ two v.records ++ two v.dropped := by simp [FaultView.bytes, h, yesNo, one]

theorem FaultView.bytes_of_none {v : FaultView} (h : v.record = none) :
    v.bytes = 0#8 :: yesNo v.marked ++ two v.records ++ two v.dropped := by simp [FaultView.bytes, h, yesNo, one]

/-- Settles O19: each owner leaves the state as it is and answers with its record, and each layout is read off by the cases
of the fields it may leave out. -/
theorem readsOfFaultsTrunksAndErrors : Obligations.ReadsOfFaultsTrunksAndErrors := by
  intro d s
  refine ⟨fun _ _ => readFault_answers, fun _ h => ⟨readTrunk_answers_invalid h, fun _ => readTrunk_answers h⟩,
    readError_answers, fun v => ?_, fun v => ?_, fun e => rfl, fun x => ?_⟩
  · show v.bytes = _
    cases hr : v.record with
    | none => rw [FaultView.bytes_of_none hr]; rfl
    | some r =>
      rw [FaultView.bytes_of_record hr]
      cases ht : r.timer <;>
        simp [FaultRecord.bytes, StateTimer.bytes, ht, stationBytes, labelOf, positionNumber, circuitNumber, one, yesNo]
  · rfl
  · obtain ⟨code, place, time, writes⟩ := x
    cases code <;> cases place <;> rfl

end Sys2Proof.Machine
end

section
/-! SUPPORT. Incidents within their bounds (R43, R51, R70, R90): every event of the incident table makes a sound incident of
a sound one, and a table that lists sound incidents lists sound incidents after each operation of the board. -/

namespace Sys2Proof.Machine

/-! ## One incident -/

theorem urgencyOf_le (x : UrgencyInputs) : urgencyOf x ≤ 1023 := Nat.min_le_left ..

/-- R70: whatever urgency it had, an incident computed has one within the bounds. -/
theorem Incident.Sound.reweigh {i : Incident} (c : Setup) (hr : i.rounds ≤ 3) (hu : i.unrecorded ≤ 65535) :
    (reweigh c i).Sound := ⟨urgencyOf_le _, hr, hu⟩

theorem newIncident_sound (c : Setup) (x : Subject) (k : Cls) (w : Option Condition) : (newIncident c x k w).Sound :=
  ⟨Nat.zero_le _, Nat.zero_le _, Nat.zero_le _⟩

section

variable {i : Incident} (h : i.Sound)
include h

theorem Incident.Sound.recount : (recount i).Sound := by
  unfold Machine.recount
  split <;> exact ⟨h.urgency, h.rounds, h.unrecorded⟩

theorem Incident.Sound.moveGroup (g : DeskId) : (moveGroup g i).Sound := ⟨h.urgency, h.rounds, h.unrecorded⟩

theorem Incident.Sound.checkTrip (c : Setup) (k : CircuitId) : (checkTrip c k i).Sound := by
  have tripped : ({ i with tripped := true } : Incident).Sound := ⟨h.urgency, h.rounds, h.unrecorded⟩
  dsimp only [Machine.checkTrip]
  split_ifs
  · split
    · split_ifs
      · exact tripped.moveGroup _
      · exact tripped
    · exact tripped
  · exact h

theorem Incident.Sound.reopen : (reopen i).Sound := by
  dsimp only [Machine.reopen]
  split
  · exact ⟨h.urgency, h.rounds, h.unrecorded⟩
  · exact h

theorem Incident.Sound.closeNow (c : Setup) : (closeNow c i).Sound := ⟨h.urgency, h.rounds, h.unrecorded⟩

theorem Incident.Sound.restoreNow (c : Setup) : (restoreNow c i).Sound := by
  have restored := Incident.Sound.reweigh (i := { i with
    state := .restored, restoredAt := some c.time, closeDelay := some (c.time + c.active.params.closeDelay) })
    c h.rounds h.unrecorded
  dsimp only [Machine.restoreNow]
  split_ifs
  · exact restored.closeNow c
  · exact restored

theorem Incident.Sound.joined (c : Setup) (k : CircuitId) (m : Member) : (joined c k m i).Sound := by
  have member : ({ Machine.reopen i with members := insertMember m (Machine.reopen i).members } : Incident).Sound :=
    ⟨h.reopen.urgency, h.reopen.rounds, h.reopen.unrecorded⟩
  have checked := member.recount.checkTrip c k
  exact .reweigh c checked.rounds checked.unrecorded

theorem Incident.Sound.left (c : Setup) (asset : Nat) : (left c asset i).Sound := by
  have rest : (Machine.recount { i with members := i.members.filter fun m => decide (m.asset ≠ asset) }).Sound :=
    Incident.Sound.recount ⟨h.urgency, h.rounds, h.unrecorded⟩
  dsimp only [Machine.left]
  split_ifs
  · exact rest.restoreNow c
  · exact .reweigh c rest.rounds rest.unrecorded

theorem Incident.Sound.updMember (asset : Nat) (g : Member → Member) : (updMember asset g i).Sound :=
  ⟨h.urgency, h.rounds, h.unrecorded⟩

theorem Incident.Sound.conditionChanged (c : Setup) (asset : Nat) (x : Condition) :
    (conditionChanged c asset x i).Sound := by
  have changed := (h.updMember asset fun m => { m with condition := x }).recount
  dsimp only [Machine.conditionChanged]
  split_ifs
  · exact changed
  · exact .reweigh c changed.rounds changed.unrecorded

/-- R51: the count stops at 65535. -/
theorem Incident.Sound.counted (c : Setup) (k : CircuitId) : (counted c k i).Sound := by
  dsimp only [Machine.counted]
  split_ifs with hfull
  · exact h
  · have same : (Machine.reopen i).unrecorded = i.unrecorded := by
      dsimp only [Machine.reopen]
      split <;> rfl
    have up : ({ Machine.reopen i with unrecorded := (Machine.reopen i).unrecorded + 1 } : Incident).Sound :=
      ⟨h.reopen.urgency, h.reopen.rounds, by show (Machine.reopen i).unrecorded + 1 ≤ 65535; omega⟩
    have checked := up.checkTrip c k
    exact .reweigh c checked.rounds checked.unrecorded

theorem Incident.Sound.uncounted (c : Setup) : (uncounted c i).Sound := by
  have down : ({ i with unrecorded := i.unrecorded - 1 } : Incident).Sound :=
    ⟨h.urgency, h.rounds, (Nat.sub_le ..).trans h.unrecorded⟩
  dsimp only [Machine.uncounted]
  split_ifs
  · exact .reweigh c down.rounds down.unrecorded
  · exact down.restoreNow c
  · exact h

/-- R90: at most 3 rounds. -/
theorem Incident.Sound.declinedBy (c : Setup) (d : DeskId) : (declinedBy c d i).Sound := by
  dsimp only [Machine.declinedBy]
  split_ifs with _ hrounds
  · exact .reweigh c hrounds h.unrecorded
  · exact ⟨h.urgency, h.rounds, h.unrecorded⟩
  · exact ⟨h.urgency, h.rounds, h.unrecorded⟩

theorem Incident.Sound.released : (released i).Sound := by
  dsimp only [Machine.released]
  split_ifs <;> exact ⟨h.urgency, h.rounds, h.unrecorded⟩

theorem Incident.Sound.forgotten : (forgotten i).Sound := by
  dsimp only [Machine.forgotten]
  split_ifs
  · exact ⟨h.urgency, h.rounds, Nat.zero_le _⟩
  · exact h

theorem Incident.Sound.adoptIncident (c : Setup) (old : Settings) : (adoptIncident c old i).Sound := by
  have home : (rehome c old i).Sound := by
    dsimp only [rehome]
    split_ifs
    · exact h.moveGroup _
    · exact h
  unfold Machine.adoptIncident toGroupStart
  split_ifs
  · exact h.closeNow c
  · exact home
  · exact home.moveGroup _

end

/-! ## The incidents that a table lists -/

/-- The incident table lists its indices rising, and the incident at each index is sound.  A lookup then reaches every
entry, so that the incidents `Board.liveOf` finds are among the sound ones. -/
def Board.TableSound (b : Board) : Prop := b.incidents.rising = true ∧ b.IncidentsSound

theorem lookupEntry_of_mem {n : Nat} {α : Type} {i : Fin n} {x : α} {l : List (Fin n × α)}
    (hl : risingKeys l = true) (h : (i, x) ∈ l) : lookupEntry i l = some x := by
  induction l with
  | nil => cases h
  | cons e rest ih =>
    obtain ⟨j, y⟩ := e
    simp only [risingKeys, Bool.and_eq_true, List.all_eq_true, decide_eq_true_eq] at hl
    rcases List.mem_cons.1 h with heq | hrest
    · cases heq
      exact if_pos rfl
    · have hji : j ≠ i := Fin.ne_of_lt (hl.1 _ hrest)
      exact (if_neg hji).trans (ih hl.2 hrest)

theorem rising_store {n : Nat} {α : Type} [DecidableEq α] {d : α} {t : Table n α} (i : Fin n) (x : α)
    (h : t.rising = true) : (t.store d i x).rising = true := by
  unfold Table.store
  split_ifs
  · exact t.rising_erase i h
  · exact t.rising_put i x h

theorem Board.incident_of_mem {b : Board} (hr : b.incidents.rising = true) {e : IncidentId × IncidentRecord}
    (he : e ∈ b.incidents.entries) : b.incident e.1 = e.2.body := by
  have hf : lookupEntry e.1 b.incidents.entries = some e.2 := lookupEntry_of_mem hr he
  simp [Board.incident, Board.record, Table.get, Table.find, hf]

/-! ## The operations of the board -/

section

variable {b : Board} (h : b.TableSound)
include h

theorem Board.TableSound.of_incidents {c : Board} (hc : c.incidents = b.incidents) : c.TableSound := by
  unfold Board.TableSound Board.IncidentsSound Board.incident Board.record
  rw [hc]
  exact h

theorem Board.TableSound.incident {i : IncidentId} {x : Incident} (hx : b.incident i = some x) : x.Sound := h.2 i x hx

theorem Board.TableSound.foldl {α : Type} {f : Board → α → Board}
    (hf : ∀ b x, b.TableSound → (f b x).TableSound) (l : List α) : (l.foldl f b).TableSound := by
  induction l generalizing b with
  | nil => exact h
  | cons x rest ih => exact ih (hf b x h)

theorem Board.TableSound.liveOf {x : Subject} {p : IncidentId × Incident} (hp : b.liveOf x = some p) : p.2.Sound := by
  obtain ⟨e, hm, he⟩ := List.exists_of_findSome?_eq_some hp
  split at he
  · next i hi =>
    split_ifs at he
    cases he
    exact h.incident ((Board.incident_of_mem h.1 hm).trans hi)
  · cases he

theorem Board.TableSound.writeIncident (i : IncidentId) {new : Incident} (hn : new.Sound) :
    (b.writeIncident i new).TableSound := by
  refine ⟨?_, fun j x hx => ?_⟩
  · dsimp only [Board.writeIncident]
    split_ifs
    · exact h.1
    · exact rising_store i _ h.1
  · rw [Board.writeIncident_incident] at hx
    split_ifs at hx
    · cases hx
      exact hn
    · exact h.incident hx

end

@[simp] theorem Board.requeue_incidents (i : IncidentId) (old : Option Incident) (new : Incident) (b : Board) :
    (b.requeue i old new).incidents = b.incidents := by
  unfold Board.requeue
  dsimp only
  split
  · rfl
  · split <;> split <;> rfl

@[simp] theorem Board.withdrawFrom_incidents (i : IncidentId) (k : WithdrawCause) (d : DeskId) (b : Board) :
    (b.withdrawFrom i k d).incidents = b.incidents := by
  unfold Board.withdrawFrom
  repeat' split
  all_goals rfl

@[simp] theorem Board.withdraw_incidents (i : IncidentId) (k : WithdrawCause) (b : Board) :
    (b.withdraw i k).incidents = b.incidents := by
  have h : ∀ (l : List DeskId) (b : Board), (l.foldl (fun b d => b.withdrawFrom i k d) b).incidents = b.incidents := by
    intro l
    induction l with
    | nil => exact fun _ => rfl
    | cons d rest ih => exact fun b => (ih _).trans (b.withdrawFrom_incidents i k d)
  exact h allDesks b

/-- Of the incident table, an event on one incident changes the record written alone. -/
theorem Board.commit_incidents (o : Origin) (i : IncidentId) (new : Incident) (b : Board) :
    (b.commit o i new).incidents = (b.writeIncident i new).incidents := by
  unfold Board.commit
  dsimp only
  split
  · next h => exact (congrArg Board.incidents (if_pos h : b.writeIncident i new = b)).symm
  · repeat' split
    all_goals simp

section

variable {b : Board} (h : b.TableSound)
include h

/-- One event on an incident that is sound after it. -/
theorem Board.TableSound.commit (o : Origin) (i : IncidentId) {new : Incident} (hn : new.Sound) :
    (b.commit o i new).TableSound :=
  (h.writeIncident i hn).of_incidents (b.commit_incidents o i new)

theorem Board.TableSound.setAging (i : IncidentId) (x : Option Boundary) : (b.setAging i x).TableSound :=
  h.of_incidents (by simp)

theorem Board.TableSound.notify (d : DeskId) (n : Notice) : (b.notify d n).TableSound := h

theorem Board.TableSound.openAt (c : Setup) (i : IncidentId) {new : Incident} (hn : new.Sound) :
    (b.openAt c i new).TableSound :=
  (h.commit .table i hn).setAging i _

theorem Board.TableSound.join (c : Setup) (k : CircuitId) (m : Member) : (b.join c k m).2.TableSound := by
  unfold Board.join
  split
  · next hl => exact h.commit .table _ ((h.liveOf hl).joined c k m)
  · split
    · exact h.openAt c _ ((newIncident_sound ..).joined c k m)
    · exact h

theorem Board.TableSound.leave (c : Setup) (asset : Nat) (i : IncidentId) : (b.leave c asset i).TableSound := by
  unfold Board.leave
  split
  · next hx => exact h.commit .table i ((h.incident hx).left c asset)
  · exact h

theorem Board.TableSound.changeCondition (c : Setup) (asset : Nat) (x : Condition) (i : IncidentId) :
    (b.changeCondition c asset x i).TableSound := by
  unfold Board.changeCondition
  split
  · next hx => exact h.commit .table i ((h.incident hx).conditionChanged c asset x)
  · exact h

theorem Board.TableSound.changeMarks (asset : Nat) (stale underOp : Bool) (i : IncidentId) :
    (b.changeMarks asset stale underOp i).TableSound := by
  unfold Board.changeMarks
  split
  · next hx => exact h.commit .table i ((h.incident hx).updMember asset _)
  · exact h

theorem Board.TableSound.countUp (c : Setup) (k : CircuitId) (kind : Kind) : (b.countUp c k kind).TableSound := by
  unfold Board.countUp
  split
  · next hl => exact h.commit .table _ ((h.liveOf hl).counted c k)
  · split
    · exact h.openAt c _ ((newIncident_sound ..).counted c k)
    · exact h

theorem Board.TableSound.countDown (c : Setup) (k : CircuitId) : (b.countDown c k).TableSound := by
  unfold Board.countDown
  split
  · next hl => exact h.commit .table _ ((h.liveOf hl).uncounted c)
  · exact h

theorem Board.TableSound.faultOf (c : Setup) (x : Subject) (worst : Condition) :
    (b.faultOf c x worst).TableSound := by
  unfold Board.faultOf
  split
  · next hl =>
    have reopened := (h.liveOf hl).reopen
    split_ifs
    · exact h.commit .table _ (.reweigh c reopened.rounds reopened.unrecorded)
    · exact h
  · have fresh := newIncident_sound c x .infra (some worst)
    split
    · exact h.openAt c _ (.reweigh c fresh.rounds fresh.unrecorded)
    · exact h

theorem Board.TableSound.restoreOf (c : Setup) (x : Subject) : (b.restoreOf c x).TableSound := by
  unfold Board.restoreOf
  split
  · next hl =>
    split_ifs
    · exact h.commit .table _ ((h.liveOf hl).restoreNow c)
    · exact h
  · exact h

theorem Board.TableSound.recompute (c : Setup) (i : IncidentId) : (b.recompute c i).TableSound := by
  unfold Board.recompute
  split
  · next hx =>
    split_ifs
    · exact h.commit .table i (.reweigh c (h.incident hx).rounds (h.incident hx).unrecorded)
    · exact h
  · exact h

theorem Board.TableSound.ageBoundary (c : Setup) (i : IncidentId) (k : Nat) : (b.ageBoundary c i k).TableSound := by
  unfold Board.ageBoundary
  split
  · exact (h.recompute c i).setAging i _
  · exact h

/-! ### The arbiter -/

/-- A state and a desk are no part of the bounds, so that an incident that changes in these is as sound as before. -/
theorem Board.TableSound.commit_moved (o : Origin) {i : IncidentId} {x y : Incident} (hx : b.incident i = some x)
    (hu : y.urgency = x.urgency) (hr : y.rounds = x.rounds) (hn : y.unrecorded = x.unrecorded) :
    (b.commit o i y).TableSound := by
  have hs := h.incident hx
  exact h.commit o i ⟨hu ▸ hs.urgency, hr ▸ hs.rounds, hn ▸ hs.unrecorded⟩

theorem Board.TableSound.run (c : Setup) (g : DeskId) : (b.run c g).TableSound := by
  have steps : ∀ (fuel : Nat) (b : Board), b.TableSound → (runSteps c g fuel b).TableSound := by
    intro fuel
    induction fuel with
    | zero => exact fun _ hb => hb
    | succ fuel ih =>
      intro b hb
      simp only [runSteps]
      split
      · next hn => exact ih _ (hb.commit_moved .arbiter (nextOffer_spec hn).2.2.1 rfl rfl rfl)
      · exact hb
  exact steps 6 b h

theorem Board.TableSound.runAll (c : Setup) : (b.runAll c).TableSound := h.foldl (fun _ g hc => hc.run c g) _

theorem Board.TableSound.runsAfter (c : Setup) (before : Board) : (Board.runsAfter c before b).TableSound :=
  h.foldl (fun _ g hc => hc.run c g) _

theorem Board.TableSound.beginLines : b.beginLines.TableSound :=
  h.of_incidents (by rw [Board.beginLines_eq])

theorem Board.TableSound.acceptOffer (d : DeskId) (i : IncidentId) : (b.acceptOffer d i).TableSound := by
  unfold Board.acceptOffer
  split
  · next hx => exact h.commit_moved .arbiter hx rfl rfl rfl
  · exact h

theorem Board.TableSound.declineOffer (c : Setup) (d : DeskId) (i : IncidentId) :
    (b.declineOffer c d i).TableSound := by
  unfold Board.declineOffer
  split
  · next hx => exact Board.TableSound.commit (b := b.emptySlot d) h .arbiter i ((h.incident hx).declinedBy c d)
  · exact h

theorem Board.TableSound.expireOffer (c : Setup) (d : DeskId) (i : IncidentId) : (b.expireOffer c d i).TableSound :=
  h.declineOffer c d i

theorem Board.TableSound.withdrawSlot (cause : Option WithdrawCause) (d : DeskId) :
    (b.withdrawSlot cause d).TableSound := by
  unfold Board.withdrawSlot
  split
  · next o _ =>
    have emptied : (b.updDesk d fun x => { x with slot := none, lastWithdrawn := some o.incident }).TableSound := h
    cases cause
    case' none => dsimp only
    case' some => refine Board.TableSound.notify ?_ d _
    all_goals
      split
      · next hx => exact emptied.commit_moved .arbiter hx rfl rfl rfl
      · exact emptied
  · exact h

theorem Board.TableSound.releaseOne (d : DeskId) (i : IncidentId) : (b.releaseOne d i).TableSound := by
  unfold Board.releaseOne
  split
  · next hx => exact h.commit .arbiter i (h.incident hx).released
  · exact h

theorem Board.TableSound.handOver (d g : DeskId) (i : IncidentId) : (b.handOver d g i).TableSound := by
  unfold Board.handOver
  split
  · next hx => exact h.commit_moved .arbiter hx rfl rfl rfl
  · exact h

theorem Board.TableSound.releaseAll (d : DeskId) : (b.releaseAll d).TableSound :=
  h.foldl (fun _ i hc => hc.releaseOne d i) _

theorem Board.TableSound.expireAbsence (d : DeskId) : (b.expireAbsence d).TableSound :=
  Board.TableSound.foldl (b := (b.releaseAll d).updDesk d _) (f := fun b i => b.notify d (.released i (b.change i)))
    (h.releaseAll d) (fun _ _ hc => hc) _

theorem Board.TableSound.linkLost (c : Setup) (d : DeskId) : (b.linkLost c d).TableSound := by
  have withdrawn : ((b.updDesk d fun x => { x with onDuty := false }).withdrawSlot none d).TableSound :=
    Board.TableSound.withdrawSlot (b := b.updDesk d fun x => { x with onDuty := false }) h none d
  dsimp only [Board.linkLost]
  split_ifs
  · exact Board.TableSound.expireAbsence (b := Board.updDesk d _ _) withdrawn d
  · exact withdrawn

theorem Board.TableSound.signOff (d : DeskId) (all : Bool) : (b.signOff d all).2.TableSound := by
  have withdrawn := h.withdrawSlot (some .signedOff) d
  cases all with
  | false => exact withdrawn
  | true => exact withdrawn.releaseAll d

/-! ### Adoption -/

theorem Board.TableSound.adoptIncidents (c : Setup) (old : Settings) : (b.adoptIncidents c old).TableSound := by
  refine h.foldl (fun b i hb => ?_) _
  split
  · next hx =>
    split_ifs
    · exact hb.commit .table i ((hb.incident hx).adoptIncident c old)
    · exact hb
  · exact hb

theorem Board.TableSound.reschedule (c : Setup) (i : IncidentId) : (b.reschedule c i).TableSound := by
  unfold Board.reschedule
  split
  · dsimp only
    split_ifs
    · exact h.setAging i _
    · exact h
  · exact h

theorem Board.TableSound.adoptUrgency (c : Setup) : (b.adoptUrgency c).TableSound :=
  h.foldl (fun _ i hb => (hb.recompute c i).reschedule c i) _

theorem Board.TableSound.adoptOffers (c : Setup) : (b.adoptOffers c).TableSound := by
  have formed : (b.formGroups c).TableSound := h.foldl (fun b g hb => by split_ifs <;> exact hb) _
  refine formed.foldl (fun b d hb => ?_) _
  split
  · split
    · split_ifs
      · exact hb
      · exact hb.withdrawSlot _ d
    · exact hb
  · exact hb

end

end Sys2Proof.Machine
end

section
/-! SUPPORT. The fault table within its bounds (R21), and what every operation that the rows share keeps: the incidents of
the board within theirs and the records of the fault table within theirs. -/

namespace Sys2Proof.Machine

/-! ## Records by rising asset number (R21) -/

theorem mem_insertRecord {r x : FaultRecord} {l : List FaultRecord} : x ∈ insertRecord r l ↔ x = r ∨ x ∈ l := by
  induction l with
  | nil => simp [insertRecord]
  | cons y rest ih =>
    simp only [insertRecord]
    split_ifs
    · exact List.mem_cons
    · rw [List.mem_cons, ih, List.mem_cons, or_left_comm]

theorem length_insertRecord (r : FaultRecord) (l : List FaultRecord) : (insertRecord r l).length = l.length + 1 := by
  induction l with
  | nil => rfl
  | cons y rest ih =>
    simp only [insertRecord]
    split_ifs
    · rfl
    · exact congrArg (· + 1) ih

theorem insertRecord_rising {r : FaultRecord} {l : List FaultRecord} (hl : l.Pairwise fun x y => x.asset < y.asset)
    (hr : ∀ x ∈ l, x.asset ≠ r.asset) : (insertRecord r l).Pairwise fun x y => x.asset < y.asset := by
  induction l with
  | nil => exact List.pairwise_singleton ..
  | cons y rest ih =>
    obtain ⟨hy, hrest⟩ := List.pairwise_cons.1 hl
    simp only [insertRecord]
    split_ifs with hlt
    · refine List.pairwise_cons.2 ⟨fun x hx => ?_, hl⟩
      rcases List.mem_cons.1 hx with rfl | hx
      · exact hlt
      · exact hlt.trans (hy x hx)
    · refine List.pairwise_cons.2 ⟨fun x hx => ?_, ih hrest fun x hx => hr x (.tail _ hx)⟩
      rcases mem_insertRecord.1 hx with rfl | hx
      · exact lt_of_le_of_ne (Nat.le_of_not_lt hlt) (hr y (.head _))
      · exact hy x hx

/-- A record of the asset can be written: the asset has a record already, or the table has a free place. -/
def Faults.HasRoom (f : Faults) (asset : Nat) : Prop :=
  (f.find asset).isSome = true ∨ f.records.length < faultCapacity

theorem Faults.hasRoom_of_find {f : Faults} {asset : Nat} {r : FaultRecord} (h : f.find asset = some r) :
    f.HasRoom r.asset := .inl (by rw [f.find_asset h, h]; rfl)

theorem Faults.Sound.remove {f : Faults} (h : f.Sound) (asset : Nat) : (f.remove asset).Sound :=
  ⟨(List.length_filter_le ..).trans h.fit, h.rising.filter _⟩

/-- A record written takes the place of the asset's record, or a free one. -/
theorem Faults.Sound.write {f : Faults} (h : f.Sound) {r : FaultRecord} (hr : f.HasRoom r.asset) : (f.write r).Sound := by
  refine ⟨?_, insertRecord_rising (h.remove r.asset).rising fun x hx => by simpa using (List.mem_filter.1 hx).2⟩
  show (insertRecord r (f.remove r.asset).records).length ≤ 2048
  rw [length_insertRecord]
  rcases hr with hfind | hroom
  · obtain ⟨x, hx⟩ := Option.isSome_iff_exists.1 hfind
    have hshort : (f.remove r.asset).records.length < f.records.length :=
      List.length_filter_lt_length_iff_exists.2 ⟨x, List.mem_of_find?_eq_some hx, by simpa using f.find_asset hx⟩
    exact hshort.trans_le h.fit
  · exact (Nat.succ_le_succ (List.length_filter_le ..)).trans hroom

theorem Faults.Sound.forget {f : Faults} (h : f.Sound) (members : List Member) : (f.forget members).Sound := by
  induction members generalizing f with
  | nil => exact h
  | cons m rest ih => exact ih (h.remove m.asset)

theorem Faults.sound_empty : ({} : Faults).Sound := ⟨Nat.zero_le _, List.Pairwise.nil⟩

theorem Board.tableSound_of_empty {b : Board} (h : b.incidents = {}) : b.TableSound := by
  refine ⟨by rw [h]; rfl, fun i x hx => ?_⟩
  simp [Board.incident, Board.record, h] at hx

/-! ## What an operation keeps -/

/-- From `s` to `t` the incident table stays rising and within its bounds, and the fault table within its own. -/
structure KeepsTables (s t : State) : Prop where
  incidents : s.board.TableSound → t.board.TableSound
  faults    : s.faults.Sound → t.faults.Sound

namespace KeepsTables

protected theorem refl (s : State) : KeepsTables s s := ⟨id, id⟩

protected theorem trans {s t u : State} (h : KeepsTables s t) (k : KeepsTables t u) : KeepsTables s u :=
  ⟨k.incidents ∘ h.incidents, k.faults ∘ h.faults⟩

/-- `trans`, read from the last operation back to the first. -/
theorem after {s t u : State} (k : KeepsTables t u) (h : KeepsTables s t) : KeepsTables s u := h.trans k

/-- An operation that writes neither an incident nor a record. -/
theorem of_eq {s t : State} (hb : t.board.incidents = s.board.incidents) (hf : t.faults = s.faults) : KeepsTables s t :=
  ⟨fun h => h.of_incidents hb, fun h => hf ▸ h⟩

theorem onBoard {f : Setup → Board → Board} {s : State}
    (h : s.board.TableSound → (f s.setup s.board).TableSound) : KeepsTables s (s.onBoard f) := ⟨h, id⟩

theorem onFaults {f : Faults → Faults} {s : State} (h : s.faults.Sound → (f s.faults).Sound) :
    KeepsTables s (s.onFaults f) := ⟨id, h⟩

theorem onField (f : Field → Field) (s : State) : KeepsTables s (s.onField f) := .of_eq rfl rfl

theorem onSetup (f : Setup → Setup) (s : State) : KeepsTables s (s.onSetup f) := .of_eq rfl rfl

theorem updStation (n : StationId) (g : Station → Station) (s : State) : KeepsTables s (s.updStation n g) := .of_eq rfl rfl

theorem updTrunk (t : TrunkId) (g : Trunk → Trunk) (s : State) : KeepsTables s (s.updTrunk t g) := .of_eq rfl rfl

theorem updChain (t : TrunkId) (g : Chain → Chain) (s : State) : KeepsTables s (s.updChain t g) := .of_eq rfl rfl

theorem updLink (d : DeskId) (g : Link → Link) (s : State) : KeepsTables s (s.updLink d g) := .of_eq rfl rfl

theorem updDesk (d : DeskId) (g : Desk → Desk) (s : State) : KeepsTables s (s.updDesk d g) := .of_eq rfl rfl

theorem hand (t : TrunkId) (f : DownFrame) (s : State) : KeepsTables s (s.hand t f) := .of_eq rfl rfl

theorem setOp (o : OpId) (x : Op) (s : State) : KeepsTables s (s.setOp o x) := .of_eq rfl rfl

theorem errorOn (t : TrunkId) (e : TrunkError) (p : Place) (s : State) : KeepsTables s (s.errorOn t e p) := .of_eq rfl rfl

theorem recordError (c : ErrorCode) (p : Place) (s : State) : KeepsTables s (s.recordError c p) := .of_eq rfl rfl

theorem foldl {α : Type} {f : State → α → State} (hf : ∀ s x, KeepsTables s (f s x)) (l : List α) (s : State) :
    KeepsTables s (l.foldl f s) := by
  induction l generalizing s with
  | nil => exact .refl s
  | cons x rest ih => exact (hf s x).trans (ih _)

/-! ### Handoffs and records (R25 to R31) -/

theorem writeRecord {r : FaultRecord} {s : State} (h : s.faults.HasRoom r.asset) : KeepsTables s (s.writeRecord r) :=
  .onFaults fun hs => hs.write h

theorem joinRecord {r : FaultRecord} {s : State} (h : s.faults.HasRoom r.asset) : KeepsTables s (s.joinRecord r) :=
  ⟨fun hs => hs.join _ _ _, fun hs => hs.write (r := { r with incident := _ }) h⟩

theorem leaveRecord (r : FaultRecord) (s : State) : KeepsTables s (s.leaveRecord r) := by
  unfold State.leaveRecord
  split
  · exact .onBoard fun h => h.leave _ _ _
  · exact .refl s

theorem conditionHandoff (r : FaultRecord) (s : State) : KeepsTables s (s.conditionHandoff r) := by
  unfold State.conditionHandoff
  split
  · exact .onBoard fun h => h.changeCondition _ _ _ _
  · exact .refl s

theorem marksHandoff (r : FaultRecord) (s : State) : KeepsTables s (s.marksHandoff r) := by
  unfold State.marksHandoff
  split
  · exact .onBoard fun h => h.changeMarks _ _ _ _
  · exact .refl s

theorem removeRecord (asset : Nat) (s : State) : KeepsTables s (s.onFaults (Faults.remove asset)) :=
  .onFaults fun h => h.remove asset

theorem removeAndLeave (r : FaultRecord) (s : State) : KeepsTables s (s.removeAndLeave r) :=
  (removeRecord r.asset s).trans (leaveRecord r _)

theorem confirmRecord {r : FaultRecord} {s : State} (h : s.faults.HasRoom r.asset) : KeepsTables s (s.confirmRecord r) :=
  joinRecord (r := { r with state := .confirmed, confirmedAt := some s.setup.time, timer := .none }) h

theorem beginRestore {r : FaultRecord} {s : State} (h : s.faults.HasRoom r.asset) : KeepsTables s (s.beginRestore r) := by
  dsimp only [State.beginRestore]
  split_ifs
  · exact removeAndLeave r s
  · exact writeRecord (r := { r with state := _, timer := _ }) h

theorem settleSuspect {r : FaultRecord} {s : State} (h : s.faults.HasRoom r.asset) : KeepsTables s (s.settleSuspect r) := by
  unfold State.settleSuspect
  split_ifs
  · exact confirmRecord h
  · exact writeRecord h

theorem writeWithChange {x y : FaultRecord} {s : State} (h : s.faults.HasRoom y.asset) :
    KeepsTables s (s.writeWithChange x y) := by
  dsimp only [State.writeWithChange]
  split_ifs
  · exact writeRecord h
  · exact (writeRecord h).trans (conditionHandoff y _)

theorem timerExpires {r : FaultRecord} {s : State} (h : s.faults.HasRoom r.asset) : KeepsTables s (s.timerExpires r) := by
  unfold State.timerExpires
  split
  · exact confirmRecord h
  · exact removeAndLeave r s
  · exact .refl s

/-! ### Reports (R22 to R33, R35) -/

theorem countReport (r : Report) (s : State) : KeepsTables s (s.countReport r) := by
  unfold State.countReport
  split_ifs
  · exact .refl s
  · exact .onBoard fun h => h.countDown _ _
  · exact .onBoard fun h => h.countUp _ _ _

theorem reportOnNone (r : Report) (s : State) : KeepsTables s (s.reportOnNone r) := by
  unfold State.reportOnNone
  split_ifs with h
  · exact settleSuspect (.inr h.2.2)
  · exact countReport r s

theorem removeTransient (x : FaultRecord) (s : State) : KeepsTables s (s.removeTransient x) :=
  (removeRecord x.asset s).trans (.of_eq rfl rfl)

theorem reportOnRecord (r : Report) {x : FaultRecord} {s : State} (h : s.faults.HasRoom x.asset) :
    KeepsTables s (s.reportOnRecord r x) := by
  dsimp only [State.reportOnRecord]
  split
  · exact settleSuspect (r := suspectFault r (booked s.setup.time x)) h
  · exact removeTransient (booked s.setup.time x) s
  · exact writeWithChange (y := { booked s.setup.time x with condition := _ }) h
  · exact beginRestore (r := booked s.setup.time x) h
  · exact writeWithChange (y := restoringFault r.condition (booked s.setup.time x)) h
  · exact writeRecord (r := booked s.setup.time x) h

theorem applyReport (r : Report) (s : State) : KeepsTables s (s.applyReport r) := by
  dsimp only [State.applyReport]
  refine (updStation r.station (fun x => { x with applied := saturate 65535 x.applied }) s).trans ?_
  split_ifs
  · exact countReport r _
  · split
    · exact reportOnNone r _
    · next hx => exact reportOnRecord r (Faults.hasRoom_of_find hx)

theorem takeReport (r : Report) (s : State) : KeepsTables s (s.takeReport r) := by
  unfold State.takeReport
  split_ifs
  · exact .onFaults fun h => ⟨h.fit, h.rising⟩
  · exact applyReport r s

/-! ### Every record of a station, and marks (R34, R35, R37) -/

theorem eachRecord {g : FaultRecord → State → State} (hg : ∀ r s, s.faults.HasRoom r.asset → KeepsTables s (g r s))
    (n : StationId) (s : State) : KeepsTables s (s.eachRecord n g) := by
  refine foldl (fun s a => ?_) _ s
  split
  · next hr => exact hg _ s (Faults.hasRoom_of_find hr)
  · exact .refl s

theorem suspendTimers (n : StationId) (s : State) : KeepsTables s (s.suspendTimers n) :=
  eachRecord (fun r s h => writeRecord (r := { r with timer := r.timer.suspend s.setup.time }) h) n s

theorem resumeTimers (n : StationId) (s : State) : KeepsTables s (s.resumeTimers n) := by
  refine eachRecord (fun r s h => ?_) n s
  unfold State.resumeTimer
  split
  · exact timerExpires h
  · exact writeRecord (r := { r with timer := r.timer.resume s.setup.time }) h

theorem setStale (n : StationId) (stale : Bool) (s : State) : KeepsTables s (s.setStale n stale) := by
  refine eachRecord (fun r s h => ?_) n s
  split_ifs
  · exact .refl s
  · exact (writeRecord (r := { r with stale }) h).trans (marksHandoff ..)

theorem syncUnderOp (asset : Nat) (s : State) : KeepsTables s (s.syncUnderOp asset) := by
  unfold State.syncUnderOp
  split
  · next r hr =>
    have room := Faults.hasRoom_of_find hr
    dsimp only
    split_ifs
    · exact .refl s
    · exact (writeRecord (r := { r with underOp := s.faults.marked asset }) room).trans (marksHandoff ..)
  · exact .refl s

theorem markAsset (asset : Nat) (s : State) : KeepsTables s (s.markAsset asset) :=
  KeepsTables.trans (.onFaults fun h => ⟨h.fit, h.rising⟩) (syncUnderOp asset _)

theorem unmarkAsset (asset : Nat) (s : State) : KeepsTables s (s.unmarkAsset asset) :=
  KeepsTables.trans (.onFaults fun h => ⟨h.fit, h.rising⟩) (syncUnderOp asset _)

/-! ### Operation outcomes (R36) -/

theorem lockRemedy (asset : Nat) (s : State) : KeepsTables s (s.lockRemedy asset) := by
  unfold State.lockRemedy
  split
  · next hr =>
    split_ifs
    · split
      · exact beginRestore (Faults.hasRoom_of_find hr)
      · exact removeRecord asset s
      · exact .refl s
    · exact .refl s
  · exact .refl s

theorem equipmentCheck (n : StationId) (k : Kind) (asset : Nat) (circuit : CircuitId) (fold : Bool) (c : Condition)
    (s : State) : KeepsTables s (s.equipmentCheck n k asset circuit fold c) := by
  unfold State.equipmentCheck
  split
  · next r hr =>
    have room := Faults.hasRoom_of_find hr
    split
    · exact confirmRecord (r := { r with condition := c }) room
    · exact writeWithChange (y := { r with condition := c }) room
    · exact writeWithChange (y := { r with condition := c, state := _, timer := _ }) room
  · split_ifs with h
    · exact .onBoard fun h => h.countUp _ _ _
    · exact joinRecord (.inr (Nat.lt_of_not_le fun hfull => h (.inr hfull)))

theorem applyOutcome (n : StationId) (k : Kind) (asset : Nat) (a : OutcomeAct) (s : State) :
    KeepsTables s (s.applyOutcome n k asset a) := by
  cases a with
  | none => exact .refl s
  | report c =>
    dsimp only [State.applyOutcome]
    split_ifs
    · exact recordError ..
    · exact applyReport ..
  | lockRemedy =>
    dsimp only [State.applyOutcome]
    split_ifs
    · exact recordError ..
    · exact KeepsTables.lockRemedy asset s
  | equipment c =>
    dsimp only [State.applyOutcome]
    split_ifs
    · exact recordError ..
    · exact equipmentCheck ..

/-! ### Adoption (R38) -/

theorem dropRecord (r : FaultRecord) (s : State) : KeepsTables s (s.dropRecord r) := by
  unfold State.dropRecord
  split_ifs
  · exact removeRecord r.asset s
  · exact removeAndLeave r s

theorem thresholdAtAdoption {r : FaultRecord} {s : State} (h : s.faults.HasRoom r.asset) :
    KeepsTables s (s.thresholdAtAdoption r) := by
  unfold State.thresholdAtAdoption
  split_ifs
  · exact settleSuspect h
  · exact writeRecord h

theorem leaveRecord_faults (r : FaultRecord) (s : State) : (s.leaveRecord r).faults = s.faults := by
  unfold State.leaveRecord
  split <;> rfl

theorem reexamine {r : FaultRecord} {s : State} (h : s.faults.HasRoom r.asset) : KeepsTables s (s.reexamine r) := by
  have dropped := dropRecord r s
  dsimp only [State.reexamine]
  split
  · exact dropped
  · split
    · exact dropped.trans (recordError ..)
    · split_ifs
      · exact dropped.trans (.onBoard fun h => h.countUp _ _ _)
      · exact dropped
    · split_ifs
      · exact thresholdAtAdoption h
      · exact thresholdAtAdoption (r := { r with circuit := _ }) h
      · exact (leaveRecord r s).trans (joinRecord (r := { r with circuit := _ }) (by rwa [leaveRecord_faults]))

theorem reexamineAll (s : State) : KeepsTables s s.reexamineAll := by
  refine foldl (fun s a => ?_) _ s
  split
  · next hr => exact reexamine (Faults.hasRoom_of_find hr)
  · exact .refl s

end KeepsTables

end Sys2Proof.Machine
end

section
/-! SUPPORT. What the blocks' shared operations keep of the incidents and of the fault table: the end of an operation, the
modes and hold sets of stations, the chains, the trunks, and the resets. -/

namespace Sys2Proof.Machine.KeepsTables

/-! ### The end of an operation (R168 to R172) -/

theorem releaseMark (x : Op) (s : State) : KeepsTables s (s.releaseMark x) := by
  unfold State.releaseMark
  split_ifs
  · exact unmarkAsset x.asset s
  · exact .refl s

theorem notifyOpDone (o : OpId) (x : Op) (how : OpEnd) (outcome : OpOutcome) (s : State) :
    KeepsTables s (s.notifyOpDone o x how outcome) := by
  unfold State.notifyOpDone
  split
  · exact .of_eq rfl rfl
  · exact .refl s

theorem endOp (o : OpId) (how : OpEnd) (act : OutcomeAct) (outcome : OpOutcome) (s : State) :
    KeepsTables s (s.endOp o how act outcome) := by
  have rest : ∀ (x : Op) (s : State), KeepsTables s
      ((((s.releaseMark x).clearStationOp x).notifyOpDone o x how outcome).onField (Field.freeOp o)) := fun x s =>
    (onField ..).after ((notifyOpDone ..).after ((updStation ..).after (releaseMark x s)))
  unfold State.endOp
  split
  · next x _ =>
    refine (applyOutcome x.station ((s.roster x.station).kind.getD .lamp) x.asset act s).trans ?_
    dsimp only
    split_ifs
    · exact rest x _
    · exact (rest x _).after (hand ..)
  · exact .refl s

theorem loseOp (o : OpId) (how : OpEnd) (s : State) : KeepsTables s (s.loseOp o how) := endOp ..

theorem loseStationOp (n : StationId) (how : OpEnd) (s : State) : KeepsTables s (s.loseStationOp n how) := by
  unfold State.loseStationOp
  split
  · exact loseOp ..
  · exact .refl s

theorem resetOp (s : State) (o : OpId) : KeepsTables s (s.resetOp o) := by
  unfold State.resetOp
  split
  · next x _ => exact (updStation ..).after ((releaseMark x _).after (hand ..))
  · exact .refl s

theorem resetOps (s : State) : KeepsTables s s.resetOps := (onField ..).after (foldl resetOp _ s)

theorem adoptOps (s : State) : KeepsTables s s.adoptOps := by
  refine foldl (fun s o => ?_) _ s
  split
  · split_ifs
    · exact loseOp ..
    · exact .refl s
  · exact .refl s

/-! ### Censuses (R152, R153, R155) -/

theorem startCensus (t : TrunkId) (s : State) : KeepsTables s (s.startCensus t) := by
  unfold State.startCensus
  split_ifs <;> exact .of_eq rfl rfl

theorem triggerCensus (t : TrunkId) (s : State) : KeepsTables s (s.triggerCensus t) := by
  unfold State.triggerCensus
  split_ifs
  · exact .refl s
  · exact updChain ..
  · exact startCensus t s

theorem chainFreed (t : TrunkId) (s : State) : KeepsTables s (s.chainFreed t) := by
  unfold State.chainFreed
  split_ifs
  · exact startCensus t s
  · exact .refl s

theorem failCensus (t : TrunkId) (s : State) : KeepsTables s (s.failCensus t) :=
  (chainFreed t _).after (.of_eq rfl rfl)

/-! ### Modes and hold sets (R107 to R120) -/

theorem nowActive (n : StationId) (s : State) : KeepsTables s (s.nowActive n) :=
  (onBoard fun h => h.restoreOf _ _).after (setStale n false s)

theorem enterSilent (n : StationId) (trigger : Bool) (s : State) : KeepsTables s (s.enterSilent n trigger) := by
  have silenced : KeepsTables s (s.enterSilent n false) :=
    (loseStationOp ..).after ((onBoard fun h => h.faultOf _ _ _).after ((setStale n true _).after (updStation ..)))
  cases trigger with
  | false => exact silenced
  | true => exact (triggerCensus ..).after silenced

theorem enterPending (n : StationId) (s : State) : KeepsTables s (s.enterPending n) := by
  dsimp only [State.enterPending]
  split_ifs
  · exact (loseStationOp ..).after ((setStale n true _).after (updStation ..))
  · exact (loseStationOp ..).after (updStation ..)
  · exact (setStale n true _).after (updStation ..)
  · exact updStation ..

theorem enterUnreached (s : State) (n : StationId) : KeepsTables s (s.enterUnreached n) :=
  (loseStationOp ..).after ((setStale n true _).after (updStation ..))

theorem hear (n : StationId) (s : State) : KeepsTables s (s.hear n) := by
  dsimp only [State.hear]
  split_ifs
  · exact (nowActive n _).after (updStation ..)
  · exact updStation ..

theorem afterHoldChange (n : StationId) (wasHeld : Bool) (s : State) : KeepsTables s (s.afterHoldChange n wasHeld) := by
  dsimp only [State.afterHoldChange]
  split_ifs
  · exact (loseStationOp ..).after ((updStation ..).after (suspendTimers n s))
  · exact (updStation ..).after (resumeTimers n s)
  · exact .refl s

theorem changeHold (n : StationId) (g : HoldSet → HoldSet) (s : State) : KeepsTables s (s.changeHold n g) :=
  (afterHoldChange ..).after (updStation ..)

theorem foundActive (n : StationId) (g : HoldSet → HoldSet) (s : State) : KeepsTables s (s.foundActive n g) := by
  dsimp only [State.foundActive]
  split_ifs
  · exact (afterHoldChange ..).after (updStation ..)
  · exact (afterHoldChange ..).after ((nowActive n _).after (updStation ..))

theorem applyCensusOutcome (n : StationId) (o : CensusOutcome) (s : State) :
    KeepsTables s (s.applyCensusOutcome n o) := by
  have silent : KeepsTables s (if (s.station n).mode = .silent then s else s.enterSilent n false) := by
    split_ifs
    · exact .refl s
    · exact enterSilent n false s
  cases o with
  | full => exact foundActive n _ s
  | bypass => exact foundActive n _ s
  | unlabelled => exact enterPending n s
  | otherLabel => exact silent
  | notFound => exact silent

theorem labelled (n : StationId) (i : Identity) (s : State) : KeepsTables s (s.labelled n i) :=
  (foundActive ..).after (updStation ..)

theorem adoptStations (old : Settings) (s : State) : KeepsTables s (s.adoptStations old) :=
  foldl (fun s n => updStation n _ s) _ s

theorem resetStations (s : State) : KeepsTables s s.resetStations := foldl (fun s n => updStation n _ s) _ s

/-! ### Chains (R146 to R150, R154) -/

theorem noAnswer (t : TrunkId) (p : Position) (s : State) : KeepsTables s (s.noAnswer t p) := by
  dsimp only [State.noAnswer]
  split_ifs
  · exact .refl s
  · exact enterPending (stationAt t p) s

theorem labelFails (t : TrunkId) (p : Position) (s : State) : KeepsTables s (s.labelFails t p) :=
  (noAnswer t p _).after (errorOn ..)

theorem startLabelling (t : TrunkId) (s : State) : KeepsTables s (s.startLabelling t) := by
  have steps : ∀ (fuel : Nat) (s : State), KeepsTables s (startLabellingSteps t fuel s) := by
    intro fuel
    induction fuel with
    | zero => exact fun s => .refl s
    | succ fuel ih =>
      intro s
      unfold startLabellingSteps
      split
      · dsimp only
        split_ifs
        · exact .of_eq rfl rfl
        · exact (ih _).after ((labelFails ..).after (updChain ..))
      · exact .refl s
  exact steps _ s

theorem labellingEnds (t : TrunkId) (s : State) : KeepsTables s (s.labellingEnds t) :=
  (chainFreed t _).after ((startLabelling t _).after (updChain ..))

theorem takeLabelAck (t : TrunkId) (label kind f1 f0 c1 c0 : Byte) (s : State) :
    KeepsTables s (s.takeLabelAck t label kind f1 f0 c1 c0) := by
  unfold State.takeLabelAck
  split
  · dsimp only
    split_ifs
    · exact labellingEnds t s
    · exact (labellingEnds t _).after (labelled ..)
    · exact (labellingEnds t _).after ((errorOn ..).after (labelled ..))
    · exact errorOn ..
  · exact errorOn ..

theorem comparePosition (t : TrunkId) (entries : List CensusEntry) (s : State) (p : Position) :
    KeepsTables s (s.comparePosition t entries p) := by
  dsimp only [State.comparePosition]
  split_ifs
  · exact errorOn ..
  · exact .refl s
  · exact (applyCensusOutcome ..).after ((updChain ..).after (errorOn ..))
  · exact (applyCensusOutcome ..).after (updChain ..)
  · exact (applyCensusOutcome ..).after (errorOn ..)
  · exact applyCensusOutcome ..

theorem afterCensus (t : TrunkId) (s : State) : KeepsTables s (s.afterCensus t) := by
  unfold State.afterCensus
  split_ifs
  · exact chainFreed t s
  · exact (chainFreed t _).after (startLabelling t s)

theorem takeCensusReturn (t : TrunkId) (count : Byte) (rest : List Byte) (s : State) :
    KeepsTables s (s.takeCensusReturn t count rest) := by
  unfold State.takeCensusReturn
  split
  · split
    · exact failCensus t s
    · dsimp only
      split_ifs
      · exact (afterCensus t _).after ((foldl (comparePosition t _) _ _).after ((errorOn ..).after (updChain ..)))
      · exact (afterCensus t _).after ((foldl (comparePosition t _) _ _).after (updChain ..))
  · exact errorOn ..

theorem adoptChains (s : State) : KeepsTables s s.adoptChains := foldl (fun s t => updChain t _ s) _ s

theorem opNoTaker (t : TrunkId) (label : Byte) (k : ReturnedType) (index : Byte) (s : State) :
    KeepsTables s (s.opNoTaker t label k index) := by
  unfold State.opNoTaker
  split
  · split
    · split_ifs
      · exact endOp ..
      · exact .refl s
    · exact .refl s
  · exact .refl s

theorem takeNoTaker (t : TrunkId) (label returned index : Byte) (s : State) :
    KeepsTables s (s.takeNoTaker t label returned index) := by
  unfold State.takeNoTaker
  split
  · refine (errorOn t .noTaker (.position t index.toNat) s).trans ?_
    dsimp only
    split
    · split_ifs
      · exact (labellingEnds t _).after (noAnswer ..)
      · exact .refl _
    · exact .refl _
  · exact (opNoTaker ..).after (errorOn ..)

theorem relabel (t : TrunkId) (s : State) : KeepsTables s (s.relabel t) := by
  have forgotten : KeepsTables s (s.forgetLabels t) :=
    (foldl (fun s p => enterPending (stationAt t p) s) _ _).after ((updChain ..).after (hand ..))
  exact (chainFreed t _).after ((startLabelling t _).after forgotten)

/-! ### Trunks (R127 to R139) -/

theorem graceExpires (t : TrunkId) (s : State) : KeepsTables s (s.graceExpires t) := by
  refine (updTrunk t (fun x => { x with graceDeadline := none }) s).trans ?_
  unfold State.graceExpires
  dsimp only
  split_ifs
  · exact .refl _
  · exact .onBoard fun h => h.faultOf _ _ _

theorem graceIfZero (t : TrunkId) (s : State) : KeepsTables s (s.graceIfZero t) := by
  unfold State.graceIfZero
  split_ifs
  · exact graceExpires t s
  · exact .refl s

theorem trunkErrorNotices (t : TrunkId) (e : TrunkError) (s : State) : KeepsTables s (s.trunkErrorNotices t e) :=
  foldl (f := fun s d => s.onBoard fun c b => b.notify d (.trunkError t e c.time)) (fun _ _ => .of_eq rfl rfl) _ s

theorem unreachTrunk (t : TrunkId) (s : State) : KeepsTables s (s.unreachTrunk t) := foldl enterUnreached _ s

theorem chainLost (t : TrunkId) (s : State) : KeepsTables s (s.chainLost t) := updChain ..

theorem leaveRunning (t : TrunkId) (s : State) : KeepsTables s (s.leaveRunning t) :=
  (chainLost t _).after ((unreachTrunk t _).after (updTrunk ..))

theorem faultTrunk (t : TrunkId) (e : TrunkError) (s : State) : KeepsTables s (s.faultTrunk t e) :=
  (graceIfZero t _).after ((trunkErrorNotices t e _).after
    ((errorOn ..).after ((leaveRunning t _).after (updTrunk ..))))

theorem trunkRuns (t : TrunkId) (s : State) : KeepsTables s (s.trunkRuns t) :=
  (onBoard fun h => h.restoreOf _ _).after ((triggerCensus t _).after (updTrunk ..))

theorem startFails (t : TrunkId) (s : State) : KeepsTables s (s.startFails t) := by
  have noticed : ∀ s : State, KeepsTables s ((s.recordError (.trunk .startTimeout) (.trunk t)).trunkErrorNotices t
      .startTimeout) := fun s => (trunkErrorNotices ..).after (recordError ..)
  dsimp only [State.startFails]
  cases (s.trunk t).startCause <;> simp only [reduceCtorEq, if_true, if_false]
  case fromOff => exact (graceIfZero t _).after ((noticed _).after ((updTrunk ..).after (updTrunk ..)))
  case commandFromFaulted => exact (noticed _).after (updTrunk ..)
  case retry => exact updTrunk ..

theorem stopTrunk (t : TrunkId) (s : State) : KeepsTables s (s.stopTrunk t) := by
  dsimp only [State.stopTrunk]
  split_ifs
  · exact (onBoard fun h => h.restoreOf _ _).after ((leaveRunning t _).after (updTrunk ..))
  · exact (onBoard fun h => h.restoreOf _ _).after (updTrunk ..)

theorem closeFrame (t : TrunkId) (s : State) : KeepsTables s (s.closeFrame t) := by
  dsimp only [State.closeFrame]
  split
  · exact updTrunk ..
  · exact .of_eq rfl rfl

theorem upstreamEnd (t : TrunkId) (s : State) : KeepsTables s (s.upstreamEnd t) := by
  unfold State.upstreamEnd
  split_ifs
  · exact .refl s
  · exact faultTrunk ..
  · exact closeFrame t s

theorem upstreamGrant (t : TrunkId) (s : State) : KeepsTables s (s.upstreamGrant t) := by
  unfold State.upstreamGrant
  split_ifs
  · exact .refl s
  · exact faultTrunk ..
  · exact updTrunk ..

/-! ### Operations (R159 to R167) -/

theorem startOp (o : OpId) (k : OpKind) (d : DeskId) (n : StationId) (asset : Nat) (s : State) :
    KeepsTables s (s.startOp o k d n asset) := by
  dsimp only [State.startOp]
  split_ifs
  · exact (markAsset asset _).after (.of_eq rfl rfl)
  · exact .of_eq rfl rfl

theorem sendStep (o : OpId) (y : Op) (p : Payload) (s : State) : KeepsTables s (s.sendStep o y p) := by
  dsimp only [State.sendStep]
  split_ifs
  · exact .of_eq rfl rfl
  · exact endOp ..

theorem takeSample (o : OpId) (x : Op) (level : Nat) (detects : Bool) (s : State) :
    KeepsTables s (s.takeSample o x level detects) := by
  dsimp only [State.takeSample]
  refine (setOp o (stepped x detects) s).trans ?_
  split
  · exact sendStep ..
  · exact endOp ..
  · exact sendStep ..

theorem badReply (o : OpId) (x : Op) (s : State) : KeepsTables s (s.badReply o x) := (endOp ..).after (errorOn ..)

theorem takeReading (o : OpId) (x : Op) (c : Option Condition) (s : State) : KeepsTables s (s.takeReading o x c) := by
  unfold State.takeReading
  split
  · split_ifs
    · exact endOp ..
    · exact badReply ..
  · exact badReply ..

theorem actOnReply (o : OpId) (x : Op) (r : Reply) (s : State) : KeepsTables s (s.actOnReply o x r) := by
  cases r with
  | probeReading c => exact takeReading o x c s
  | cycleOff => exact setOp ..
  | cycleFinal c => exact takeReading o x c s
  | sample level detects =>
    dsimp only [State.actOnReply]
    split_ifs
    · exact .refl s
    · exact takeSample ..
  | confirmation level =>
    dsimp only [State.actOnReply]
    split_ifs
    · exact endOp ..
    · exact .refl s
  | rejected => exact endOp ..

theorem takeReply (n : StationId) (index a1 a0 kind v1 v2 : Byte) (s : State) :
    KeepsTables s (s.takeReply n index a1 a0 kind v1 v2) := by
  unfold State.takeReply
  split
  · exact actOnReply ..
  · exact errorOn ..

theorem stepExpires (o : OpId) (x : Op) (s : State) : KeepsTables s (s.stepExpires o x) := by
  dsimp only [State.stepExpires]
  split_ifs
  · exact endOp ..
  · exact sendStep ..
  · exact sendStep ..

/-! ### Resets and power-on (R1, R185 to R187) -/

theorem reset1 (d : DeskId) (s : State) : KeepsTables s (s.reset1 d) :=
  (onBoard fun h => h.withdrawSlot none d).after (updLink ..)

/-- A step to a state without incidents and without records. -/
theorem of_empty {s t : State} (hb : t.board.incidents = {}) (hf : t.faults = {}) : KeepsTables s t :=
  ⟨fun _ => Board.tableSound_of_empty hb, fun _ => hf ▸ Faults.sound_empty⟩

theorem powerOn (lines : DeskSet) (s : State) : KeepsTables s (s.powerOn lines) := .of_empty rfl rfl

end Sys2Proof.Machine.KeepsTables
end

section
/-! SUPPORT. What the rows keep of the incidents and of the fault table, and from it what every step keeps. -/

namespace Sys2Proof.Machine

namespace KeepsTables

/-! ### Events and answers (R85, R178, R179) -/

theorem conclude (s u : State) : KeepsTables u (s.conclude u) := .onBoard fun h => (h.runsAfter _ _).beginLines

theorem event {f : State → State} {s : State} (h : KeepsTables s (f s)) : KeepsTables s (s.event f) :=
  (conclude s _).after h

theorem answer (d : DeskId) (code : Byte) (own : Bool) (v : Verdict) (s : State) :
    KeepsTables s (s.answer d code own v) := .of_eq rfl rfl

/-! ### Resets (R185, R186) -/

theorem reset2 (d : DeskId) (s : State) : KeepsTables s (s.reset2 d) := by
  have emptied : ∀ (c : Setup) (b : Board), (b.empty c).TableSound := fun c b =>
    Board.TableSound.foldl (Board.tableSound_of_empty rfl) (fun b g hb => by split_ifs <;> exact hb) _
  have noticed : ∀ b : Board, b.TableSound → (b.resetNotices 2).TableSound := fun b h =>
    h.foldl (f := fun b d => b.updLink d fun l => l.clearNotices.take (.reset 2)) (fun _ _ hb => hb) _
  have swept : KeepsTables s (s.updLink d (Link.abortWaiting .reset)).resetOps.resetStations :=
    (resetStations _).after ((resetOps _).after (updLink ..))
  refine after (onBoard (f := fun _ b => b.resetNotices 2) (noticed _)) ?_
  refine after (onBoard (f := fun c b => b.empty c) fun _ => emptied _ _) ?_
  exact after (onFaults (f := fun _ => {}) fun _ => Faults.sound_empty) swept

theorem reset3 (s : State) : KeepsTables s s.reset3 := .of_empty rfl rfl

theorem carryReset (level : Nat) (d : DeskId) (s : State) : KeepsTables s (s.carryReset level d).1 := by
  unfold State.carryReset
  split
  · exact reset1 d s
  · split_ifs
    · exact reset2 d s
    · exact .refl s
  · split_ifs
    · exact reset3 s
    · exact .refl s
  · exact .refl s

/-! ### Command frames and bytes (R177, R179, R180) -/

theorem frameVerdict {d : DeskId} {body : List Byte} {s : State} {a : State × Verdict}
    (h : s.frameVerdict d body = some a) : KeepsTables s a.1 := by
  unfold State.frameVerdict at h
  split at h
  · cases h
    exact .refl s
  · split_ifs at h <;> cases h
    · exact .refl s
    · exact .refl s
    · unfold State.carryAbort
      dsimp only
      split_ifs
      · exact updLink ..
      · exact .refl s
    · exact carryReset _ d s
    · exact .refl s

theorem takeFrame (d : DeskId) (body : List Byte) (s : State) : KeepsTables s (s.takeFrame d body) := by
  have hunting := updLink d (fun l => { l with receiver := none }) s
  dsimp only [State.takeFrame]
  split_ifs
  · exact hunting
  · unfold State.acceptFrame
    split
    · next ha => exact (answer ..).after ((frameVerdict ha).after hunting)
    · exact (updLink ..).after hunting

theorem commandEvent (d : DeskId) (body : List Byte) (s : State) : KeepsTables s (s.commandEvent d body) := by
  unfold State.commandEvent
  split_ifs
  · exact event (takeFrame d body s)
  · exact .refl s

theorem frameFails (d : DeskId) (e : FrameError) (s : State) : KeepsTables s (s.frameFails d e) := .of_eq rfl rfl

theorem errorEvent (d : DeskId) (e : FrameError) (s : State) : KeepsTables s (s.errorEvent d e) := by
  unfold State.errorEvent
  split_ifs
  · exact event (frameFails d e s)
  · exact .refl s

theorem receive (d : DeskId) (b : Byte) (s : State) : KeepsTables s (s.receive d b) := by
  unfold State.receive
  split
  · split_ifs
    · exact updLink ..
    · exact .refl s
  · unfold State.frameByte
    split
    · exact .refl s
    · split_ifs
      · exact frameFails ..
      · exact updLink ..
      · split
        · exact frameFails ..
        · exact takeFrame ..

/-! ### CLOSE, SET-PERIOD and ADOPT (R20, R62, R76) -/

/-- R62: with FORGET the records of the members leave the fault table; the incident is closed. -/
theorem closeIncident {i : IncidentId} {x : Incident} {s : State} (hx : s.board.incident i = some x) (forget : Bool) :
    KeepsTables s (s.closeIncident i x forget) := by
  have closed : ∀ u : State, u.board = s.board → KeepsTables u (u.onBoard fun c b =>
      b.commit .command i (closeNow c (if forget then forgotten x else x))) := by
    intro u hu
    refine onBoard fun h => h.commit .command i (Incident.Sound.closeNow ?_ _)
    have hs : x.Sound := h.incident (hu ▸ hx)
    split_ifs
    · exact hs.forgotten
    · exact hs
  refine (closed _ ?_).after ?_
  · split_ifs <;> rfl
  · split_ifs
    · exact onFaults fun h => h.forget x.members
    · exact .refl s

theorem changePeriod (p : Period) (s : State) : KeepsTables s (s.changePeriod p) := by
  refine KeepsTables.after (onBoard fun h => ?_) (onSetup ..)
  exact h.foldl (fun _ i hb => hb.recompute _ i) _

theorem adoption (old : Settings) (s : State) : KeepsTables s (s.adoption old) :=
  (adoptOps _).after <| (onBoard fun h => h.adoptOffers _).after <| (onBoard fun h => h.adoptUrgency _).after <|
    (onBoard fun h => h.adoptIncidents _ old).after <| (reexamineAll _).after <| (adoptChains _).after <|
    adoptStations old s

end KeepsTables

/-! ## The owners of the commands -/

/-- What an owner makes of the state keeps the incidents and the fault table. -/
def OwnerKeeps (op : Owner) : Prop := ∀ args d s, KeepsTables s (op args d s).1

theorem KeepsTables.carryOut {op : Owner} {after : State → State} (h : OwnerKeeps op)
    (ha : ∀ s, KeepsTables s (after s)) (code : Byte) (d : DeskId) (args : List Byte) (s : State) :
    KeepsTables s (s.carryOut code d args op after) :=
  (conclude s _).after ((ha _).after ((answer ..).after ((updLink ..).after (h args d s))))

theorem OwnerKeeps.serve {op : Owner} (h : OwnerKeeps op) (code : Byte) (d : DeskId) (s : State) :
    KeepsTables s (s.serve code d op) := by
  unfold State.serve
  split
  · exact .carryOut h (fun s => .refl s) ..
  · exact .refl s

theorem KeepsTables.withIndex {s : State} {g : IncidentId → State × Verdict} (h : ∀ i, KeepsTables s (g i).1)
    (hi lo : Byte) : KeepsTables s (withIndex hi lo s g).1 := by
  unfold Machine.withIndex
  split
  · exact h _
  · exact .refl s

theorem KeepsTables.withTrunk {s : State} {g : TrunkId → State × Verdict} (h : ∀ t, KeepsTables s (g t).1)
    (trunk : Byte) : KeepsTables s (withTrunk trunk s g).1 := by
  unfold Machine.withTrunk
  split
  · exact h _
  · exact .refl s

namespace OwnerKeeps

open KeepsTables

/-! ### Owners that only read -/

theorem of_same {op : Owner} (h : ∀ args d s, (op args d s).1 = s) : OwnerKeeps op := fun args d s => by
  rw [h]
  exact .refl s

/-- An answer that leaves the state as it is. -/
theorem same (s : State) (v : Verdict) : KeepsTables s (s, v).1 := .refl s

/-- An answer after an operation. -/
theorem made {s u : State} {v : Verdict} (h : KeepsTables s u) : KeepsTables s (u, v).1 := h

theorem listQueue : OwnerKeeps listQueue := .of_same fun args d s => by
  unfold Machine.listQueue
  repeat' split
  all_goals rfl

theorem readIncidentRecord : OwnerKeeps readIncidentRecord := .of_same fun args d s => by
  unfold Machine.readIncidentRecord Machine.withIndex
  repeat' split
  all_goals rfl

theorem readFaultRecord : OwnerKeeps readFaultRecord := .of_same fun args d s => by
  unfold Machine.readFaultRecord
  split <;> rfl

theorem readStationRecord : OwnerKeeps readStationRecord := .of_same fun args d s => by
  unfold Machine.readStationRecord
  repeat' split
  all_goals rfl

theorem readTrunkRecord : OwnerKeeps readTrunkRecord := .of_same fun args d s => by
  unfold Machine.readTrunkRecord Machine.withTrunk
  repeat' split
  all_goals rfl

theorem readShadow : OwnerKeeps readShadow := .of_same fun args d s => by
  unfold Machine.readShadow
  repeat' split
  all_goals rfl

/-! ### Desks, offers and incidents -/

theorem signOffDesk : OwnerKeeps signOffDesk := by
  intro args d s
  unfold Machine.signOffDesk
  split
  · split
    · exact same ..
    · split_ifs
      · exact same ..
      · exact made (onBoard fun h => h.signOff d _)
  · exact same ..

theorem acceptIncident : OwnerKeeps acceptIncident := by
  intro args d s
  unfold Machine.acceptIncident
  split
  · refine KeepsTables.withIndex (fun i => ?_) ..
    dsimp only
    split_ifs
    · exact made (onBoard fun h => h.acceptOffer d i)
    · exact same ..
    · exact same ..
  · exact same ..

theorem declineIncident : OwnerKeeps declineIncident := by
  intro args d s
  unfold Machine.declineIncident
  split
  · refine KeepsTables.withIndex (fun i => ?_) ..
    dsimp only
    split_ifs
    · exact made (onBoard fun h => h.declineOffer _ d i)
    · exact same ..
    · exact same ..
  · exact same ..

theorem releaseIncident : OwnerKeeps releaseIncident := by
  intro args d s
  unfold Machine.releaseIncident
  split
  · refine KeepsTables.withIndex (fun i => ?_) ..
    split
    · exact same ..
    · split_ifs
      · exact same ..
      · exact same ..
      · exact made (onBoard fun h => h.releaseOne d i)
  · exact same ..

theorem handOverIncident : OwnerKeeps handOverIncident := by
  intro args d s
  unfold Machine.handOverIncident
  split
  · refine KeepsTables.withIndex (fun i => ?_) ..
    split
    · exact same ..
    · split
      · exact same ..
      · split_ifs
        · exact same ..
        · exact same ..
        · exact same ..
        · exact made (onBoard fun h => h.handOver d _ i)
  · exact same ..

theorem closeCommand : OwnerKeeps closeCommand := by
  intro args d s
  unfold Machine.closeCommand
  split
  · refine KeepsTables.withIndex (fun i => ?_) ..
    split
    · exact same ..
    · split
      · exact same ..
      · next hx =>
        split
        · exact same ..
        · exact made (closeIncident hx _)
  · exact same ..

theorem tagCommand : OwnerKeeps tagCommand := by
  intro args d s
  unfold Machine.tagCommand
  split
  · refine KeepsTables.withIndex (fun i => ?_) ..
    split
    · exact same ..
    · split
      · exact same ..
      · next hx =>
        split_ifs
        · exact same ..
        · exact same ..
        · exact same ..
        · exact made (onBoard fun h => h.commit_moved .command hx rfl rfl rfl)
  · exact same ..

theorem setPeriodCommand : OwnerKeeps setPeriodCommand := by
  intro args d s
  unfold Machine.setPeriodCommand
  split
  · split
    · exact same ..
    · split_ifs
      · exact same ..
      · exact same ..
      · exact made (changePeriod _ s)
  · exact same ..

/-! ### Stations, trunks and chains -/

theorem holdStation : OwnerKeeps holdStation := by
  intro args d s
  unfold Machine.holdStation
  split
  · split
    · exact same ..
    · split_ifs
      · exact same ..
      · exact same ..
      · exact made (changeHold ..)
  · exact same ..

theorem unholdStation : OwnerKeeps unholdStation := by
  intro args d s
  unfold Machine.unholdStation
  split
  · split
    · exact same ..
    · split_ifs
      · exact same ..
      · exact same ..
      · exact same ..
      · exact made (changeHold ..)
  · exact same ..

theorem startTrunkCommand : OwnerKeeps startTrunkCommand := by
  intro args d s
  unfold Machine.startTrunkCommand
  split
  · refine KeepsTables.withTrunk (fun t => ?_) _
    split
    · exact same ..
    · exact same ..
    · exact made (updTrunk ..)
    · exact made (updTrunk ..)
  · exact same ..

theorem stopTrunkCommand : OwnerKeeps stopTrunkCommand := by
  intro args d s
  unfold Machine.stopTrunkCommand
  split
  · refine KeepsTables.withTrunk (fun t => ?_) _
    split_ifs
    · exact same ..
    · exact made (stopTrunk t s)
  · exact same ..

theorem censusCommand : OwnerKeeps censusCommand := by
  intro args d s
  unfold Machine.censusCommand
  split
  · refine KeepsTables.withTrunk (fun t => ?_) _
    split_ifs
    · exact same ..
    · exact made (updChain ..)
    · exact same ..
    · exact made (startCensus t s)
  · exact same ..

theorem labelChainCommand : OwnerKeeps labelChainCommand := by
  intro args d s
  unfold Machine.labelChainCommand
  split
  · refine KeepsTables.withTrunk (fun t => ?_) _
    split_ifs
    · exact same ..
    · exact same ..
    · exact same ..
    · exact made (relabel t s)
  · exact same ..

/-! ### Operations and staging -/

theorem requestOp (k : OpKind) : OwnerKeeps (requestOp k) := by
  intro args d s
  unfold Machine.requestOp
  split
  · split
    · exact same ..
    iterate 6
      split
      · exact same ..
    split
    · exact same ..
    · split
      · exact same ..
      · exact made (startOp ..)
  · exact same ..

theorem abortOperation : OwnerKeeps abortOperation := by
  intro args d s
  unfold Machine.abortOperation
  split
  · split
    · exact same ..
    · split_ifs
      · exact same ..
      · split
        · exact same ..
        · exact made (loseOp ..)
  · exact same ..

theorem writeShadow (e : Edit) : OwnerKeeps (writeShadow e) := by
  intro args d s
  unfold Machine.writeShadow
  split
  · exact same ..
  · split_ifs
    · exact made (onSetup ..)
    · exact same ..

theorem beginEdit : OwnerKeeps beginEdit := by
  intro args d s
  unfold Machine.beginEdit
  split
  · exact made (onSetup ..)
  · split_ifs <;> exact same ..

theorem discardEdit : OwnerKeeps discardEdit := by
  intro args d s
  unfold Machine.discardEdit
  split_ifs
  · exact made (onSetup ..)
  · exact same ..

theorem adoptEdit : OwnerKeeps adoptEdit := by
  intro args d s
  unfold Machine.adoptEdit
  split_ifs
  · exact made ((adoption ..).after (onSetup ..))
  · exact same ..

end OwnerKeeps

end Sys2Proof.Machine
end

section
/-! PROOFS. Every row keeps the incidents and the fault table within their bounds, and so does every step from a state whose
incident table lists its indices rising (R21, R43). -/

namespace Sys2Proof.Machine

namespace KeepsTables

/-! ### Frames taken from a buffer (R132, R145) -/

theorem takeOldest {f : List Byte → State → State} (hf : ∀ frame s, KeepsTables s (f frame s)) (t : TrunkId) (k : UpType)
    (s : State) : KeepsTables s (s.takeOldest t k f) := by
  unfold State.takeOldest
  split
  · exact event ((hf _ _).after (updTrunk ..))
  · exact .refl s

theorem screened {f : StationId → Bool → State → State} (hf : ∀ n moved s, KeepsTables s (f n moved s)) (t : TrunkId)
    (frame : List Byte) (s : State) : KeepsTables s (s.screened t frame f) := by
  unfold State.screened
  split
  · split
    · exact (hf ..).after (hear ..)
    · exact errorOn ..
  · exact .refl s

/-- A frame taken, screened by its label and heard, and then acted on. -/
theorem takeScreened {f : List Byte → StationId → Bool → State → State}
    (hf : ∀ frame n moved s, KeepsTables s (f frame n moved s)) (t : TrunkId) (k : UpType) (s : State) :
    KeepsTables s (s.takeOldest t k fun frame s => s.screened t frame (f frame)) :=
  takeOldest (fun frame s => screened (hf frame) t frame s) t k s

theorem creditCheckIn (n : StationId) (moved : Bool) (s : State) : KeepsTables s (s.creditCheckIn n moved) := by
  dsimp only [State.creditCheckIn]
  split_ifs
  · exact updStation ..
  · exact .refl s

theorem judgeSleep (n : StationId) (span : Nat) (s : State) : KeepsTables s (s.judgeSleep n span) := by
  dsimp only [State.judgeSleep]
  split
  · exact hand ..
  · split_ifs
    · exact (updStation ..).after (hand ..)
    · exact .refl s

theorem classify (t : TrunkId) (x : Checked) (s : State) : KeepsTables s (s.classify t x) := by
  dsimp only [State.classify]
  split_ifs
  · exact errorOn ..
  · exact takeReport ..

theorem takeChecked (t : TrunkId) (x : Checked) (s : State) : KeepsTables s (s.takeChecked t x) := by
  dsimp only [State.takeChecked]
  split_ifs
  · exact (updStation ..).after (hear ..)
  · exact (classify ..).after (hear ..)

/-! ### Symbols and stations (R110, R113, R125) -/

theorem onRunning (t : TrunkId) (g : Trunk → Trunk) (s : State) : KeepsTables s (s.onRunning t g) := by
  unfold State.onRunning
  split_ifs
  · exact event (updTrunk ..)
  · exact .refl s

theorem fillEvent (t : TrunkId) (s : State) : KeepsTables s (s.fillEvent t) := by
  unfold State.fillEvent
  split
  · exact event (trunkRuns t s)
  · exact onRunning ..
  · exact .refl s

theorem intervalExpires (n : StationId) (s : State) : KeepsTables s (s.intervalExpires n) := by
  unfold State.intervalExpires
  split
  · split_ifs
    · exact .refl s
    · unfold State.debit
      split_ifs
      · exact updStation ..
      · exact enterSilent ..
  · dsimp only [State.countSleep]
    split_ifs
    · exact (nowActive ..).after (updStation ..)
    · exact updStation ..
  · exact .refl s

/-! ### Timers of records (R25, R28) -/

theorem recordTimer (asset : Nat) (k : TimerKind) (s : State) : KeepsTables s (s.recordTimer asset k) := by
  unfold State.recordTimer
  split
  · next r hr =>
    have found : s.faults.find asset = some r := by
      unfold dueRecord at hr
      split at hr
      · next hf =>
        split at hr
        · split_ifs at hr
          exact hr ▸ hf
        · cases hr
      · cases hr
    exact event (timerExpires (Faults.hasRoom_of_find found))
  · exact .refl s

/-- An event that takes place only under a condition. -/
theorem eventIf {f : State → State} {s : State} (p : Prop) [Decidable p] (h : KeepsTables s (f s)) :
    KeepsTables s (if p then s.event f else s) := by
  split_ifs
  · exact event h
  · exact .refl s

end KeepsTables

/-! ## The rows -/

open KeepsTables

/-- If the row answers a next state, it has kept the incidents and the fault table. -/
def RowKeeps (s : State) (a : Answer) : Prop := ∀ t, a = .next t → KeepsTables s t

theorem RowKeeps.next {s u : State} (h : KeepsTables s u) : RowKeeps s (.next u) := fun _ ht => by
  cases ht
  exact h

theorem RowKeeps.guarded {s u : State} {p : Prop} [Decidable p] {f : Fault} (h : KeepsTables s u) :
    RowKeeps s (if p then .next u else .fault f) := by
  split_ifs
  · exact .next h
  · exact fun _ ht => by cases ht

theorem exec_keepsTables (i : Instr) (s : State) : RowKeeps s (exec i s) := by
  cases i with
  | powerOn lines => exact .next (powerOn lines s)
  | linkDown d =>
    exact .next (eventIf _ ((onBoard fun h => h.linkLost _ d).after ((onSetup ..).after (updLink ..))))
  | linkUp d =>
    refine .next ?_
    split_ifs
    · exact .refl s
    · exact event ((updDesk ..).after (updLink ..))
  | commandFrame d body => exact .guarded (commandEvent d body s)
  | badCrc d => exact .next (errorEvent d .badCrc s)
  | badKind d => exact .next (errorEvent d .badKind s)
  | badFrame d => exact .next (errorEvent d .badFrame s)
  | byteTimeout d =>
    refine .next ?_
    split_ifs
    · exact errorEvent d .badFrame s
    · exact .refl s
  | resultSent d => exact .next (eventIf _ (updLink ..))
  | noticeSent d => exact .next (eventIf _ (updLink ..))
  | identify d => exact .next (OwnerKeeps.serve (.of_same fun _ _ _ => rfl) ..)
  | sense d =>
    refine .next ?_
    split
    · exact carryOut (.of_same fun _ _ _ => rfl) (fun s => updLink d Link.sensed s) ..
    · exact .refl s
  | signOn d => exact .next (OwnerKeeps.serve (fun _ _ _ => updDesk ..) ..)
  | signOff d => exact .next (OwnerKeeps.signOffDesk.serve ..)
  | abort d => exact .next (commandEvent ..)
  | resetLevel1 d => exact .next (commandEvent ..)
  | resetLevel2 d => exact .next (commandEvent ..)
  | resetLevel3 d => exact .next (commandEvent ..)
  | listPending d => exact .next (OwnerKeeps.listQueue.serve ..)
  | readIncident d => exact .next (OwnerKeeps.readIncidentRecord.serve ..)
  | readFault d => exact .next (OwnerKeeps.readFaultRecord.serve ..)
  | readStation d => exact .next (OwnerKeeps.readStationRecord.serve ..)
  | readTrunk d => exact .next (OwnerKeeps.readTrunkRecord.serve ..)
  | readError d => exact .next (OwnerKeeps.serve (.of_same fun _ _ _ => rfl) ..)
  | accept d => exact .next (OwnerKeeps.acceptIncident.serve ..)
  | decline d => exact .next (OwnerKeeps.declineIncident.serve ..)
  | release d => exact .next (OwnerKeeps.releaseIncident.serve ..)
  | handover d => exact .next (OwnerKeeps.handOverIncident.serve ..)
  | close d => exact .next (OwnerKeeps.closeCommand.serve ..)
  | tag d => exact .next (OwnerKeeps.tagCommand.serve ..)
  | hold d => exact .next (OwnerKeeps.holdStation.serve ..)
  | unhold d => exact .next (OwnerKeeps.unholdStation.serve ..)
  | probe d => exact .next ((OwnerKeeps.requestOp .probe).serve ..)
  | cycle d => exact .next ((OwnerKeeps.requestOp .cycle).serve ..)
  | sweep d => exact .next ((OwnerKeeps.requestOp .sweep).serve ..)
  | abortOp d => exact .next (OwnerKeeps.abortOperation.serve ..)
  | trunkStart d => exact .next (OwnerKeeps.startTrunkCommand.serve ..)
  | trunkStop d => exact .next (OwnerKeeps.stopTrunkCommand.serve ..)
  | census d => exact .next (OwnerKeeps.censusCommand.serve ..)
  | labelChain d => exact .next (OwnerKeeps.labelChainCommand.serve ..)
  | setPeriod d => exact .next (OwnerKeeps.setPeriodCommand.serve ..)
  | editBegin d => exact .next (OwnerKeeps.beginEdit.serve ..)
  | writeCircuit d => exact .next ((OwnerKeeps.writeShadow editCircuit).serve ..)
  | writeStation d => exact .next ((OwnerKeeps.writeShadow editStation).serve ..)
  | writeDesk d => exact .next ((OwnerKeeps.writeShadow editDesk).serve ..)
  | writeParam d => exact .next ((OwnerKeeps.writeShadow editParam).serve ..)
  | writeScale d => exact .next ((OwnerKeeps.writeShadow editScale).serve ..)
  | readShadow d => exact .next (OwnerKeeps.readShadow.serve ..)
  | adopt d =>
    refine .next ?_
    split
    · refine carryOut OwnerKeeps.adoptEdit (fun u => ?_) ..
      split_ifs
      · exact onBoard fun h => h.runAll _
      · exact .refl u
    · exact .refl s
  | discard d => exact .next (OwnerKeeps.discardEdit.serve ..)
  | confirmWindowExpiry asset => exact .guarded (recordTimer ..)
  | restoreHoldExpiry asset => exact .guarded (recordTimer ..)
  | closeDelayExpiry n =>
    refine .next ?_
    split
    · next hx => exact eventIf _ (onBoard fun h => h.commit .table n ((h.incident hx).closeNow _))
    · exact .refl s
  | agingBoundary n =>
    refine .next ?_
    split
    · exact eventIf _ (onBoard fun h => h.ageBoundary _ n _)
    · exact .refl s
  | offerExpiry d =>
    refine .next ?_
    split
    · exact eventIf _ (onBoard fun h => h.expireOffer _ d _)
    · exact .refl s
  | absenceExpiry d => exact .next (eventIf _ (onBoard fun h => h.expireAbsence d))
  | intervalExpiry n => exact .next (eventIf _ (intervalExpires n s))
  | checkIn t => exact .next (takeScreened (fun _ => creditCheckIn) t .checkIn s)
  | sleep t =>
    refine .next (takeScreened (fun frame n _ s => ?_) t .sleep s)
    split
    · exact judgeSleep ..
    · exact .refl s
  | bypassOn t => exact .next (takeScreened (fun _ n _ s => changeHold ..) t .bypassOn s)
  | bypassOff t => exact .next (takeScreened (fun _ n _ s => changeHold ..) t .bypassOff s)
  | assetState t =>
    refine .next (takeOldest (fun frame s => ?_) t .assetState s)
    split
    · split
      · exact errorOn ..
      · exact takeChecked ..
    · exact .refl s
  | chainValidFill t => exact .next (fillEvent t s)
  | frameEnd t => exact .next (eventIf _ (upstreamEnd t s))
  | abortSymbol t => exact .next (onRunning ..)
  | grant t => exact .next (eventIf _ (upstreamGrant t s))
  | parity t => exact .next (eventIf _ (faultTrunk t .parity s))
  | disconnect t => exact .next (eventIf _ (faultTrunk t .disconnect s))
  | downstreamFrameSent t => exact .next (eventIf _ (updTrunk ..))
  | startDeadline t => exact .next (eventIf _ (startFails t s))
  | retryDeadline t => exact .next (eventIf _ (updTrunk ..))
  | graceDeadline t => exact .next (eventIf _ (graceExpires t s))
  | labelAck t =>
    refine .next (takeOldest (fun frame s => ?_) t .labelAck s)
    split
    · exact takeLabelAck ..
    · exact .refl s
  | labelDeadline t =>
    refine .next ?_
    split
    · exact eventIf _ ((labellingEnds t _).after (labelFails ..))
    · exact .refl s
  | censusReturn t =>
    refine .next (takeOldest (fun frame s => ?_) t .censusReturn s)
    split
    · exact takeCensusReturn ..
    · exact .refl s
  | censusDeadline t => exact .next (eventIf _ (failCensus t s))
  | noTaker t =>
    refine .next (takeOldest (fun frame s => ?_) t .noTaker s)
    split
    · exact takeNoTaker ..
    · exact .refl s
  | opReply t =>
    refine .next (takeScreened (fun frame n _ s => ?_) t .opReply s)
    split
    · exact takeReply ..
    · exact .refl s
  | probeDeadline o =>
    refine .next ?_
    split
    · exact event (endOp ..)
    · exact .refl s
  | cycleDeadline o =>
    refine .next ?_
    split
    · exact event (endOp ..)
    · exact .refl s
  | stepDeadline o =>
    refine .next ?_
    split
    · exact event (stepExpires ..)
    · exact .refl s
  | dataSymbol t b => exact .next (onRunning ..)
  | fill t => exact .next (fillEvent t s)
  | deskByte d b => exact .next (eventIf _ (receive d b s))

theorem step_keepsTables {s t : State} (h : step s = .next t) : KeepsTables s t := by
  unfold step at h
  split at h
  · cases h
    exact .of_eq (by rw [State.tick_board]) s.tick_faults
  · exact (exec_keepsTables _ _ t h).after (.of_eq rfl rfl)

end Sys2Proof.Machine
end

section
/-! PROOFS. What O58 asks of every step (R21, R43): the bounds of the fault table are kept from every state; those of the
incidents from every state whose incident table lists its indices rising, and not from every state. -/

namespace Sys2Proof.Machine

/-! ## What holds -/

/-- R21, the second half of O58: from every state. -/
theorem faultsSound_step {s t : State} (h : s.faults.Sound) (hs : step s = .next t) : t.faults.Sound :=
  (step_keepsTables hs).faults h

/-- R43, the first half of O58 with the premise that it lacks, which every step keeps too: the incident table lists its
indices rising, as the model holds it. -/
theorem incidentsSound_step_of_rising {s t : State} (hr : s.board.incidents.rising = true) (h : s.board.IncidentsSound)
    (hs : step s = .next t) : t.board.incidents.rising = true ∧ t.board.IncidentsSound :=
  (step_keepsTables hs).incidents ⟨hr, h⟩

/-! ## What fails -/

/-- A circuit's incident, within its bounds. -/
def shownIncident : Incident :=
  { subject := .circuit 0, state := .opened, cls := .lamp, group := 0, assigned := none, members := [], unrecorded := 0
    worst := none, tripped := false, rounds := 0, declined := 0, urgency := 0, openedAt := 0, restoredAt := none
    closeDelay := none, closedAt := none, tag := none }

/-- An incident of trunk 0 with a fourth escalation round, one more than R90 allows. -/
def hiddenIncident : Incident := { shownIncident with subject := .trunk 0, cls := .infra, rounds := 4 }

/-- An incident table with two entries under index 0: a lookup finds the first, which hides the second, and `Board.liveOf`
searches both. -/
def doubledBoard : Board := { incidents := ⟨[(0, ⟨0, some shownIncident⟩), (0, ⟨0, some hiddenIncident⟩)]⟩ }

/-- Trunk 0 is STARTING and its first FILL waits, which makes it RUNNING and restores the trunk's incident (R128). -/
def doubledState : State :=
  { board := doubledBoard
    field := { trunks := (Vector.replicate 16 ({} : Trunk)).set 0 { state := .starting } }
    pending := [.fill 0] }

theorem shownIncident_sound : shownIncident.Sound := ⟨by decide, by decide, by decide⟩

theorem doubledBoard_incident {i : IncidentId} {x : Incident} (h : doubledBoard.incident i = some x) :
    x = shownIncident := by
  by_cases hi : i = 0
  · subst hi
    exact (Option.some.inj h).symm
  · have hn : doubledBoard.incident i = none := by
      simp [Board.incident, Board.record, Table.get, Table.find, doubledBoard, lookupEntry, Ne.symm hi]
    cases hn.symm.trans h

theorem doubledBoard_incidentsSound : doubledBoard.IncidentsSound := fun _ _ h =>
  doubledBoard_incident h ▸ shownIncident_sound

/-- The FILL finds the hidden incident as the trunk's live one and writes it, with its four rounds, under index 0. -/
theorem step_doubledState : ∃ t x, step doubledState = .next t ∧ t.board.incident 0 = some x ∧ x.rounds = 4 :=
  ⟨_, _, rfl, rfl, by decide +kernel⟩

/-- Refutes O58, by a table that lists an index twice: it meets the bounds at every lookup, and the step that acts on the
hidden entry brings that entry to light.  The statement lacks the premise that the indices are rising; with it, it holds, by
`incidentsSound_step_of_rising` and `faultsSound_step`. -/
theorem not_tablesKept : ¬ Obligations.TablesKept := by
  intro h
  obtain ⟨t, x, hstep, hx, hrounds⟩ := step_doubledState
  have hsound : x.Sound := h.1 doubledState t doubledBoard_incidentsSound hstep 0 x hx
  have := hsound.rounds
  omega

end Sys2Proof.Machine
end

section
/-! SUPPORT. One event on one incident, `Board.commit`, said once: its two last effects as operations with a name, and what
the event makes of each field of the board (R55, R60, R61, R73, R83, R92, R94). -/

namespace Sys2Proof.Machine

/-! ## Pending queues (R73, R83) -/

theorem ahead_congr {b c : Board} (h : ∀ j, c.incident j = b.incident j) (i j : IncidentId) :
    ahead c i j = ahead b i j := by simp only [ahead, h]

/-- The place of an incident in a queue rests on the incidents alone. -/
theorem placeIn_congr {b c : Board} (h : ∀ j, c.incident j = b.incident j) (i : IncidentId) (l : List IncidentId) :
    placeIn c i l = placeIn b i l := by
  induction l with
  | nil => rfl
  | cons j rest ih => simp only [placeIn, ahead_congr h, ih]

theorem mem_placeIn {b : Board} {i j : IncidentId} {l : List IncidentId} : j ∈ placeIn b i l ↔ j = i ∨ j ∈ l := by
  induction l with
  | nil => simp [placeIn]
  | cons k rest ih =>
    simp only [placeIn]
    split_ifs
    · exact List.mem_cons
    · rw [List.mem_cons, ih, List.mem_cons, or_left_comm]

theorem Board.getElem_leaveQueue (g h : DeskId) (i : IncidentId) (b : Board) : (b.leaveQueue g i).queues[h] =
    if g = h then b.queues[h].filter fun j => decide (j ≠ i) else b.queues[h] := by
  refine (Vector.getElem_set_fin ..).trans ?_
  split_ifs with hg
  · rw [hg]
  · rfl

theorem Board.getElem_enterQueue (g h : DeskId) (i : IncidentId) (b : Board) : (b.enterQueue g i).queues[h] =
    if g = h then placeIn b i b.queues[h] else b.queues[h] := by
  refine (Vector.getElem_set_fin ..).trans ?_
  split_ifs with hg
  · rw [hg]
  · rfl

/-- R83: the queue of a group after an incident has left its old place, if it was in this group. -/
def Board.queueWithout (before : Option (DeskId × Nat)) (i : IncidentId) (g : DeskId) (b : Board) : List IncidentId :=
  if before.map (·.1) = some g then b.queues[g].filter fun j => decide (j ≠ i) else b.queues[g]

/-- R73, R83: each queue after an incident has changed from `old` to `new`. -/
theorem Board.getElem_requeue (i : IncidentId) (old : Option Incident) (new : Incident) (b : Board) (g : DeskId) :
    (b.requeue i old new).queues[g] =
      if old.bind Incident.standing = new.standing then b.queues[g]
      else if new.standing.map (·.1) = some g then placeIn b i (b.queueWithout (old.bind Incident.standing) i g)
      else b.queueWithout (old.bind Incident.standing) i g := by
  dsimp only [Board.requeue]
  generalize old.bind Incident.standing = before
  generalize new.standing = after
  split_ifs
  · rfl
  all_goals
    rcases before with _ | ⟨g₁, u₁⟩ <;> rcases after with _ | ⟨g₂, u₂⟩ <;>
      simp_all [Board.queueWithout, Board.getElem_enterQueue, Board.getElem_leaveQueue,
        placeIn_congr fun j => b.leaveQueue_incident _ i j, -Fin.getElem_fin]

theorem Board.mem_queueWithout {before : Option (DeskId × Nat)} {i j : IncidentId} {g : DeskId} {b : Board} :
    j ∈ b.queueWithout before i g ↔ j ∈ b.queues[g] ∧ (before.map (·.1) = some g → j ≠ i) := by
  unfold Board.queueWithout
  split_ifs with hg <;> simp [hg]

theorem Board.mem_requeue {i j : IncidentId} {old : Option Incident} {new : Incident} {b : Board} {g : DeskId}
    (h : old.bind Incident.standing ≠ new.standing) : j ∈ (b.requeue i old new).queues[g] ↔
      (j = i ∧ new.standing.map (·.1) = some g) ∨
        (j ∈ b.queues[g] ∧ ((old.bind Incident.standing).map (·.1) = some g → j ≠ i)) := by
  rw [b.getElem_requeue, if_neg h]
  split_ifs with hg <;> simp [hg, mem_placeIn, Board.mem_queueWithout]

theorem Incident.standing_of_opened {x : Incident} (h : x.state = .opened) : x.standing = some (x.group, x.urgency) :=
  if_pos h

theorem Incident.standing_of_ne {x : Incident} (h : x.state ≠ .opened) : x.standing = none := if_neg h

theorem Incident.standing_eq_some {x : Incident} {g : DeskId} {u : Nat} :
    x.standing = some (g, u) ↔ x.state = .opened ∧ x.group = g ∧ x.urgency = u := by
  unfold Incident.standing
  split_ifs with h <;> simp [h]

theorem Incident.standing_group {x : Incident} {g : DeskId} :
    x.standing.map (·.1) = some g ↔ x.state = .opened ∧ x.group = g := by
  unfold Incident.standing
  split_ifs with h <;> simp [h]

/-! ## The two last effects of an event: closing, and telling the desks -/

/-- R55, R75, R94: at closing the aging schedule goes and the holder's assigned count falls. -/
def Board.closeOut (i : IncidentId) (old : Option Incident) (new : Incident) (b : Board) : Board :=
  let closing := new.state = .closed ∧ old.map (·.state) ≠ some .closed
  let b := if closing then b.setAging i none else b
  if closing then (match new.assigned with
    | some d => b.lowerCount d
    | none => b) else b

/-- R92: an offer that the event takes away is withdrawn. -/
def Board.withdrawLost (i : IncidentId) (old : Option Incident) (new : Incident) (b : Board) : Board :=
  if old.map (·.state) = some .offered ∧ new.state ≠ .offered then b.withdraw i (causeOf new.state) else b

/-- R61: the holder has its notice. -/
def Board.tellHolder (i : IncidentId) (old : Option Incident) (new : Incident) (b : Board) : Board :=
  match new.assigned, holderNotice i (b.change i) old new with
  | some d, some n => b.notify d n
  | _, _ => b

/-- R61, R92: what an event of the incident table tells the desks. -/
def Board.tell (i : IncidentId) (old : Option Incident) (new : Incident) (b : Board) : Board :=
  (b.withdrawLost i old new).tellHolder i old new

theorem Board.commit_of_same {o : Origin} {i : IncidentId} {new : Incident} {b : Board} (h : b.incident i = some new) :
    b.commit o i new = b := if_pos h

theorem Board.commit_of_ne {o : Origin} {i : IncidentId} {new : Incident} {b : Board} (h : b.incident i ≠ some new) :
    b.commit o i new =
      let c := ((b.writeIncident i new).requeue i (b.incident i) new).closeOut i (b.incident i) new
      if o = .table then c.tell i (b.incident i) new else c := if_neg h

theorem Board.closeOut_of_closing {i : IncidentId} {old : Option Incident} {new : Incident} {b : Board}
    (h : new.state = .closed ∧ old.map (·.state) ≠ some .closed) : b.closeOut i old new =
      match new.assigned with
      | some d => (b.setAging i none).lowerCount d
      | none => b.setAging i none := by
  simp only [Board.closeOut, if_pos h]

theorem Board.closeOut_of_not_closing {i : IncidentId} {old : Option Incident} {new : Incident} {b : Board}
    (h : ¬(new.state = .closed ∧ old.map (·.state) ≠ some .closed)) : b.closeOut i old new = b := by
  simp only [Board.closeOut, if_neg h]

/-- Closing an incident changes aging schedules and desks alone. -/
theorem Board.closeOut_eq (i : IncidentId) (old : Option Incident) (new : Incident) (b : Board) :
    b.closeOut i old new =
      { b with aging := (b.closeOut i old new).aging, desks := (b.closeOut i old new).desks } := by
  by_cases h : new.state = .closed ∧ old.map (·.state) ≠ some .closed
  · rw [Board.closeOut_of_closing h]
    split <;> rfl
  · rw [Board.closeOut_of_not_closing h]

theorem Board.closeOut_aging (i : IncidentId) (old : Option Incident) (new : Incident) (b : Board) :
    (b.closeOut i old new).aging =
      if new.state = .closed ∧ old.map (·.state) ≠ some .closed then b.aging.erase i else b.aging := by
  split_ifs with h
  · rw [Board.closeOut_of_closing h]
    split <;> rfl
  · rw [Board.closeOut_of_not_closing h]

theorem Board.getElem_closeOut (i : IncidentId) (old : Option Incident) (new : Incident) (b : Board) (d : DeskId) :
    (b.closeOut i old new).desks[d] =
      if new.state = .closed ∧ old.map (·.state) ≠ some .closed ∧ new.assigned = some d then
        { b.desks[d] with assigned := (b.desks[d]).assigned - 1 }
      else b.desks[d] := by
  by_cases hc : new.state = .closed ∧ old.map (·.state) ≠ some .closed
  · rw [Board.closeOut_of_closing hc]
    split
    · next e he =>
      refine (Board.getElem_updDesk ..).trans ?_
      by_cases hed : e = d
      · rw [if_pos hed, if_pos ⟨hc.1, hc.2, hed ▸ he⟩, hed]
        rfl
      · rw [if_neg hed, if_neg fun h => hed (Option.some.inj (he.symm.trans h.2.2))]
        rfl
    · next he => rw [if_neg fun h => by cases he.symm.trans h.2.2]; rfl
  · rw [Board.closeOut_of_not_closing hc, if_neg fun h => hc ⟨h.1, h.2.1⟩]

/-! ## Withdrawal (R92) -/

/-- The incident that stands in a desk's slot. -/
def Board.offeredTo (b : Board) (d : DeskId) : Option IncidentId := (b.desks[d]).slot.map (·.incident)

/-- A desk that loses the offer of an incident. -/
def Desk.lose (i : IncidentId) (x : Desk) : Desk := { x with slot := none, lastWithdrawn := some i }

theorem Board.withdrawFrom_of_eq {i : IncidentId} {k : WithdrawCause} {d : DeskId} {b : Board}
    (h : b.offeredTo d = some i) : b.withdrawFrom i k d =
      (b.updDesk d (Desk.lose i)).notify d (.withdrawn i (b.change i) k) := by
  obtain ⟨o, ho, rfl⟩ := Option.map_eq_some_iff.1 h
  simp only [Board.withdrawFrom, ho, if_true]
  rfl

theorem Board.withdrawFrom_of_ne {i : IncidentId} {k : WithdrawCause} {d : DeskId} {b : Board}
    (h : b.offeredTo d ≠ some i) : b.withdrawFrom i k d = b := by
  unfold Board.withdrawFrom
  split
  · next o ho => exact if_neg fun hi => h (by rw [Board.offeredTo, ho, Option.map_some, hi])
  · rfl

/-- A withdrawal changes desks and links alone. -/
theorem Board.withdraw_eq (i : IncidentId) (k : WithdrawCause) (b : Board) :
    b.withdraw i k = { b with desks := (b.withdraw i k).desks, links := (b.withdraw i k).links } := by
  have one : ∀ (b : Board) (d : DeskId), b.withdrawFrom i k d =
      { b with desks := (b.withdrawFrom i k d).desks, links := (b.withdrawFrom i k d).links } := by
    intro b d
    by_cases h : b.offeredTo d = some i
    · rw [Board.withdrawFrom_of_eq h]
      rfl
    · rw [Board.withdrawFrom_of_ne h]
  have all : ∀ (l : List DeskId) (b : Board), l.foldl (fun b d => b.withdrawFrom i k d) b =
      { b with desks := (l.foldl (fun b d => b.withdrawFrom i k d) b).desks
               links := (l.foldl (fun b d => b.withdrawFrom i k d) b).links } := by
    intro l
    induction l with
    | nil => exact fun _ => rfl
    | cons d rest ih =>
      intro b
      rw [List.foldl_cons, ih, one]
  exact all allDesks b

theorem Board.withdrawFrom_self (i : IncidentId) (k : WithdrawCause) (d : DeskId) (b : Board) :
    (b.withdrawFrom i k d).desks[d] = (if b.offeredTo d = some i then (b.desks[d]).lose i else b.desks[d]) ∧
    (b.withdrawFrom i k d).links[d] =
      if b.offeredTo d = some i then (b.links[d]).take (.withdrawn i (b.change i) k) else b.links[d] := by
  split_ifs with h
  · rw [Board.withdrawFrom_of_eq h]
    exact ⟨b.updDesk_desks_self d (Desk.lose i), b.updLink_links_self d (Link.take _)⟩
  · rw [Board.withdrawFrom_of_ne h]
    exact ⟨rfl, rfl⟩

theorem Board.withdrawFrom_other {i : IncidentId} {k : WithdrawCause} {d e : DeskId} {b : Board} (he : e ≠ d) :
    (b.withdrawFrom i k e).desks[d] = b.desks[d] ∧ (b.withdrawFrom i k e).links[d] = b.links[d] := by
  by_cases h : b.offeredTo e = some i
  · rw [Board.withdrawFrom_of_eq h]
    exact ⟨(b.getElem_updDesk e d (Desk.lose i)).trans (if_neg he), (b.getElem_updLink e d (Link.take _)).trans (if_neg he)⟩
  · rw [Board.withdrawFrom_of_ne h]
    exact ⟨rfl, rfl⟩

/-- The offer withdrawn from some of the desks: each of them that has it loses it and is told. -/
theorem Board.getElem_foldl_withdrawFrom (i : IncidentId) (k : WithdrawCause) (d : DeskId) {l : List DeskId}
    (hl : l.Nodup) (b : Board) :
    (l.foldl (fun b d => b.withdrawFrom i k d) b).desks[d] =
      (if d ∈ l ∧ b.offeredTo d = some i then (b.desks[d]).lose i else b.desks[d]) ∧
    (l.foldl (fun b d => b.withdrawFrom i k d) b).links[d] =
      if d ∈ l ∧ b.offeredTo d = some i then (b.links[d]).take (.withdrawn i (b.change i) k) else b.links[d] := by
  induction l generalizing b with
  | nil => simp
  | cons e rest ih =>
    obtain ⟨he, hrest⟩ := List.nodup_cons.1 hl
    have after := ih hrest (b.withdrawFrom i k e)
    rw [List.foldl_cons]
    by_cases hed : e = d
    · subst hed
      simp only [he, false_and, if_false, b.withdrawFrom_self] at after
      simpa only [List.mem_cons_self, true_and] using after
    · have hoffer : (b.withdrawFrom i k e).offeredTo d = b.offeredTo d := by
        simp only [Board.offeredTo, Board.withdrawFrom_other hed]
      have hchange : (b.withdrawFrom i k e).change i = b.change i := by simp only [Board.change, Board.record,
        Board.withdrawFrom_incidents]
      simp only [hoffer, hchange, Board.withdrawFrom_other hed] at after
      simpa only [List.mem_cons, Ne.symm hed, false_or] using after

/-- R92: each desk that has the offer loses it and is told; no other desk or link changes. -/
theorem Board.getElem_withdraw (i : IncidentId) (k : WithdrawCause) (d : DeskId) (b : Board) :
    (b.withdraw i k).desks[d] = (if b.offeredTo d = some i then (b.desks[d]).lose i else b.desks[d]) ∧
    (b.withdraw i k).links[d] =
      if b.offeredTo d = some i then (b.links[d]).take (.withdrawn i (b.change i) k) else b.links[d] := by
  have := b.getElem_foldl_withdrawFrom i k d (l := allDesks) (by decide)
  simp only [mem_allDesks, true_and] at this
  exact this

/-! ## Frames of the two last effects -/

section

variable (i : IncidentId) (old : Option Incident) (new : Incident) (b : Board)

@[simp] theorem Board.closeOut_record (j : IncidentId) : (b.closeOut i old new).record j = b.record j := by
  rw [Board.closeOut_eq]; rfl
@[simp] theorem Board.closeOut_change (j : IncidentId) : (b.closeOut i old new).change j = b.change j := by
  rw [Board.closeOut_eq]; rfl
@[simp] theorem Board.closeOut_queues : (b.closeOut i old new).queues = b.queues := by rw [Board.closeOut_eq]
@[simp] theorem Board.closeOut_stirs : (b.closeOut i old new).stirs = b.stirs := by rw [Board.closeOut_eq]
@[simp] theorem Board.closeOut_pointers : (b.closeOut i old new).pointers = b.pointers := by rw [Board.closeOut_eq]
@[simp] theorem Board.closeOut_timeouts : (b.closeOut i old new).timeouts = b.timeouts := by rw [Board.closeOut_eq]
@[simp] theorem Board.closeOut_links : (b.closeOut i old new).links = b.links := by rw [Board.closeOut_eq]

theorem Board.withdrawLost_eq : b.withdrawLost i old new =
    { b with desks := (b.withdrawLost i old new).desks, links := (b.withdrawLost i old new).links } := by
  unfold Board.withdrawLost
  split_ifs
  · exact b.withdraw_eq ..
  · rfl

@[simp] theorem Board.withdrawLost_change (j : IncidentId) : (b.withdrawLost i old new).change j = b.change j := by
  rw [Board.withdrawLost_eq]; rfl

theorem Board.getElem_withdrawLost (d : DeskId) :
    (b.withdrawLost i old new).desks[d] =
      (if old.map (·.state) = some .offered ∧ new.state ≠ .offered ∧ b.offeredTo d = some i then
        (b.desks[d]).lose i else b.desks[d]) ∧
    (b.withdrawLost i old new).links[d] =
      if old.map (·.state) = some .offered ∧ new.state ≠ .offered ∧ b.offeredTo d = some i then
        (b.links[d]).take (.withdrawn i (b.change i) (causeOf new.state)) else b.links[d] := by
  unfold Board.withdrawLost
  by_cases h : old.map (·.state) = some .offered ∧ new.state ≠ .offered
  · rw [if_pos h]
    simpa only [h, true_and, ne_eq, not_false_eq_true] using b.getElem_withdraw i (causeOf new.state) d
  · rw [if_neg h, if_neg fun k => h ⟨k.1, k.2.1⟩, if_neg fun k => h ⟨k.1, k.2.1⟩]
    exact ⟨rfl, rfl⟩

theorem Board.tellHolder_eq : b.tellHolder i old new = { b with links := (b.tellHolder i old new).links } := by
  have : ∃ links, b.tellHolder i old new = { b with links } := by
    unfold Board.tellHolder
    split
    · exact ⟨_, rfl⟩
    · exact ⟨_, rfl⟩
  obtain ⟨links, h⟩ := this
  rw [h]

/-- Telling the desks changes desks and links alone. -/
theorem Board.tell_eq : b.tell i old new =
    { b with desks := (b.withdrawLost i old new).desks, links := (b.tell i old new).links } := by
  have h := (b.withdrawLost i old new).tellHolder_eq i old new
  have h' := b.withdrawLost_eq i old new
  exact h.trans (congrArg (fun c : Board => { c with links := (b.tell i old new).links }) h')

@[simp] theorem Board.tell_record (j : IncidentId) : (b.tell i old new).record j = b.record j := by
  rw [Board.tell_eq]; rfl
@[simp] theorem Board.tell_queues : (b.tell i old new).queues = b.queues := by rw [Board.tell_eq]
@[simp] theorem Board.tell_stirs : (b.tell i old new).stirs = b.stirs := by rw [Board.tell_eq]
@[simp] theorem Board.tell_pointers : (b.tell i old new).pointers = b.pointers := by rw [Board.tell_eq]
@[simp] theorem Board.tell_timeouts : (b.tell i old new).timeouts = b.timeouts := by rw [Board.tell_eq]
@[simp] theorem Board.tell_aging : (b.tell i old new).aging = b.aging := by rw [Board.tell_eq]

/-- A link takes the notice made for its desk, if one was (R182). -/
def Link.takeAny (n : Option Notice) (l : Link) : Link :=
  match n with
  | some n => l.take n
  | none => l

/-- The notice that an event makes for a desk that holds the incident (R61). -/
def noticeTo (d : DeskId) (i : IncidentId) (change : Nat) (old : Option Incident) (new : Incident) : Option Notice :=
  if new.assigned = some d then holderNotice i change old new else none

theorem Board.getElem_tellHolder (d : DeskId) : (b.tellHolder i old new).links[d] =
    (b.links[d]).takeAny (noticeTo d i (b.change i) old new) := by
  unfold Board.tellHolder noticeTo
  cases ha : new.assigned with
  | none => rfl
  | some e =>
    cases hn : holderNotice i (b.change i) old new with
    | none => simp [Link.takeAny]
    | some n =>
      refine (b.getElem_updLink e d (Link.take n)).trans ?_
      by_cases hed : e = d
      · simp [hed, Link.takeAny]
      · simp [hed, Link.takeAny]

end

/-! ## One event, field by field -/

section

variable {i : IncidentId} {new : Incident} {b : Board}

theorem Board.commit_record (o : Origin) (h : b.incident i ≠ some new) (j : IncidentId) :
    (b.commit o i new).record j = if i = j then ⟨(b.change i + 1) % 65536, some new⟩ else b.record j := by
  rw [Board.commit_of_ne h]
  dsimp only
  split_ifs <;> simp_all [Board.writeIncident_record]

theorem Board.commit_incident (o : Origin) (i j : IncidentId) (new : Incident) (b : Board) :
    (b.commit o i new).incident j = if i = j then some new else b.incident j := by
  by_cases h : b.incident i = some new
  · rw [Board.commit_of_same h]
    split_ifs with hij
    · exact hij ▸ h
    · rfl
  · rw [Board.incident, Board.commit_record o h]
    split_ifs <;> rfl

theorem Board.commit_change (o : Origin) (h : b.incident i ≠ some new) :
    (b.commit o i new).change i = (b.change i + 1) % 65536 := by
  rw [Board.change, Board.commit_record o h, if_pos rfl]

theorem Board.commit_queues (o : Origin) (h : b.incident i ≠ some new) :
    (b.commit o i new).queues = ((b.writeIncident i new).requeue i (b.incident i) new).queues := by
  rw [Board.commit_of_ne h]
  dsimp only
  split_ifs <;> simp

/-- R73, R83: the queues after an event: an incident that comes to stand in a new way leaves its old place and takes the
new one. -/
theorem Board.mem_commit_queue (o : Origin) (h : b.incident i ≠ some new) {j : IncidentId} {g : DeskId} :
    j ∈ (b.commit o i new).queues[g] ↔
      if (b.incident i).bind Incident.standing = new.standing then j ∈ b.queues[g]
      else (j = i ∧ new.standing.map (·.1) = some g) ∨
        (j ∈ b.queues[g] ∧ (((b.incident i).bind Incident.standing).map (·.1) = some g → j ≠ i)) := by
  rw [Board.commit_queues o h]
  split_ifs with hs
  · rw [Board.getElem_requeue, if_pos hs, Board.writeIncident_queues]
  · rw [Board.mem_requeue hs, Board.writeIncident_queues]

/-- R85: what an event counts in each group's queue (log entry 43). -/
theorem Board.getElem_commit_stirs (o : Origin) (h : b.incident i ≠ some new) (g : DeskId) :
    (b.commit o i new).stirs[g] =
      if new.state = .opened ∧ new.group = g ∧
          (b.incident i).bind Incident.standing ≠ some (new.group, new.urgency) then b.stirs[g] + 1
      else b.stirs[g] := by
  have hs : (b.commit o i new).stirs = ((b.writeIncident i new).requeue i (b.incident i) new).stirs := by
    rw [Board.commit_of_ne h]
    dsimp only
    split_ifs <;> simp
  rw [hs, Board.requeue_stirs, Board.writeIncident_stirs]

@[simp] theorem Board.commit_pointers (o : Origin) (i : IncidentId) (new : Incident) (b : Board) :
    (b.commit o i new).pointers = b.pointers := by
  by_cases h : b.incident i = some new
  · rw [Board.commit_of_same h]
  · rw [Board.commit_of_ne h]
    dsimp only
    split_ifs <;> simp

@[simp] theorem Board.commit_timeouts (o : Origin) (i : IncidentId) (new : Incident) (b : Board) :
    (b.commit o i new).timeouts = b.timeouts := by
  by_cases h : b.incident i = some new
  · rw [Board.commit_of_same h]
  · rw [Board.commit_of_ne h]
    dsimp only
    split_ifs <;> simp

/-- R75: an event that closes the incident takes its aging schedule away. -/
theorem Board.commit_aging (o : Origin) (h : b.incident i ≠ some new) : (b.commit o i new).aging =
    if new.state = .closed ∧ (b.incident i).map (·.state) ≠ some .closed then b.aging.erase i else b.aging := by
  rw [Board.commit_of_ne h]
  dsimp only
  have : (((b.writeIncident i new).requeue i (b.incident i) new).closeOut i (b.incident i) new).aging =
      if new.state = .closed ∧ (b.incident i).map (·.state) ≠ some .closed then b.aging.erase i else b.aging := by
    rw [Board.closeOut_aging, Board.requeue_aging, Board.writeIncident_aging]
  by_cases ho : o = .table
  · rw [if_pos ho, Board.tell_aging, this]
  · rw [if_neg ho, this]

/-- R92: the event takes the desk's offer away. -/
def Board.loses (o : Origin) (i : IncidentId) (new : Incident) (d : DeskId) (b : Board) : Bool :=
  decide (o = .table ∧ (b.incident i).map (·.state) = some .offered ∧ new.state ≠ .offered ∧ b.offeredTo d = some i)

/-- R55, R94: the event closes an incident that the desk holds. -/
def Board.lowers (i : IncidentId) (new : Incident) (d : DeskId) (b : Board) : Bool :=
  decide (new.state = .closed ∧ (b.incident i).map (·.state) ≠ some .closed ∧ new.assigned = some d)

/-- What the closing of an incident that it holds makes of a desk (R94). -/
def Board.loweredDesk (i : IncidentId) (new : Incident) (d : DeskId) (b : Board) : Desk :=
  if b.lowers i new d = true then { b.desks[d] with assigned := (b.desks[d]).assigned - 1 } else b.desks[d]

/-- What a link takes of an event: the withdrawal of its desk's offer (R92). -/
def Board.withdrawnLink (o : Origin) (i : IncidentId) (new : Incident) (d : DeskId) (b : Board) : Link :=
  if b.loses o i new d = true then
    (b.links[d]).take (.withdrawn i ((b.change i + 1) % 65536) (causeOf new.state))
  else b.links[d]

/-- The board after the first effects of an event: the record, the queues, and the closing. -/
theorem Board.getElem_written (h : b.incident i ≠ some new) (d : DeskId) :
    let c := ((b.writeIncident i new).requeue i (b.incident i) new).closeOut i (b.incident i) new
    c.desks[d] = b.loweredDesk i new d ∧ c.links = b.links ∧ c.change i = (b.change i + 1) % 65536 := by
  refine ⟨?_, ?_, ?_⟩
  · rw [Board.getElem_closeOut, Board.requeue_desks, Board.writeIncident_desks]
    simp only [Board.loweredDesk, Board.lowers, decide_eq_true_eq]
  · simp
  · rw [Board.closeOut_change, Board.requeue_change, Board.change, Board.writeIncident_record, if_pos ⟨rfl, h⟩]

theorem Board.getElem_commit (o : Origin) (h : b.incident i ≠ some new) (d : DeskId) :
    (b.commit o i new).desks[d] =
      (if b.loses o i new d = true then (b.loweredDesk i new d).lose i else b.loweredDesk i new d) ∧
    (b.commit o i new).links[d] = (b.withdrawnLink o i new d).takeAny
      (if o = .table then noticeTo d i ((b.change i + 1) % 65536) (b.incident i) new else none) := by
  obtain ⟨hdesk, hlinks, hchange⟩ := Board.getElem_written h d
  rw [Board.commit_of_ne h]
  dsimp only at hdesk hlinks hchange ⊢
  generalize ((b.writeIncident i new).requeue i (b.incident i) new).closeOut i (b.incident i) new = c at *
  have hoffer : c.offeredTo d = b.offeredTo d := by
    rw [Board.offeredTo, hdesk, Board.loweredDesk]
    split_ifs <;> rfl
  by_cases ho : o = .table
  · obtain ⟨hd, hl⟩ := c.getElem_withdrawLost i (b.incident i) new d
    rw [hoffer, hdesk] at hd
    rw [hoffer, hlinks, hchange] at hl
    rw [if_pos ho, if_pos ho]
    refine ⟨?_, ?_⟩
    · rw [Board.tell_eq]
      simpa only [Board.loses, decide_eq_true_eq, ho, true_and] using hd
    · rw [Board.tell, Board.getElem_tellHolder, hl, Board.withdrawLost_change, hchange]
      simp only [Board.withdrawnLink, Board.loses, decide_eq_true_eq, ho, true_and]
  · simp [ho, hdesk, hlinks, Board.loses, Board.withdrawnLink, Link.takeAny, -Fin.getElem_fin]

end

end Sys2Proof.Machine
end

section
/-! PROOFS. What one event on an incident makes of the board (R60, R61, R73, R83, R85, R92, R94), from the laws of
`Board.commit`. -/

namespace Sys2Proof.Machine

theorem Link.take_of_room {n : Notice} {l : Link} (hu : l.up = true) (hr : l.notices.length < 16) :
    l.take n = { l with notices := l.notices ++ [n] } := if_pos (by simp [hu, noticeCapacity, hr])

theorem Link.take_of_no_room {n : Notice} {l : Link} (h : l.up = false ∨ 16 ≤ l.notices.length) :
    l.take n = { l with overflow := if l.overflow < 255 then l.overflow + 1 else 255, attention := true } :=
  if_neg fun hc => by
    obtain ⟨hup, hroom⟩ := (Bool.and_eq_true ..).mp hc
    rcases h with h | h
    · exact Bool.false_ne_true (h.symm.trans hup)
    · exact absurd (of_decide_eq_true hroom) (Nat.not_lt.2 h)

/-- R85: the incident stood in the group's queue with this urgency already. -/
theorem Incident.bind_standing_eq_some {old : Option Incident} {g : DeskId} {u : Nat} :
    old.bind Incident.standing = some (g, u) ↔
      ∃ x, old = some x ∧ x.state = .opened ∧ x.group = g ∧ x.urgency = u := by
  simp only [Option.bind_eq_some_iff, Incident.standing_eq_some]

section

variable {i : IncidentId} {new : Incident} {b : Board} (o : Origin) (h : b.incident i ≠ some new)
include h

theorem Board.mem_commit_queue_of_ne {j : IncidentId} (hj : j ≠ i) (g : DeskId) :
    j ∈ (b.commit o i new).queues[g] ↔ j ∈ b.queues[g] := by
  rw [Board.mem_commit_queue o h]
  split_ifs <;> simp [hj]

/-- R83: an incident that becomes OPEN enters the queue of its group. -/
theorem Board.mem_commit_queue_of_opened {g : DeskId} (hold : (b.incident i).map (·.state) ≠ some .opened)
    (hnew : new.state = .opened) (hg : new.group = g) : i ∈ (b.commit o i new).queues[g] := by
  have hs : (b.incident i).bind Incident.standing ≠ new.standing := by
    rw [Incident.standing_of_opened hnew]
    intro hb
    obtain ⟨x, hx, hxo, -⟩ := Incident.bind_standing_eq_some.1 hb
    exact hold (by rw [hx, Option.map_some, hxo])
  rw [Board.mem_commit_queue o h, if_neg hs]
  exact .inl ⟨rfl, Incident.standing_group.2 ⟨hnew, hg⟩⟩

/-- R83: an incident that is no longer OPEN leaves the queue of its group. -/
theorem Board.not_mem_commit_queue {x : Incident} (hx : b.incident i = some x) (hold : x.state = .opened)
    (hnew : new.state ≠ .opened) : i ∉ (b.commit o i new).queues[x.group] := by
  rw [Board.mem_commit_queue o h, hx, Option.bind_some, Incident.standing_of_opened hold, Incident.standing_of_ne hnew]
  simp

theorem Board.commit_stirs_of_stirred {g : DeskId} (hnew : new.state = .opened) (hg : new.group = g)
    (hs : ¬∃ x, b.incident i = some x ∧ x.state = .opened ∧ x.group = g ∧ x.urgency = new.urgency) :
    (b.commit o i new).stirs[g] = b.stirs[g] + 1 := by
  have hne : (b.incident i).bind Incident.standing ≠ some (new.group, new.urgency) :=
    fun hb => hs (hg ▸ Incident.bind_standing_eq_some.1 hb)
  rw [Board.getElem_commit_stirs o h, if_pos ⟨hnew, hg, hne⟩]

theorem Board.commit_stirs_of_unstirred {g : DeskId} (hs : new.state ≠ .opened ∨ new.group ≠ g ∨
    ∃ x, b.incident i = some x ∧ x.state = .opened ∧ x.group = g ∧ x.urgency = new.urgency) :
    (b.commit o i new).stirs[g] = b.stirs[g] := by
  rw [Board.getElem_commit_stirs o h, if_neg]
  rintro ⟨hnew, rfl, hb⟩
  rcases hs with hs | hs | hs
  · exact hs hnew
  · exact hs rfl
  · exact hb (Incident.bind_standing_eq_some.2 hs)

end

/-- R61: only an event of the table makes a notice, and only for the holder. -/
theorem noticeTo_of_origin (o : Origin) (d : DeskId) (i : IncidentId) (change : Nat) (old : Option Incident)
    (new : Incident) : (if o = .table then noticeTo d i change old new else none) =
      if o = .table ∧ new.assigned = some d then holderNotice i change old new else none := by
  rw [noticeTo, ite_and]

/-- Settles O43: the laws of `Board.commit`, field by field. -/
theorem incidentEvent : Obligations.IncidentEvent := by
  refine ⟨fun n l => ⟨Link.take_of_room, Link.take_of_no_room⟩, fun o i new b => ⟨Board.commit_of_same, fun h => ?_⟩⟩
  refine ⟨(Board.commit_record o h i).trans (if_pos rfl), fun j hj => (Board.commit_record o h j).trans (if_neg hj.symm),
    Board.commit_pointers .., Board.commit_timeouts .., fun g j hj => Board.mem_commit_queue_of_ne o h hj g,
    fun hw hn => Board.mem_commit_queue_of_opened o h hw hn rfl, fun x => Board.not_mem_commit_queue o h,
    fun g => ⟨Board.commit_stirs_of_stirred o h, Board.commit_stirs_of_unstirred o h⟩, fun hc => ?_, fun hc hw => ?_,
    fun d => ?_⟩
  · rw [Board.commit_aging o h, if_neg fun k => hc.elim (· k.1) k.2]
  · rw [Board.commit_aging o h, if_pos ⟨hc, hw⟩]
  · obtain ⟨hdesk, hlink⟩ := Board.getElem_commit o h d
    refine ⟨hdesk, hlink.trans ?_⟩
    rw [noticeTo_of_origin]
    rfl

end Sys2Proof.Machine
end

section
/-! PROOFS. The commands on one incident: READ-INCIDENT (R66), CLOSE (R62, R63) and TAG (R64). -/

namespace Sys2Proof.Machine

/-! ## Incident indices and options -/

theorem withIndex_of_le {hi lo : Byte} (h : 640 ≤ half hi lo) (s : State) (g : IncidentId → State × Verdict) :
    withIndex hi lo s g = (s, .invalid) := by rw [withIndex, finOf_of_le h]

theorem withIndex_of_eq {hi lo : Byte} {i : IncidentId} (h : half hi lo = i.val) (s : State)
    (g : IncidentId → State × Verdict) : withIndex hi lo s g = g i := by rw [withIndex, h, finOf_val]

theorem withIndex_of_forall {hi lo : Byte} {s : State} {g : IncidentId → State × Verdict}
    (h : ∀ i, g i = (s, .invalid)) : withIndex hi lo s g = (s, .invalid) := by
  unfold withIndex
  split
  · exact h _
  · rfl

theorem optionOf_of_lt {b : Byte} (h : 1 < b.toNat) : optionOf b = none := by
  unfold optionOf
  split
  · omega
  · omega
  · rfl

theorem optionOf_of_le {b : Byte} (h : b.toNat ≤ 1) : optionOf b = some (decide (b = 1#8)) := by
  obtain rfl | rfl : b = 0#8 ∨ b = 1#8 := by
    rcases Nat.le_one_iff_eq_zero_or_eq_one.1 h with h | h
    · exact .inl (BitVec.eq_of_toNat_eq h)
    · exact .inr (BitVec.eq_of_toNat_eq h)
  all_goals rfl

/-! ## READ-INCIDENT (R66) -/

/-- R66: what READ-INCIDENT shows of an index. -/
theorem readIncident_answers {d : DeskId} {s : State} {hi lo o1 o0 : Byte} {i : IncidentId}
    (h : s.waits d [0x11#8, hi, lo, o1, o0]) (hx : half hi lo = i.val) :
    let members := ((s.board.incident i).map (·.members)).getD []
    Answers (.readIncident d) d 0x11#8 ⟨.done, none, .incidentPage
      { index := i, change := s.board.change i, body := (s.board.incident i).map fun x => { x with members := [] }
        total := members.length, members := (members.drop (half o1 o0)).take 21 }⟩ s :=
  answers_of_waits readIncidentRecord rfl h (withIndex_of_eq hx ..)

/-- Settles O21: the owner answers with the record at the index and a page of its members. -/
theorem readIncidentShowsPage : Obligations.ReadIncidentShowsPage := by
  intro d hi lo o1 o0 s h
  refine ⟨fun hle => answers_of_waits readIncidentRecord rfl h (withIndex_of_le hle ..), fun i hi => ⟨fun hn => ?_,
    fun x hx => ?_⟩⟩
  · simpa [hn] using readIncident_answers h hi
  · simpa [hx] using readIncident_answers h hi

/-! ## CLOSE (R62, R63) -/

section

variable {d : DeskId} {hi lo option : Byte} {i : IncidentId} {s : State} (hx : half hi lo = i.val)
  (ho : option.toNat ≤ 1)
include hx ho

theorem closeCommand_of_free (h : s.board.incident i = none) :
    closeCommand [hi, lo, option] d s = (s, .refused .closed) := by
  simp only [closeCommand, withIndex_of_eq hx, optionOf_of_le ho, h]

variable {x : Incident} (h : s.board.incident i = some x)
include h

theorem closeCommand_of_refusal {r : Reason}
    (hr : closeRefusal x d (s.board.desks[d]).onDuty (decide (option = 1#8)) = some r) :
    closeCommand [hi, lo, option] d s = (s, .refused r) := by
  simp only [closeCommand, withIndex_of_eq hx, optionOf_of_le ho, h, hr]

theorem closeCommand_of_none (hr : closeRefusal x d (s.board.desks[d]).onDuty (decide (option = 1#8)) = none) :
    closeCommand [hi, lo, option] d s = (s.closeIncident i x (decide (option = 1#8)),
      .done (.change ((s.closeIncident i x (decide (option = 1#8))).board.change i))) := by
  simp only [closeCommand, withIndex_of_eq hx, optionOf_of_le ho, h, hr]

end

/-- R62: CLOSE of an incident that is ASSIGNED or RESTORED. -/
theorem closeRefusal_of_held {x : Incident} (hs : x.state = .assigned ∨ x.state = .restored) (d : DeskId)
    (onDuty forget : Bool) : closeRefusal x d onDuty forget =
      if x.assigned.isSome ∧ x.assigned ≠ some d then some .notHolder
      else if x.assigned = none ∧ onDuty = false then some .offDuty
      else if x.isCircuit ∧ x.hasFaults ∧ forget = false then some .membersPresent
      else none := by rcases hs with hs | hs <;> simp only [closeRefusal, hs]

theorem Incident.hasFaults_iff {x : Incident} : x.hasFaults = true ↔ x.members ≠ [] ∨ 0 < x.unrecorded := by
  simp [Incident.hasFaults]

section

variable {x : Incident} {d : DeskId} {onDuty forget : Bool} (hs : x.state = .assigned ∨ x.state = .restored)
include hs

theorem closeRefusal_of_other {e : DeskId} (he : x.assigned = some e) (hd : e ≠ d) :
    closeRefusal x d onDuty forget = some .notHolder := by
  rw [closeRefusal_of_held hs, if_pos (by simp [he, hd])]

theorem closeRefusal_of_offDuty (ha : x.assigned = none) (hd : onDuty = false) :
    closeRefusal x d onDuty forget = some .offDuty := by
  rw [closeRefusal_of_held hs, if_neg (by simp [ha]), if_pos ⟨ha, hd⟩]

/-- R62: a desk that may close the incident is held up by its faults alone. -/
theorem closeRefusal_of_may (hd : x.assigned = some d ∨ (x.assigned = none ∧ onDuty = true)) :
    closeRefusal x d onDuty forget =
      if x.isCircuit ∧ x.hasFaults ∧ forget = false then some .membersPresent else none := by
  rw [closeRefusal_of_held hs, if_neg, if_neg]
  · rintro ⟨ha, ho⟩
    rcases hd with hd | hd
    · cases ha.symm.trans hd
    · cases ho.symm.trans hd.2
  · rintro ⟨hsome, hne⟩
    rcases hd with hd | hd
    · exact hne hd
    · simp [hd.1] at hsome

end

/-! ### What the closing leaves (R40, R55, R63) -/

theorem Faults.mem_forget {r : FaultRecord} {members : List Member} {f : Faults} :
    r ∈ (f.forget members).records ↔ r ∈ f.records ∧ ∀ m ∈ members, m.asset ≠ r.asset := by
  induction members generalizing f with
  | nil => simp [Faults.forget]
  | cons m rest ih =>
    refine (ih (f := f.remove m.asset)).trans ?_
    simp only [Faults.remove, List.mem_filter, decide_eq_true_eq, List.forall_mem_cons, and_assoc, ne_comm (a := r.asset)]

theorem Faults.forget_marks (members : List Member) (f : Faults) : (f.forget members).marks = f.marks := by
  induction members generalizing f with
  | nil => rfl
  | cons m rest ih => exact ih (f.remove m.asset)

theorem Faults.forget_dropped (members : List Member) (f : Faults) : (f.forget members).dropped = f.dropped := by
  induction members generalizing f with
  | nil => rfl
  | cons m rest ih => exact ih (f.remove m.asset)

/-- An event of a command or the arbiter that leaves the incident standing in the queues as it stood. -/
theorem Board.commit_of_standing {o : Origin} {i : IncidentId} {new : Incident} {b : Board} (ho : o ≠ .table)
    (h : b.incident i ≠ some new) (hs : (b.incident i).bind Incident.standing = new.standing) :
    b.commit o i new = (b.writeIncident i new).closeOut i (b.incident i) new := by
  rw [Board.commit_of_ne h]
  dsimp only
  rw [if_neg ho, Board.requeue, if_pos hs]

/-- R55, R63: the incident that a desk's CLOSE leaves. -/
def closedByDesk (c : Setup) (gone : Bool) (x : Incident) : Incident :=
  { x with
    state := .closed, closedAt := some c.time, closeDelay := none
    members := if gone then [] else x.members
    unrecorded := if gone then 0 else x.unrecorded
    worst := if gone then none else x.worst }

theorem closeNow_forgotten (c : Setup) (forget : Bool) (x : Incident) :
    closeNow c (if forget = true then forgotten x else x) =
      closedByDesk c (decide (forget = true ∧ x.isCircuit = true)) x := by
  cases forget <;> cases hc : x.isCircuit <;> simp [closeNow, forgotten, closedByDesk, hc]

section

variable {i : IncidentId} {x : Incident} {forget : Bool} {s : State} (h : s.board.incident i = some x)
  (hs : x.state = .assigned ∨ x.state = .restored)
include h hs

theorem closedByDesk_ne (c : Setup) (gone : Bool) : s.board.incident i ≠ some (closedByDesk c gone x) := by
  rw [h]
  intro heq
  have : x.state = .closed := congrArg Incident.state (Option.some.inj heq)
  rcases hs with hs | hs <;> cases hs.symm.trans this

/-- R62: on the board CLOSE writes the closed record and closes it out; the incident stands in no queue. -/
theorem State.closeIncident_board : (s.closeIncident i x forget).board =
    (s.board.writeIncident i (closedByDesk s.setup (decide (forget = true ∧ x.isCircuit = true)) x)).closeOut i (some x)
      (closedByDesk s.setup (decide (forget = true ∧ x.isCircuit = true)) x) := by
  have hb : (s.closeIncident i x forget).board = s.board.commit .command i
      (closedByDesk s.setup (decide (forget = true ∧ x.isCircuit = true)) x) := by
    rw [← closeNow_forgotten]
    unfold State.closeIncident
    split_ifs <;> rfl
  have hold : x.state ≠ .opened := by rcases hs with hs | hs <;> rw [hs] <;> decide
  have hstand : (s.board.incident i).bind Incident.standing =
      (closedByDesk s.setup (decide (forget = true ∧ x.isCircuit = true)) x).standing := by
    rw [h, Option.bind_some, Incident.standing_of_ne hold, Incident.standing_of_ne (by simp [closedByDesk])]
  rw [hb, Board.commit_of_standing (by decide) (closedByDesk_ne h hs _ _) hstand, h]

theorem State.closeIncident_record (j : IncidentId) : (s.closeIncident i x forget).board.record j =
    if i = j then ⟨(s.board.change i + 1) % 65536,
      some (closedByDesk s.setup (decide (forget = true ∧ x.isCircuit = true)) x)⟩
    else s.board.record j := by
  rw [State.closeIncident_board h hs, Board.closeOut_record, Board.writeIncident_record]
  simp only [closedByDesk_ne h hs, ne_eq, not_false_eq_true, and_true]

theorem State.closeIncident_change :
    (s.closeIncident i x forget).board.change i = (s.board.change i + 1) % 65536 := by
  rw [Board.change, State.closeIncident_record h hs, if_pos rfl]

theorem State.closeIncident_aging : (s.closeIncident i x forget).board.aging.find i = none := by
  have hopen : (some x).map (·.state) ≠ some .closed := by
    rcases hs with hs | hs <;> simp [hs]
  rw [State.closeIncident_board h hs, Board.closeOut_aging, if_pos ⟨rfl, hopen⟩, Table.find_erase_self]

theorem State.closeIncident_desks : (s.closeIncident i x forget).board.desks =
    match x.assigned with
    | some e => s.board.desks.set e { s.board.desks[e] with assigned := (s.board.desks[e]).assigned - 1 }
    | none => s.board.desks := by
  have hopen : (some x).map (·.state) ≠ some .closed := by
    rcases hs with hs | hs <;> simp [hs]
  have ha : (closedByDesk s.setup (decide (forget = true ∧ x.isCircuit = true)) x).assigned = x.assigned := rfl
  rw [State.closeIncident_board h hs, Board.closeOut_of_closing ⟨rfl, hopen⟩, ha]
  cases x.assigned with
  | none => simp
  | some e => simp [Board.lowerCount]

end

theorem State.closeIncident_faults (i : IncidentId) (x : Incident) (forget : Bool) (s : State) :
    (s.closeIncident i x forget).faults =
      if forget = true ∧ x.isCircuit = true then s.faults.forget x.members else s.faults := by
  unfold State.closeIncident
  by_cases h : forget = true ∧ x.isCircuit = true
  · rw [if_pos h, if_pos (by simp [h])]
    rfl
  · rw [if_neg h, if_neg (by simpa using h)]
    rfl

/-- CLOSE touches neither the settings nor the field nor the error record. -/
theorem State.closeIncident_frame (i : IncidentId) (x : Incident) (forget : Bool) (s : State) :
    (s.closeIncident i x forget).setup = s.setup ∧ (s.closeIncident i x forget).field = s.field ∧
      (s.closeIncident i x forget).error = s.error := by
  unfold State.closeIncident
  split_ifs <;> exact ⟨rfl, rfl, rfl⟩

/-- R40: the records that CLOSE leaves in the fault table. -/
theorem State.mem_closeIncident_records {i : IncidentId} {x : Incident} {forget : Bool} {s : State} {r : FaultRecord} :
    r ∈ (s.closeIncident i x forget).faults.records ↔ r ∈ s.faults.records ∧
      (decide (forget = true ∧ x.isCircuit = true) = true → ∀ m ∈ x.members, m.asset ≠ r.asset) := by
  rw [State.closeIncident_faults, decide_eq_true_eq]
  split_ifs with h
  · simp only [Faults.mem_forget, h, and_self, true_imp_iff]
  · simp only [h, false_imp_iff, and_true]

/-- Settles O28: the owner's refusals by `closeRefusal`, and the closing by the laws of one event. -/
theorem closeClosesIncident : Obligations.CloseClosesIncident := by
  refine ⟨fun d hi lo option s hw => ⟨fun hbad => answers_of_waits closeCommand rfl hw ?_, fun i hx ho => ?_⟩,
    fun i x forget s h hs => ?_⟩
  · rcases hbad with hle | hlt
    · exact withIndex_of_le hle ..
    · refine withIndex_of_forall fun i => ?_
      simp only [optionOf_of_lt hlt]
  · have refuses : ∀ {x r}, s.board.incident i = some x →
        closeRefusal x d (s.board.desks[d]).onDuty (decide (option = 1#8)) = some r →
        Answers (.close d) d 0x24#8 ⟨.refused, some r, .none⟩ s := fun h hr =>
      answers_of_waits closeCommand rfl hw (closeCommand_of_refusal hx ho h hr)
    refine ⟨fun h => answers_of_waits closeCommand rfl hw (closeCommand_of_free hx ho h), fun x h =>
      ⟨fun hc => refuses h (by simp only [closeRefusal, hc]), fun hc => refuses h ?_,
        fun hs => ⟨fun e he hd => refuses h (closeRefusal_of_other hs he hd),
          fun ha hd => refuses h (closeRefusal_of_offDuty hs ha hd), fun hd => ⟨fun hcirc hf hopt => refuses h ?_,
            fun hfree => ?_⟩⟩⟩⟩
    · rcases hc with hc | hc <;> simp only [closeRefusal, hc]
    · rw [closeRefusal_of_may hs hd, if_pos ⟨hcirc, Incident.hasFaults_iff.2 hf, by simp [hopt]⟩]
    · have hr : closeRefusal x d (s.board.desks[d]).onDuty (decide (option = 1#8)) = none := by
        rw [closeRefusal_of_may hs hd, if_neg]
        rintro ⟨hcirc, hf, hopt⟩
        rcases hfree with hn | ⟨hm, hu⟩ | hone
        · exact Bool.false_ne_true (hn.symm.trans hcirc)
        · rcases Incident.hasFaults_iff.1 hf with hf | hf
          · exact hf hm
          · omega
        · simp [hone] at hopt
      have := does_of_waits (i := .close d) closeCommand rfl hw
      rw [closeCommand_of_none hx ho h hr, State.closeIncident_change h hs] at this
      exact this
  · obtain ⟨hsetup, hfield, herror⟩ := s.closeIncident_frame i x forget
    refine ⟨hsetup, hfield, herror, ?_, ?_, fun r => State.mem_closeIncident_records,
      (State.closeIncident_record h hs i).trans (if_pos rfl),
      fun j hj => (State.closeIncident_record h hs j).trans (if_neg hj.symm), State.closeIncident_aging h hs, ?_, ?_,
      State.closeIncident_desks h hs⟩
    · rw [State.closeIncident_faults]
      split_ifs
      · exact Faults.forget_marks ..
      · rfl
    · rw [State.closeIncident_faults]
      split_ifs
      · exact Faults.forget_dropped ..
      · rfl
    · rw [State.closeIncident_board h hs, Board.closeOut_queues, Board.writeIncident_queues]
    · rw [State.closeIncident_board h hs, Board.closeOut_links, Board.writeIncident_links]

/-! ## TAG (R64) -/

theorem tagOf_eq (text : List Byte) : tagOf text = if text = [] then none else some text := by
  simp only [tagOf, List.isEmpty_iff]

theorem all_printable_iff {text : List Byte} :
    text.all printable = true ↔ ∀ b ∈ text, 0x20 ≤ b.toNat ∧ b.toNat ≤ 0x7E := by
  simp only [List.all_eq_true, printable, Bool.and_eq_true, decide_eq_true_eq]

theorem tagCommand_of_invalid {d : DeskId} {hi lo : Byte} {text : List Byte} {s : State}
    (h : 640 ≤ half hi lo ∨ 16 < text.length ∨ ∃ b ∈ text, b.toNat < 0x20 ∨ 0x7E < b.toNat) :
    tagCommand (hi :: lo :: text) d s = (s, .invalid) := by
  rcases h with hle | hbad
  · exact withIndex_of_le hle ..
  · refine withIndex_of_forall fun i => if_pos ?_
    rcases hbad with hlong | ⟨b, hb, hout⟩
    · exact .inl hlong
    · refine .inr (Bool.eq_false_iff.2 fun hall => ?_)
      have := all_printable_iff.1 hall b hb
      omega

section

variable {d : DeskId} {hi lo : Byte} {text : List Byte} {i : IncidentId} {s : State} (hx : half hi lo = i.val)
  (hlen : text.length ≤ 16) (htext : ∀ b ∈ text, 0x20 ≤ b.toNat ∧ b.toNat ≤ 0x7E)
include hx hlen htext

theorem tagCommand_of_free (h : s.board.incident i = none) :
    tagCommand (hi :: lo :: text) d s = (s, .refused .closed) := by
  have hvalid : ¬(16 < text.length ∨ text.all printable = false) := by
    simp [all_printable_iff.2 htext, hlen]
  simp only [tagCommand, withIndex_of_eq hx, if_neg hvalid, h]

/-- R64: TAG of an incident, by the first line that applies. -/
theorem tagCommand_of_incident {x : Incident} (h : s.board.incident i = some x) :
    tagCommand (hi :: lo :: text) d s =
      if x.state = .closed then (s, .refused .closed)
      else if x.assigned.isSome ∧ x.assigned ≠ some d then (s, .refused .notHolder)
      else if x.assigned = none ∧ (s.board.desks[d]).onDuty = false then (s, .refused .offDuty)
      else
        let u := s.onBoard fun _ b => b.commit .command i { x with tag := if text = [] then none else some text }
        (u, .done (.change (u.board.change i))) := by
  have hvalid : ¬(16 < text.length ∨ text.all printable = false) := by
    simp [all_printable_iff.2 htext, hlen]
  simp only [tagCommand, withIndex_of_eq hx, if_neg hvalid, h, tagOf_eq]

end

theorem Board.tag_ne {i : IncidentId} {x : Incident} {b : Board} {tag : Option (List Byte)}
    (h : b.incident i = some x) (ht : x.tag ≠ tag) : b.incident i ≠ some { x with tag } := by
  rw [h]
  exact fun heq => ht (congrArg Incident.tag (Option.some.inj heq))

/-- R64: a new tag is written, and nothing else of the board changes. -/
theorem Board.commit_tag {i : IncidentId} {x : Incident} {b : Board} {tag : Option (List Byte)}
    (h : b.incident i = some x) (hs : x.state ≠ .closed) (ht : x.tag ≠ tag) :
    b.commit .command i { x with tag } =
      { b with incidents := b.incidents.put i ⟨(b.change i + 1) % 65536, some { x with tag }⟩ } := by
  have hstand : (b.incident i).bind Incident.standing = ({ x with tag } : Incident).standing := by
    rw [h, Option.bind_some]
    rfl
  have hopen : ({ x with tag } : Incident).state ≠ .closed := hs
  rw [Board.commit_of_standing (by decide) (Board.tag_ne h ht) hstand, Board.closeOut_of_not_closing fun hc => hopen hc.1]
  refine (if_neg (Board.tag_ne h ht)).trans ?_
  rw [Table.store, if_neg (by simp)]
  rfl

/-- Settles O29: the owner's lines, and one event that changes the tag alone. -/
theorem tagWritesCrewTag : Obligations.TagWritesCrewTag := by
  intro d hi lo text s hw
  refine ⟨fun hbad => answers_of_waits tagCommand rfl hw (tagCommand_of_invalid hbad), fun i hx hlen htext =>
    ⟨fun h => answers_of_waits tagCommand rfl hw (tagCommand_of_free hx hlen htext h), fun x h => ?_⟩⟩
  have lines := tagCommand_of_incident (d := d) hx hlen htext h
  have answers : ∀ {v}, tagCommand (hi :: lo :: text) d s = (s, v) → Answers (.tag d) d 0x25#8 v s := fun hv =>
    answers_of_waits tagCommand rfl hw hv
  refine ⟨fun hc => answers (lines.trans (if_pos hc)), fun hs => ⟨fun e he hd => answers ?_, fun ha hd => answers ?_,
    fun hd => ?_⟩⟩
  · rw [lines, if_neg hs, if_pos (by simp [he, hd])]
    rfl
  · rw [lines, if_neg hs, if_neg (by simp [ha]), if_pos ⟨ha, hd⟩]
    rfl
  · have hother : ¬(x.assigned.isSome = true ∧ x.assigned ≠ some d) := by
      rcases hd with hd | ⟨hd, -⟩ <;> simp [hd]
    have hduty : ¬(x.assigned = none ∧ (s.board.desks[d]).onDuty = false) := by
      rcases hd with hd | ⟨-, hd⟩ <;> simp [hd, -Fin.getElem_fin]
    rw [if_neg hs, if_neg hother, if_neg hduty] at lines
    refine ⟨fun ht => answers ?_, fun ht => ?_⟩
    · have hsame : s.board.incident i = some { x with tag := if text = [] then none else some text } := by
        rw [h, ← ht]
      rw [lines, State.onBoard, Board.commit_of_same hsame]
      rfl
    · have := does_of_waits (i := .tag d) tagCommand rfl hw
      rw [lines] at this
      dsimp only [State.onBoard] at this
      rw [Board.commit_change .command (Board.tag_ne h ht), Board.commit_tag h hs ht] at this
      exact this

end Sys2Proof.Machine
end

section
/-! SUPPORT. What each event of the incident table makes of one incident (R46 to R51, R54 to R58), said once. -/

namespace Sys2Proof.Machine

/-! ## Members and the worst condition (R47, R50) -/

theorem mem_insertMember {m n : Member} {l : List Member} : n ∈ insertMember m l ↔ n = m ∨ n ∈ l := by
  induction l with
  | nil => simp [insertMember]
  | cons x rest ih =>
    simp only [insertMember]
    split_ifs
    · rw [List.mem_cons, ih, List.mem_cons, or_left_comm]
    · exact List.mem_cons

@[simp] theorem length_insertMember (m : Member) (l : List Member) : (insertMember m l).length = l.length + 1 := by
  induction l with
  | nil => rfl
  | cons x rest ih =>
    simp only [insertMember]
    split_ifs
    · exact congrArg (· + 1) ih
    · rfl

/-- R47: a joining member stands after every member confirmed no later than it, and before the next. -/
theorem insertMember_split (m : Member) (l : List Member) : ∃ front rest, l = front ++ rest ∧
    insertMember m l = front ++ m :: rest ∧ (∀ n ∈ front, n.confirmedAt ≤ m.confirmedAt) ∧
    ∀ n ∈ rest.head?, m.confirmedAt < n.confirmedAt := by
  induction l with
  | nil => exact ⟨[], [], rfl, rfl, by simp, by simp⟩
  | cons x rest ih =>
    by_cases hx : x.confirmedAt ≤ m.confirmedAt
    · obtain ⟨front, tail, hl, hm, hfront, htail⟩ := ih
      refine ⟨x :: front, tail, congrArg (x :: ·) hl, ?_, List.forall_mem_cons.2 ⟨hx, hfront⟩, htail⟩
      rw [insertMember, if_pos hx, hm]
      rfl
    · exact ⟨[], x :: rest, rfl, if_neg hx, by simp, by simpa using hx⟩

theorem insertMember_sorted {m : Member} {l : List Member}
    (h : l.Pairwise fun n n' => n.confirmedAt ≤ n'.confirmedAt) :
    (insertMember m l).Pairwise fun n n' => n.confirmedAt ≤ n'.confirmedAt := by
  induction l with
  | nil => exact List.pairwise_singleton ..
  | cons x rest ih =>
    obtain ⟨hx, hrest⟩ := List.pairwise_cons.1 h
    simp only [insertMember]
    split_ifs with hle
    · refine List.pairwise_cons.2 ⟨fun n hn => ?_, ih hrest⟩
      rcases mem_insertMember.1 hn with rfl | hn
      · exact hle
      · exact hx n hn
    · refine List.pairwise_cons.2 ⟨fun n hn => ?_, h⟩
      rcases List.mem_cons.1 hn with rfl | hn
      · omega
      · exact (Nat.le_of_not_le hle).trans (hx n hn)

theorem worstMember_eq_none {l : List Member} : worstMember l = none ↔ l = [] := by
  cases l with
  | nil => simp [worstMember]
  | cons m rest =>
    simp only [worstMember, reduceCtorEq, iff_false]
    split
    · split_ifs <;> simp
    · simp

/-- R50: the worst member is the earliest of those with the highest condition weight. -/
theorem worstMember_split {l : List Member} {w : Member} (h : worstMember l = some w) : ∃ front rest,
    l = front ++ w :: rest ∧ (∀ m ∈ front, m.condition.weight < w.condition.weight) ∧
      ∀ m ∈ rest, m.condition.weight ≤ w.condition.weight := by
  induction l generalizing w with
  | nil => cases h
  | cons m rest ih =>
    simp only [worstMember] at h
    split at h
    · next v hv =>
      obtain ⟨front, tail, hl, hfront, htail⟩ := ih hv
      split_ifs at h with hlt <;> cases h
      · exact ⟨m :: front, tail, congrArg (m :: ·) hl, List.forall_mem_cons.2 ⟨hlt, hfront⟩, htail⟩
      · refine ⟨[], rest, rfl, by simp, fun n hn => ?_⟩
        rw [hl, List.mem_append, List.mem_cons] at hn
        rcases hn with hn | rfl | hn
        · have := hfront n hn
          omega
        · omega
        · have := htail n hn
          omega
    · next hn =>
      cases h
      rw [worstMember_eq_none.1 hn]
      exact ⟨[], [], rfl, by simp, by simp⟩

/-- R50: the count made again touches the worst condition and the class alone. -/
theorem recount_eq (x : Incident) : recount x = { x with
    worst := (worstMember x.members).map (·.condition)
    cls := ((worstMember x.members).map (·.kind.cls)).getD x.cls } := by
  unfold recount
  split
  · next h => rw [h]; rfl
  · next h => rw [h]; rfl

theorem recount_ranked {x : Incident} (h : x.members ≠ []) : (recount x).Ranked := by
  rw [recount_eq]
  obtain ⟨w, hw⟩ := Option.ne_none_iff_exists'.1 (mt worstMember_eq_none.1 h)
  obtain ⟨front, rest, hl, hfront, hrest⟩ := worstMember_split hw
  exact ⟨front, w, rest, hl, by rw [hw]; rfl, by rw [hw]; rfl, hfront, hrest⟩

theorem recount_of_nil {x : Incident} (h : x.members = []) : recount x = { x with worst := none } := by
  rw [recount_eq, h]
  rfl

/-! ## Reopening and the trip (R56 to R58) -/

theorem reopen_eq (x : Incident) : reopen x = { x with
    state := x.reopenedState
    restoredAt := if x.state = .restored then none else x.restoredAt
    closeDelay := if x.state = .restored then none else x.closeDelay } := by
  by_cases h : x.state = .restored
  · cases ha : x.assigned <;> simp [reopen, Incident.reopenedState, h, ha]
  · simp [reopen, Incident.reopenedState, h]

/-- R57, R58: a trip touches the mark, and where it moves the incident its group, decline set and state. -/
theorem checkTrip_eq (c : Setup) (k : CircuitId) (x : Incident) : checkTrip c k x = { x with
    tripped := (checkTrip c k x).tripped
    group := (checkTrip c k x).group
    declined := (checkTrip c k x).declined
    state := (checkTrip c k x).state } := by
  have : ∃ tripped group declined state, checkTrip c k x = { x with tripped, group, declined, state } := by
    dsimp only [checkTrip]
    split_ifs
    · split
      · split_ifs
        · exact ⟨_, _, _, _, rfl⟩
        · exact ⟨_, _, _, _, rfl⟩
      · exact ⟨_, _, _, _, rfl⟩
    · exact ⟨_, _, _, _, rfl⟩
  obtain ⟨tripped, group, declined, state, h⟩ := this
  rw [h]

/-- R57: the faults of the incident reach the circuit's trip number, for the first time. -/
def Trips (c : Setup) (k : CircuitId) (x : Incident) : Prop :=
  (c.active.circuit k).trip ≠ 0 ∧ x.tripped = false ∧ (c.active.circuit k).trip ≤ x.members.length + x.unrecorded

theorem checkTrip_of_not_trips {c : Setup} {k : CircuitId} {x : Incident} (h : ¬Trips c k x) : checkTrip c k x = x :=
  if_neg h

theorem checkTrip_of_stays {c : Setup} {k : CircuitId} {x : Incident} (h : Trips c k x)
    (hs : ∀ a, (c.active.circuit k).alternate = some a → groupOf a = x.group) :
    checkTrip c k x = { x with tripped := true } := by
  refine (if_pos h).trans ?_
  split
  · next a ha => exact if_neg fun hne => hne (hs a ha)
  · rfl

theorem checkTrip_of_moves {c : Setup} {k : CircuitId} {x : Incident} {a : Nat} (h : Trips c k x)
    (ha : (c.active.circuit k).alternate = some a) (hg : groupOf a ≠ x.group) :
    checkTrip c k x = moveGroup (groupOf a) { x with tripped := true } := by
  refine (if_pos h).trans ?_
  dsimp only
  rw [ha]
  exact if_pos hg

theorem checkTrip_tripped (c : Setup) (k : CircuitId) (x : Incident) : (checkTrip c k x).tripped = true ↔
    x.tripped = true ∨ Trips c k x := by
  by_cases h : Trips c k x
  · by_cases hs : ∀ a, (c.active.circuit k).alternate = some a → groupOf a = x.group
    · simp [checkTrip_of_stays h hs, h]
    · push Not at hs
      obtain ⟨a, ha, hg⟩ := hs
      simp [checkTrip_of_moves h ha hg, h, moveGroup]
  · simp [checkTrip_of_not_trips h, h]

theorem checkTrip_of_remains {c : Setup} {k : CircuitId} {x : Incident}
    (h : ¬Trips c k x ∨ ∀ a, (c.active.circuit k).alternate = some a → groupOf a = x.group) :
    (checkTrip c k x).group = x.group ∧ (checkTrip c k x).declined = x.declined ∧
      (checkTrip c k x).state = x.state := by
  by_cases ht : Trips c k x
  · rw [checkTrip_of_stays ht (h.resolve_left (not_not_intro ht))]
    exact ⟨rfl, rfl, rfl⟩
  · rw [checkTrip_of_not_trips ht]
    exact ⟨rfl, rfl, rfl⟩

/-- R56: `z` is `x` reopened, but perhaps for its members, count, worst condition, class and urgency. -/
structure Gathers (x z : Incident) : Prop where
  state   : z.state = x.reopenedState
  tripped : z.tripped = x.tripped
  place   : z.group = x.group ∧ z.declined = x.declined
  times   : z.restoredAt = (if x.state = .restored then none else x.restoredAt) ∧
    z.closeDelay = if x.state = .restored then none else x.closeDelay
  kept    : z.subject = x.subject ∧ z.assigned = x.assigned ∧ z.rounds = x.rounds ∧ z.openedAt = x.openedAt ∧
    z.closedAt = x.closedAt ∧ z.tag = x.tag

/-- R56 to R58: an incident reopened, with new members and a new count, and checked for the trip. -/
theorem Gathers.stirred {x z : Incident} (h : Gathers x z) (c : Setup) (k : CircuitId) :
    Stirred c k (z.members.length + z.unrecorded) x (reweigh c (checkTrip c k z)) := by
  have hcheck := checkTrip_eq c k z
  refine ⟨?_, fun a hx h0 hle ha hg => ?_, fun hs => ?_, ?_, ?_⟩
  · show (checkTrip c k z).tripped = true ↔ _
    rw [checkTrip_tripped, Trips, h.tripped]
    cases x.tripped <;> simp
  · show (checkTrip c k z).group = _ ∧ (checkTrip c k z).declined = _ ∧ (checkTrip c k z).state = _
    rw [checkTrip_of_moves ⟨h0, h.tripped.trans hx, hle⟩ ha (by rwa [h.place.1]), ← h.state]
    exact ⟨rfl, rfl, rfl⟩
  · have hremains : ¬Trips c k z ∨ ∀ a, (c.active.circuit k).alternate = some a → groupOf a = z.group := by
      rcases hs with hs | hs | hs | hs
      · exact .inl fun ht => Bool.false_ne_true (ht.2.1.symm.trans (h.tripped.trans hs))
      · exact .inl fun ht => ht.1 hs
      · exact .inl fun ht => absurd ht.2.2 (Nat.not_le.2 hs)
      · exact .inr (h.place.1 ▸ hs)
    obtain ⟨hgroup, hdeclined, hstate⟩ := checkTrip_of_remains hremains
    exact ⟨hgroup.trans h.place.1, hdeclined.trans h.place.2, hstate.trans h.state⟩
  · show (checkTrip c k z).restoredAt = _ ∧ (checkTrip c k z).closeDelay = _
    rw [hcheck]
    exact h.times
  · show (checkTrip c k z).subject = _ ∧ (checkTrip c k z).assigned = _ ∧ (checkTrip c k z).rounds = _ ∧
      (checkTrip c k z).openedAt = _ ∧ (checkTrip c k z).closedAt = _ ∧ (checkTrip c k z).tag = _
    rw [hcheck]
    exact h.kept

/-- The worst condition and the class of an incident rest on its members alone (R50). -/
theorem Incident.Ranked.congr {x y : Incident} (h : x.Ranked) (hm : y.members = x.members) (hw : y.worst = x.worst)
    (hc : y.cls = x.cls) : y.Ranked := by
  obtain ⟨front, w, rest, hl, hworst, hcls, hfront, hrest⟩ := h
  exact ⟨front, w, rest, hm.trans hl, hw.trans hworst, hc.trans hcls, hfront, hrest⟩

/-! ## Joins and counts of +1 (R46, R51) -/

/-- R46: the incident with a joining member in its place and its worst condition made again, before the trip check. -/
def Incident.withMember (m : Member) (x : Incident) : Incident :=
  recount { reopen x with members := insertMember m x.members }

/-- R51: the incident with one fault more counted, before the trip check. -/
def Incident.withCount (x : Incident) : Incident := { reopen x with unrecorded := x.unrecorded + 1 }

theorem Incident.withMember_gathers (m : Member) (x : Incident) : Gathers x (x.withMember m) := by
  unfold Incident.withMember
  rw [recount_eq, reopen_eq]
  exact ⟨rfl, rfl, ⟨rfl, rfl⟩, ⟨rfl, rfl⟩, rfl, rfl, rfl, rfl, rfl, rfl⟩

theorem Incident.withCount_gathers (x : Incident) : Gathers x x.withCount := by
  unfold Incident.withCount
  rw [reopen_eq]
  exact ⟨rfl, rfl, ⟨rfl, rfl⟩, ⟨rfl, rfl⟩, rfl, rfl, rfl, rfl, rfl, rfl⟩

theorem Incident.withMember_members (m : Member) (x : Incident) : (x.withMember m).members = insertMember m x.members ∧
    (x.withMember m).unrecorded = x.unrecorded := by
  unfold Incident.withMember
  rw [recount_eq, reopen_eq]
  exact ⟨rfl, rfl⟩

theorem Incident.withMember_ranked (m : Member) (x : Incident) : (x.withMember m).Ranked :=
  recount_ranked fun h => by simpa using congrArg List.length h

theorem Incident.withCount_frame (x : Incident) : x.withCount.members = x.members ∧
    x.withCount.unrecorded = x.unrecorded + 1 ∧ x.withCount.worst = x.worst ∧ x.withCount.cls = x.cls := by
  unfold Incident.withCount
  rw [reopen_eq]
  exact ⟨rfl, rfl, rfl, rfl⟩

theorem joined_eq (c : Setup) (k : CircuitId) (m : Member) (x : Incident) :
    joined c k m x = reweigh c (checkTrip c k (x.withMember m)) := by
  simp only [joined, Incident.withMember, reopen_eq]

/-- R51: a count of +1 below the top. -/
theorem counted_eq (c : Setup) (k : CircuitId) {x : Incident} (h : x.unrecorded < 65535) :
    counted c k x = reweigh c (checkTrip c k x.withCount) := by
  simp only [counted, Incident.withCount, reopen_eq, if_neg (Nat.not_le.2 h)]

theorem counted_of_top {c : Setup} {k : CircuitId} {x : Incident} (h : 65535 ≤ x.unrecorded) : counted c k x = x :=
  if_pos h

/-- The fields of an incident that a trip check, and the urgency computed after it, leave as they were. -/
theorem reweigh_checkTrip_frame (c : Setup) (k : CircuitId) (z : Incident) :
    let y := reweigh c (checkTrip c k z)
    y.members = z.members ∧ y.unrecorded = z.unrecorded ∧ y.worst = z.worst ∧ y.cls = z.cls := by
  dsimp only [reweigh]
  rw [checkTrip_eq]
  exact ⟨rfl, rfl, rfl, rfl⟩

theorem joined_members (c : Setup) (k : CircuitId) (m : Member) (x : Incident) :
    (joined c k m x).members = insertMember m x.members ∧ (joined c k m x).unrecorded = x.unrecorded := by
  obtain ⟨hm, hu, -, -⟩ := reweigh_checkTrip_frame c k (x.withMember m)
  rw [joined_eq]
  exact ⟨hm.trans (x.withMember_members m).1, hu.trans (x.withMember_members m).2⟩

theorem joined_ranked (c : Setup) (k : CircuitId) (m : Member) (x : Incident) : (joined c k m x).Ranked := by
  obtain ⟨hm, -, hw, hc⟩ := reweigh_checkTrip_frame c k (x.withMember m)
  rw [joined_eq]
  exact (x.withMember_ranked m).congr hm hw hc

theorem joined_urgency (c : Setup) (k : CircuitId) (m : Member) (x : Incident) :
    (joined c k m x).urgency = urgencyOf (urgencyInputs c (joined c k m x)) := by
  rw [joined_eq]
  rfl

theorem joined_stirred (c : Setup) (k : CircuitId) (m : Member) (x : Incident) :
    Stirred c k (x.members.length + 1 + x.unrecorded) x (joined c k m x) := by
  have := (x.withMember_gathers m).stirred c k
  rwa [(x.withMember_members m).1, (x.withMember_members m).2, length_insertMember, ← joined_eq] at this

theorem counted_frame (c : Setup) (k : CircuitId) {x : Incident} (h : x.unrecorded < 65535) :
    let y := counted c k x
    y.unrecorded = x.unrecorded + 1 ∧ y.members = x.members ∧ y.worst = x.worst ∧ y.cls = x.cls ∧
      y.urgency = urgencyOf (urgencyInputs c y) := by
  obtain ⟨hm, hu, hw, hc⟩ := reweigh_checkTrip_frame c k x.withCount
  obtain ⟨hm', hu', hw', hc'⟩ := x.withCount_frame
  rw [counted_eq c k h]
  exact ⟨hu.trans hu', hm.trans hm', hw.trans hw', hc.trans hc', rfl⟩

theorem counted_stirred (c : Setup) (k : CircuitId) {x : Incident} (h : x.unrecorded < 65535) :
    Stirred c k (x.members.length + (x.unrecorded + 1)) x (counted c k x) := by
  have := x.withCount_gathers.stirred c k
  rwa [x.withCount_frame.1, x.withCount_frame.2.1, ← counted_eq c k h] at this

/-- A new circuit incident, joined or counted on, keeps its subject and the time at which it is opened. -/
theorem Stirred.opened {c : Setup} {k : CircuitId} {n : Nat} {x y : Incident} (h : Stirred c k n x y) :
    y.subject = x.subject ∧ y.openedAt = x.openedAt := by
  obtain ⟨hsubject, -, -, hopened, -⟩ := h.kept
  exact ⟨hsubject, hopened⟩

/-! ## Changes of condition, leaves and counts of -1 (R48, R49, R51) -/

theorem conditionChanged_cases (c : Setup) (asset : Nat) (condition : Condition) (x : Incident) :
    let j := recount (updMember asset (fun m => { m with condition }) x)
    (j.worst = x.worst ∧ j.cls = x.cls ∧ conditionChanged c asset condition x = j) ∨
      ((j.worst ≠ x.worst ∨ j.cls ≠ x.cls) ∧ conditionChanged c asset condition x = reweigh c j) := by
  dsimp only [conditionChanged]
  split_ifs with h
  · exact .inl ⟨h.1, h.2, rfl⟩
  · exact .inr ⟨not_and_or.1 h, rfl⟩

theorem restoreNow_of_ne {c : Setup} (h : c.active.params.closeDelay ≠ 0) (x : Incident) : restoreNow c x = { x with
    state := .restored, restoredAt := some c.time, closeDelay := some (c.time + c.active.params.closeDelay)
    urgency := urgencyOf (urgencyInputs c x) } := if_neg h

theorem restoreNow_of_zero {c : Setup} (h : c.active.params.closeDelay = 0) (x : Incident) : restoreNow c x = { x with
    state := .closed, restoredAt := some c.time, closeDelay := none, closedAt := some c.time
    urgency := urgencyOf (urgencyInputs c x) } := if_pos h

/-- R49: what a change of condition leaves of an incident as it was, and when the urgency is computed. -/
theorem conditionChanged_frame (c : Setup) (asset : Nat) (condition : Condition) (x : Incident) :
    let y := conditionChanged c asset condition x
    y.members = (x.members.map fun m => if m.asset = asset then { m with condition } else m) ∧
    (x.members ≠ [] → y.Ranked) ∧
    (y.worst = x.worst → y.cls = x.cls → y.urgency = x.urgency) ∧
    (y.worst ≠ x.worst ∨ y.cls ≠ x.cls → y.urgency = urgencyOf (urgencyInputs c y)) ∧
    { y with members := x.members, worst := x.worst, cls := x.cls, urgency := x.urgency } = x := by
  have frame : ∀ j : Incident, j = recount (updMember asset (fun m => { m with condition }) x) →
      j.members = (x.members.map fun m => if m.asset = asset then { m with condition } else m) ∧
      (x.members ≠ [] → j.Ranked) ∧ j.urgency = x.urgency ∧
      { j with members := x.members, worst := x.worst, cls := x.cls, urgency := x.urgency } = x := by
    rintro j rfl
    refine ⟨by rw [recount_eq]; rfl, fun hne => recount_ranked fun h => hne (List.map_eq_nil_iff.1 h),
      by rw [recount_eq]; rfl, by rw [recount_eq]; rfl⟩
  obtain ⟨hm, hr, hu, hx⟩ := frame _ rfl
  rcases conditionChanged_cases c asset condition x with ⟨hw, hc, h⟩ | ⟨hne, h⟩
  · rw [h]
    exact ⟨hm, hr, fun _ _ => hu, fun hne => absurd ⟨hw, hc⟩ (not_and_or.2 hne), hx⟩
  · rw [h]
    exact ⟨hm, fun hl => (hr hl).congr rfl rfl rfl, fun hw hc => absurd ⟨hw, hc⟩ (not_and_or.2 hne), fun _ => rfl, hx⟩

/-- R48: the incident without a member, before its urgency is computed. -/
def Incident.withoutMember (asset : Nat) (x : Incident) : Incident :=
  recount { x with members := x.members.filter fun m => decide (m.asset ≠ asset) }

/-- R48: a leave that takes the last fault of a circuit incident at fault. -/
def Incident.EmptiedBy (asset : Nat) (x : Incident) : Prop :=
  x.isCircuit = true ∧ x.atFault = true ∧ (x.members.filter fun m => decide (m.asset ≠ asset)) = [] ∧ x.unrecorded = 0

theorem left_of_emptied {c : Setup} {asset : Nat} {x : Incident} (h : x.EmptiedBy asset) :
    left c asset x = restoreNow c (x.withoutMember asset) := by
  obtain ⟨hcirc, hfault, hrest, hu⟩ := h
  refine if_pos ?_
  simp only [Bool.and_eq_true, Bool.not_eq_true', Incident.hasFaults, hrest, hu]
  exact ⟨⟨hcirc, hfault⟩, rfl⟩

theorem left_of_not_emptied {c : Setup} {asset : Nat} {x : Incident} (h : ¬x.EmptiedBy asset) :
    left c asset x = reweigh c (x.withoutMember asset) := by
  refine if_neg fun hc => h ?_
  simp only [Bool.and_eq_true, Bool.not_eq_true', Incident.hasFaults, Bool.or_eq_false_iff, Bool.not_eq_false', List.isEmpty_iff,
    decide_eq_false_iff_not, Nat.pos_iff_ne_zero, not_not] at hc
  obtain ⟨⟨hcirc, hfault⟩, hrest, hu⟩ := hc
  exact ⟨hcirc, hfault, hrest, hu⟩

theorem Incident.withoutMember_eq (asset : Nat) (x : Incident) : x.withoutMember asset = { x with
    members := x.members.filter fun m => decide (m.asset ≠ asset)
    worst := (x.withoutMember asset).worst, cls := (x.withoutMember asset).cls } := by
  unfold Incident.withoutMember
  rw [recount_eq]

theorem restoreNow_urgency (c : Setup) (x : Incident) :
    (restoreNow c x).urgency = urgencyOf (urgencyInputs c (restoreNow c x)) := by
  by_cases h : c.active.params.closeDelay = 0
  · rw [restoreNow_of_zero h]
    rfl
  · rw [restoreNow_of_ne h]
    rfl

/-- What the end of a subject's fault leaves of its incident as it was. -/
theorem restoreNow_frame (c : Setup) (x : Incident) :
    let y := restoreNow c x
    y.members = x.members ∧ y.unrecorded = x.unrecorded ∧ y.group = x.group ∧ y.assigned = x.assigned ∧
      y.tripped = x.tripped ∧ y.worst = x.worst ∧ y.cls = x.cls := by
  by_cases h : c.active.params.closeDelay = 0
  · rw [restoreNow_of_zero h]
    exact ⟨rfl, rfl, rfl, rfl, rfl, rfl, rfl⟩
  · rw [restoreNow_of_ne h]
    exact ⟨rfl, rfl, rfl, rfl, rfl, rfl, rfl⟩

/-- R48: whatever else a leave does, it takes the member and makes the worst condition again. -/
theorem left_frame (c : Setup) (asset : Nat) (x : Incident) :
    let y := left c asset x
    let z := x.withoutMember asset
    y.members = z.members ∧ y.unrecorded = z.unrecorded ∧ y.group = z.group ∧ y.assigned = z.assigned ∧
      y.tripped = z.tripped ∧ y.worst = z.worst ∧ y.cls = z.cls ∧ y.urgency = urgencyOf (urgencyInputs c y) := by
  by_cases h : x.EmptiedBy asset
  · rw [left_of_emptied h]
    obtain ⟨hm, hu, hg, ha, ht, hw, hc⟩ := restoreNow_frame c (x.withoutMember asset)
    exact ⟨hm, hu, hg, ha, ht, hw, hc, restoreNow_urgency ..⟩
  · rw [left_of_not_emptied h]
    exact ⟨rfl, rfl, rfl, rfl, rfl, rfl, rfl, rfl⟩

theorem Incident.withoutMember_ranked {asset : Nat} {x : Incident}
    (h : (x.members.filter fun m => decide (m.asset ≠ asset)) ≠ []) : (x.withoutMember asset).Ranked :=
  recount_ranked h

theorem Incident.withoutMember_of_nil {asset : Nat} {x : Incident}
    (h : (x.members.filter fun m => decide (m.asset ≠ asset)) = []) :
    (x.withoutMember asset).worst = none ∧ (x.withoutMember asset).cls = x.cls := by
  unfold Incident.withoutMember
  rw [recount_of_nil h]
  exact ⟨rfl, rfl⟩

/-- R51: the incident with one fault fewer counted. -/
def Incident.lessCount (x : Incident) : Incident := { x with unrecorded := x.unrecorded - 1 }

theorem uncounted_of_idle {c : Setup} {x : Incident} (h : x.atFault = false ∨ x.unrecorded = 0) : uncounted c x = x := by
  refine if_neg fun hc => ?_
  simp only [Bool.and_eq_true, decide_eq_true_eq] at hc
  rcases h with h | h
  · exact Bool.false_ne_true (h.symm.trans hc.1)
  · omega

theorem uncounted_of_more {c : Setup} {x : Incident} (hf : x.atFault = true) (h : x.members ≠ [] ∨ 1 < x.unrecorded)
    (hu : 0 < x.unrecorded) : uncounted c x = reweigh c x.lessCount := by
  have hmore : x.lessCount.hasFaults = true := Incident.hasFaults_iff.2 (h.imp_right fun h => by
    show 0 < x.unrecorded - 1
    omega)
  exact (if_pos (by simp [hf, hu])).trans (if_pos hmore)

theorem uncounted_of_last {c : Setup} {x : Incident} (hf : x.atFault = true) (hm : x.members = [])
    (hu : x.unrecorded = 1) : uncounted c x = restoreNow c x.lessCount := by
  have hlast : ¬x.lessCount.hasFaults = true := fun h => by
    rcases Incident.hasFaults_iff.1 h with h | h
    · exact h hm
    · have : 0 < x.unrecorded - 1 := h
      omega
  exact (if_pos (by simp [hf, hu])).trans (if_neg hlast)

end Sys2Proof.Machine
end

section
/-! SUPPORT. Which record of the incident table an event acts on: the live incident of a subject, and the record a new
incident takes (R44, R45). -/

namespace Sys2Proof.Machine

/-! ## Entries and lookups -/

theorem mem_of_lookupEntry {n : Nat} {α : Type} {i : Fin n} {x : α} {l : List (Fin n × α)}
    (h : lookupEntry i l = some x) : (i, x) ∈ l := by
  induction l with
  | nil => cases h
  | cons e rest ih =>
    obtain ⟨j, y⟩ := e
    simp only [lookupEntry] at h
    split_ifs at h with hji
    · cases h
      exact hji ▸ List.mem_cons_self
    · exact .tail _ (ih h)

/-- An incident is listed. -/
theorem Board.mem_of_incident {b : Board} {i : IncidentId} {x : Incident} (h : b.incident i = some x) :
    ∃ r : IncidentRecord, r.body = some x ∧ (i, r) ∈ b.incidents.entries := by
  cases hf : b.incidents.find i with
  | none => simp [Board.incident, Board.record, Table.get, hf] at h
  | some r =>
    refine ⟨r, ?_, mem_of_lookupEntry hf⟩
    simpa [Board.incident, Board.record, Table.get, hf] using h

/-- Entries with their keys rising. -/
theorem pairwise_of_risingKeys {n : Nat} {α : Type} {l : List (Fin n × α)} (h : risingKeys l = true) :
    l.Pairwise fun e f => e.1 < f.1 := by
  induction l with
  | nil => exact List.Pairwise.nil
  | cons e rest ih =>
    simp only [risingKeys, Bool.and_eq_true, List.all_eq_true, decide_eq_true_eq] at h
    exact List.pairwise_cons.2 ⟨h.1, ih h.2⟩

/-! ## The live incident of a subject (R44) -/

theorem Board.liveOf_spec {b : Board} (hr : b.incidents.rising = true) {subject : Subject} {i : IncidentId}
    {x : Incident} (h : b.liveOf subject = some (i, x)) :
    b.incident i = some x ∧ x.subject = subject ∧ x.live = true := by
  obtain ⟨e, hm, he⟩ := List.exists_of_findSome?_eq_some h
  split at he
  · next y hy =>
    split_ifs at he with hc
    cases he
    exact ⟨(Board.incident_of_mem hr hm).trans hy, hc⟩
  · cases he

theorem Board.liveOf_eq_none {b : Board} {subject : Subject} (h : b.liveOf subject = none) {i : IncidentId}
    {x : Incident} (hx : b.incident i = some x) (hl : x.live = true) : x.subject ≠ subject := by
  obtain ⟨r, hr, hm⟩ := Board.mem_of_incident hx
  intro hs
  have := List.findSome?_eq_none_iff.1 h (i, r) hm
  rw [hr] at this
  exact absurd this (by simp [hs, hl])

/-- R44: where no subject has two live incidents, the live incident of a subject is the one found. -/
theorem Board.Arranged.liveOf_iff {b : Board} (h : b.Arranged) {subject : Subject} {i : IncidentId} {x : Incident} :
    b.liveOf subject = some (i, x) ↔ b.incident i = some x ∧ x.subject = subject ∧ x.live = true := by
  refine ⟨Board.liveOf_spec h.rising, fun ⟨hx, hs, hl⟩ => ?_⟩
  cases hf : b.liveOf subject with
  | none => exact absurd hs (Board.liveOf_eq_none hf hx hl)
  | some p =>
    obtain ⟨j, y⟩ := p
    obtain ⟨hy, hys, hyl⟩ := Board.liveOf_spec h.rising hf
    obtain rfl := h.single i j x y hx hy hl hyl (hs.trans hys.symm)
    rw [hx] at hy
    cases hy
    rfl

/-! ## The lowest FREE index (R45) -/

theorem le_of_mem_finsFrom {n fuel i : Nat} {k : Fin n} (h : k ∈ finsFrom n fuel i) : i ≤ k.val := by
  induction fuel generalizing i with
  | zero => cases h
  | succ fuel ih =>
    unfold finsFrom at h
    split_ifs at h
    · rcases List.mem_cons.1 h with rfl | h
      · exact le_rfl
      · exact (Nat.le_succ i).trans (ih h)
    · cases h

theorem finsFrom_pairwise (n fuel i : Nat) : (finsFrom n fuel i).Pairwise (· < ·) := by
  induction fuel generalizing i with
  | zero => exact List.Pairwise.nil
  | succ fuel ih =>
    unfold finsFrom
    split_ifs
    · exact List.pairwise_cons.2 ⟨fun k hk => le_of_mem_finsFrom hk, ih (i + 1)⟩
    · exact List.Pairwise.nil

theorem find?_fins_spec {n : Nat} {p : Fin n → Bool} {i : Fin n} (h : (fins n).find? p = some i) :
    p i = true ∧ ∀ j < i, p j = false := by
  obtain ⟨hp, front, rest, hl, hfront⟩ := List.find?_eq_some_iff_append.1 h
  refine ⟨hp, fun j hj => ?_⟩
  have hsorted : (fins n).Pairwise (· < ·) := finsFrom_pairwise n n 0
  rw [hl, List.pairwise_append] at hsorted
  obtain ⟨-, hrest, -⟩ := hsorted
  have hmem : j ∈ front ++ i :: rest := hl ▸ mem_fins j
  rcases List.mem_append.1 hmem with hm | hm
  · simpa using hfront j hm
  · rcases List.mem_cons.1 hm with rfl | hm
    · exact absurd hj (lt_irrefl _)
    · exact absurd hj ((List.pairwise_cons.1 hrest).1 j hm).asymm

/-- The first number below `n` of which something holds. -/
theorem find?_fins_eq_some {n : Nat} {p : Fin n → Bool} {i : Fin n} :
    (fins n).find? p = some i ↔ p i = true ∧ ∀ j < i, p j = false := by
  refine ⟨find?_fins_spec, fun ⟨hp, hlow⟩ => ?_⟩
  cases hf : (fins n).find? p with
  | none => exact absurd hp (by simpa using List.find?_eq_none.1 hf i (mem_fins i))
  | some j =>
    obtain ⟨hpj, hlowj⟩ := find?_fins_spec hf
    rcases lt_trichotomy i j with hij | rfl | hji
    · exact absurd hp (by simp [hlowj i hij])
    · rfl
    · exact absurd hpj (by simp [hlow j hji])

theorem Board.lowestFree_eq_some {b : Board} {i : IncidentId} :
    b.lowestFree = some i ↔ b.incident i = none ∧ ∀ j < i, b.incident j ≠ none := by
  unfold Board.lowestFree
  rw [find?_fins_eq_some]
  simp only [Option.isNone_iff_eq_none, Option.isNone_eq_false_iff, Option.isSome_iff_ne_none]

theorem Board.lowestFree_eq_none {b : Board} : b.lowestFree = none ↔ ∀ j, b.incident j ≠ none := by
  unfold Board.lowestFree
  simp only [List.find?_eq_none, Option.isNone_iff_eq_none]
  exact ⟨fun h j => h j (mem_fins j), fun h j _ => h j⟩

/-! ## The oldest CLOSED record (R45) -/

/-- The time at which the incident of an entry was closed, if it is CLOSED. -/
def closedTime (e : IncidentId × IncidentRecord) : Option Nat :=
  match e.2.body with
  | some x => if x.state = .closed then some (x.closedAt.getD 0) else none
  | none => none

theorem closedTime_eq_some {e : IncidentId × IncidentRecord} {t : Nat} : closedTime e = some t ↔
    ∃ x, e.2.body = some x ∧ x.state = .closed ∧ x.closedAt.getD 0 = t := by
  unfold closedTime
  cases e.2.body with
  | none => simp
  | some x =>
    dsimp only
    split_ifs with h <;> simp [h]

theorem olderClosed_of_none {e : IncidentId × IncidentRecord} (h : closedTime e = none)
    (best : Option (IncidentId × Nat)) : olderClosed best e = best := by
  unfold closedTime at h
  unfold olderClosed
  split
  · next x hx =>
    rw [hx] at h
    dsimp only at h
    split_ifs at h with hc
    exact if_neg hc
  · rfl

theorem olderClosed_of_some {e : IncidentId × IncidentRecord} {t : Nat} (h : closedTime e = some t)
    (best : Option (IncidentId × Nat)) : olderClosed best e =
      match best with
      | some (i, u) => if t < u then some (e.1, t) else some (i, u)
      | none => some (e.1, t) := by
  obtain ⟨x, hx, hc, rfl⟩ := closedTime_eq_some.1 h
  unfold olderClosed
  simp only [hx, hc, if_true]
  rcases best with _ | ⟨i, u⟩ <;> rfl

/-- The oldest CLOSED entry of a list, the first on a tie. -/
def IsOldest (l : List (IncidentId × IncidentRecord)) (i : IncidentId) (t : Nat) : Prop :=
  (∃ e ∈ l, e.1 = i ∧ closedTime e = some t) ∧ ∀ e ∈ l, ∀ u, closedTime e = some u → t < u ∨ (t = u ∧ i ≤ e.1)

theorem foldl_olderClosed (l : List (IncidentId × IncidentRecord)) (hl : l.Pairwise fun e f => e.1 < f.1) :
    (l.foldl olderClosed none = none ∧ ∀ e ∈ l, closedTime e = none) ∨
      ∃ i t, l.foldl olderClosed none = some (i, t) ∧ IsOldest l i t := by
  induction l using List.reverseRecOn with
  | nil => exact .inl ⟨rfl, by simp⟩
  | append_singleton l e ih =>
    obtain ⟨hl, -, hle⟩ := List.pairwise_append.1 hl
    have hlast : ∀ f ∈ l, f.1 < e.1 := fun f hf => hle f hf e (List.mem_singleton_self e)
    have hmem : ∀ {f}, f ∈ l ++ [e] ↔ f ∈ l ∨ f = e := by simp
    rw [List.foldl_append, List.foldl_cons, List.foldl_nil]
    cases he : closedTime e with
    | none =>
      rw [olderClosed_of_none he]
      refine (ih hl).imp (fun ⟨hf, hn⟩ => ⟨hf, fun f hfm => ?_⟩) fun ⟨i, t, hf, ⟨g, hg, hgi⟩, hmin⟩ =>
        ⟨i, t, hf, ⟨g, hmem.2 (.inl hg), hgi⟩, fun f hfm u hu => ?_⟩
      · rcases hmem.1 hfm with h | rfl
        · exact hn f h
        · exact he
      · rcases hmem.1 hfm with h | rfl
        · exact hmin f h u hu
        · cases he.symm.trans hu
    | some t =>
      rw [olderClosed_of_some he]
      rcases ih hl with ⟨hf, hn⟩ | ⟨i, u, hf, ⟨g, hg, hgi, hgu⟩, hmin⟩
      · refine .inr ⟨e.1, t, by rw [hf], ⟨e, hmem.2 (.inr rfl), rfl, he⟩, fun f hfm v hv => ?_⟩
        rcases hmem.1 hfm with h | rfl
        · cases (hn f h).symm.trans hv
        · cases he.symm.trans hv
          exact .inr ⟨rfl, le_rfl⟩
      · rw [hf]
        dsimp only
        split_ifs with htu
        · refine .inr ⟨e.1, t, rfl, ⟨e, hmem.2 (.inr rfl), rfl, he⟩, fun f hfm v hv => ?_⟩
          rcases hmem.1 hfm with h | rfl
          · rcases hmin f h v hv with hlt | ⟨rfl, -⟩
            · exact .inl (htu.trans hlt)
            · exact .inl htu
          · cases he.symm.trans hv
            exact .inr ⟨rfl, le_rfl⟩
        · refine .inr ⟨i, u, rfl, ⟨g, hmem.2 (.inl hg), hgi, hgu⟩, fun f hfm v hv => ?_⟩
          rcases hmem.1 hfm with h | rfl
          · exact hmin f h v hv
          · cases he.symm.trans hv
            exact (Nat.lt_or_eq_of_le (Nat.le_of_not_lt htu)).imp_right fun hut => ⟨hut, hgi ▸ (hlast g hg).le⟩

/-- R45: the index is that of the CLOSED incident closed longest ago, the lowest index on a tie. -/
def Board.OldestClosed (b : Board) (i : IncidentId) : Prop :=
  ∃ x, b.incident i = some x ∧ x.state = .closed ∧ ∀ j y, b.incident j = some y → y.state = .closed → j ≠ i →
    x.closedAt.getD 0 < y.closedAt.getD 0 ∨ (x.closedAt.getD 0 = y.closedAt.getD 0 ∧ i < j)

theorem Board.oldestClosed_of_isOldest {b : Board} (hr : b.incidents.rising = true) {i : IncidentId} {t : Nat}
    (h : IsOldest b.incidents.entries i t) : b.OldestClosed i := by
  obtain ⟨⟨e, he, rfl, hclosed⟩, hmin⟩ := h
  obtain ⟨x, hx, hs, rfl⟩ := closedTime_eq_some.1 hclosed
  refine ⟨x, (Board.incident_of_mem hr he).trans hx, hs, fun j y hy hys hne => ?_⟩
  obtain ⟨r, hry, hm⟩ := Board.mem_of_incident hy
  refine (hmin (j, r) hm _ (closedTime_eq_some.2 ⟨y, hry, hys, rfl⟩)).imp_right fun ⟨ht, hle⟩ => ⟨ht, ?_⟩
  exact lt_of_le_of_ne hle (Ne.symm hne)

theorem Board.OldestClosed.index_eq {b : Board} {i j : IncidentId} (hi : b.OldestClosed i) (hj : b.OldestClosed j) :
    i = j := by
  obtain ⟨x, hx, hxs, hxmin⟩ := hi
  obtain ⟨y, hy, hys, hymin⟩ := hj
  by_contra hne
  rcases hxmin j y hy hys (Ne.symm hne) with h | ⟨h, hij⟩
  · rcases hymin i x hx hxs hne with h' | ⟨h', -⟩ <;> omega
  · rcases hymin i x hx hxs hne with h' | ⟨-, hji⟩
    · omega
    · exact absurd hij hji.asymm

/-- R45: a new incident takes the lowest FREE record or, if none is FREE, the oldest CLOSED one. -/
theorem Board.freshRecord_eq_some {b : Board} (hr : b.incidents.rising = true) {i : IncidentId} :
    b.freshRecord = some i ↔ (b.incident i = none ∧ ∀ j, j < i → b.incident j ≠ none) ∨
      ((∀ j, b.incident j ≠ none) ∧ b.OldestClosed i) := by
  unfold Board.freshRecord
  cases hf : b.lowestFree with
  | some k =>
    dsimp only
    obtain ⟨hk, -⟩ := Board.lowestFree_eq_some.1 hf
    rw [← hf, Board.lowestFree_eq_some, or_iff_left fun h => h.1 k hk]
  | none =>
    dsimp only
    have hfull := Board.lowestFree_eq_none.1 hf
    rw [or_iff_right fun h => hfull i h.1, and_iff_right hfull]
    rcases foldl_olderClosed _ (pairwise_of_risingKeys hr) with ⟨hnone, hno⟩ | ⟨k, t, hsome, hold⟩
    · rw [hnone]
      refine ⟨fun h => (by cases h), fun ⟨x, hx, hxs, _⟩ => ?_⟩
      obtain ⟨r, hrx, hm⟩ := Board.mem_of_incident hx
      cases (hno _ hm).symm.trans (closedTime_eq_some.2 ⟨x, hrx, hxs, rfl⟩)
    · have hk := Board.oldestClosed_of_isOldest hr hold
      rw [hsome, Option.map_some, Option.some.injEq]
      exact ⟨fun h => h ▸ hk, hk.index_eq⟩

/-- R44: the record that a new incident takes holds no live incident. -/
theorem Board.freshRecord_not_live {b : Board} (hr : b.incidents.rising = true) {i : IncidentId}
    (h : b.freshRecord = some i) {x : Incident} (hx : b.incident i = some x) : x.state = .closed := by
  rcases (Board.freshRecord_eq_some hr).1 h with ⟨hn, -⟩ | ⟨-, y, hy, hs, -⟩
  · cases hn.symm.trans hx
  · cases hy.symm.trans hx
    exact hs

end Sys2Proof.Machine
end

section
/-! PROOFS. What the handoffs, the counts and the faults of stations and trunks make of the incident table (R45 to R58). -/

namespace Sys2Proof.Machine

/-! ## Opening (R45, R75) -/

theorem newIncident_circuit (c : Setup) (k : CircuitId) (cls : Cls) :
    newIncident c (.circuit k) cls none = circuitOpened c k cls := rfl

/-- R75: a circuit incident opened, with the aging schedule that the circuit's step gives it. -/
theorem Board.openAt_circuit {c : Setup} {k : CircuitId} {i : IncidentId} {new : Incident} {b : Board}
    (hs : new.subject = .circuit k) (ho : new.openedAt = c.time) : b.openAt c i new =
      let tau := (c.active.circuit k).tau
      let b' := b.commit .table i new
      { b' with aging := if tau = 0 then b'.aging.erase i else b'.aging.put i ⟨c.time + 60 * tau, 1⟩ } := by
  unfold Board.openAt
  rw [hs, ho]
  by_cases ht : (c.active.circuit k).tau = 0 <;>
    simp [boundaryAfter, tauOf, ht, Board.setAging, boundaryAt]

/-! ## Joins, leaves and counts on the board (R46, R48, R49, R51) -/

section

variable {c : Setup} {k : CircuitId} {b : Board}

theorem Board.join_of_live {i : IncidentId} {x : Incident} (m : Member) (h : b.liveOf (.circuit k) = some (i, x)) :
    b.join c k m = (some i, b.commit .table i (joined c k m x)) := by simp only [Board.join, h]

theorem Board.join_of_fresh {i : IncidentId} (m : Member) (h : b.liveOf (.circuit k) = none)
    (hf : b.freshRecord = some i) : b.join c k m =
      (some i, b.openAt c i (joined c k m (circuitOpened c k m.kind.cls))) := by
  simp only [Board.join, h, hf, newIncident_circuit]

theorem Board.countUp_of_live {i : IncidentId} {x : Incident} (kind : Kind) (h : b.liveOf (.circuit k) = some (i, x)) :
    b.countUp c k kind = b.commit .table i (counted c k x) := by simp only [Board.countUp, h]

theorem Board.countUp_of_fresh {i : IncidentId} (kind : Kind) (h : b.liveOf (.circuit k) = none)
    (hf : b.freshRecord = some i) :
    b.countUp c k kind = b.openAt c i (counted c k (circuitOpened c k kind.cls)) := by
  simp only [Board.countUp, h, hf, newIncident_circuit]

theorem Board.countDown_of_live {i : IncidentId} {x : Incident} (h : b.liveOf (.circuit k) = some (i, x)) :
    b.countDown c k = b.commit .table i (uncounted c x) := by simp only [Board.countDown, h]

theorem Board.countDown_of_none (h : b.liveOf (.circuit k) = none) : b.countDown c k = b := by
  simp only [Board.countDown, h]

end

/-! ## Faults of stations and trunks (R52, R53) -/

section

variable {c : Setup} {subject : Subject} {worst : Condition} {b : Board}

theorem infraOpened_newIncident (c : Setup) (subject : Subject) (worst : Condition) :
    InfraOpened c subject worst (reweigh c (newIncident c subject .infra (some worst))) :=
  ⟨rfl, rfl, rfl, rfl, rfl, rfl, rfl, ⟨rfl, rfl⟩, ⟨rfl, rfl, rfl⟩, ⟨rfl, rfl, rfl⟩, rfl, rfl⟩

theorem Board.faultOf_of_fresh {i : IncidentId} (h : b.liveOf subject = none) (hf : b.freshRecord = some i) :
    b.faultOf c subject worst = b.openAt c i (reweigh c (newIncident c subject .infra (some worst))) := by
  simp only [Board.faultOf, h, hf]

theorem Board.faultOf_of_live {i : IncidentId} {x : Incident} (h : b.liveOf subject = some (i, x)) :
    b.faultOf c subject worst = if x.state = .restored then b.commit .table i (reweigh c (reopen x)) else b := by
  simp only [Board.faultOf, h]

theorem Board.restoreOf_of_none (h : b.liveOf subject = none) : b.restoreOf c subject = b := by
  simp only [Board.restoreOf, h]

theorem Board.restoreOf_of_live {i : IncidentId} {x : Incident} (h : b.liveOf subject = some (i, x)) :
    b.restoreOf c subject = if x.atFault = true then b.commit .table i (restoreNow c x) else b := by
  simp only [Board.restoreOf, h]

theorem Board.openAt_incident (c : Setup) (i : IncidentId) (new : Incident) (b : Board) :
    (b.openAt c i new).incident i = some new := by
  rw [Board.openAt, Board.setAging_incident, Board.commit_incident, if_pos rfl]

end

theorem reopen_of_restored {x : Incident} (h : x.state = .restored) : reopen x = { x with
    closeDelay := none, restoredAt := none, state := if x.assigned = none then .opened else .assigned } := by
  rw [reopen_eq, Incident.reopenedState, if_pos h, if_pos h, if_pos h]

/-! ## The parts of O44 -/

/-- R45, R50: the condition weights and the home groups. -/
theorem homeGroups (a : Settings) (tripped : Bool) :
    (∀ n : Nat, (groupOf n).val = min 5 n) ∧
    (∀ k g, tripped = true → (a.circuit k).alternate = some g → homeGroup a (.circuit k) tripped = groupOf g) ∧
    (∀ k, tripped = false ∨ (a.circuit k).alternate = none →
      homeGroup a (.circuit k) tripped = groupOf (a.circuit k).group) := by
  refine ⟨fun n => ?_, fun k g ht hg => ?_, fun k h => ?_⟩
  · unfold groupOf finOf
    split_ifs with h
    · show n = min 5 n
      omega
    · show 5 = min 5 n
      omega
  · simp only [homeGroup, ht, hg]
  · rcases h with h | h
    · simp only [homeGroup, h]
    · cases tripped <;> simp only [homeGroup, h]

/-- R25, R46: a record that joins its circuit's live incident. -/
theorem State.joinRecord_of_live {r : FaultRecord} {s : State} {i : IncidentId} {x : Incident}
    (h : s.board.liveOf (.circuit r.circuit) = some (i, x)) : s.joinRecord r = { s with
      board := s.board.commit .table i (joined s.setup r.circuit (memberOf s.faults r) x)
      faults := s.faults.write { r with incident := some i } } := by
  simp only [State.joinRecord, Board.join_of_live _ h]

/-- R25, R45, R46: a record that opens its circuit's incident. -/
theorem State.joinRecord_of_fresh {r : FaultRecord} {s : State} {i : IncidentId}
    (h : s.board.liveOf (.circuit r.circuit) = none) (hf : s.board.freshRecord = some i) : s.joinRecord r = { s with
      board := s.board.openAt s.setup i
        (joined s.setup r.circuit (memberOf s.faults r) (circuitOpened s.setup r.circuit r.kind.cls))
      faults := s.faults.write { r with incident := some i } } := by
  simp only [State.joinRecord, Board.join_of_fresh _ h hf]
  rfl

theorem State.leaveRecord_of_member {r : FaultRecord} {s : State} {i : IncidentId} {x : Incident}
    (hr : r.incident = some i) (hx : s.board.incident i = some x) :
    s.leaveRecord r = { s with board := s.board.commit .table i (left s.setup r.asset x) } := by
  simp only [State.leaveRecord, hr, State.onBoard, Board.leave, hx]

theorem State.conditionHandoff_of_member {r : FaultRecord} {s : State} {i : IncidentId} {x : Incident}
    (hr : r.incident = some i) (hx : s.board.incident i = some x) : s.conditionHandoff r =
      { s with board := s.board.commit .table i (conditionChanged s.setup r.asset r.condition x) } := by
  simp only [State.conditionHandoff, hr, State.onBoard, Board.changeCondition, hx]

/-- R48, R54: a leave that leaves the incident faults, or that finds none to restore, touches the members alone. -/
theorem left_of_kept {c : Setup} {asset : Nat} {x : Incident}
    (h : (x.members.filter fun m => decide (m.asset ≠ asset)) ≠ [] ∨ 0 < x.unrecorded ∨ x.isCircuit = false ∨
      x.atFault = false) :
    { left c asset x with members := x.members, worst := x.worst, cls := x.cls, urgency := x.urgency } = x := by
  have hkept : ¬x.EmptiedBy asset := by
    rintro ⟨hcirc, hfault, hrest, hu⟩
    rcases h with h | h | h | h
    · exact h hrest
    · omega
    · exact Bool.false_ne_true (h.symm.trans hcirc)
    · exact Bool.false_ne_true (h.symm.trans hfault)
  rw [left_of_not_emptied hkept, reweigh, Incident.withoutMember_eq]

/-- R48, R54, R55: a leave that takes the last fault restores the incident, and at a delay of 0 closes it. -/
theorem left_of_last {c : Setup} {asset : Nat} {x : Incident} (h : x.EmptiedBy asset) :
    (left c asset x).restoredAt = some c.time ∧
      (c.active.params.closeDelay = 0 → (left c asset x).state = .closed ∧ (left c asset x).closedAt = some c.time) ∧
      (c.active.params.closeDelay ≠ 0 → (left c asset x).state = .restored ∧
        (left c asset x).closeDelay = some (c.time + c.active.params.closeDelay)) := by
  rw [left_of_emptied h]
  by_cases hd : c.active.params.closeDelay = 0
  · rw [restoreNow_of_zero hd]
    exact ⟨rfl, fun _ => ⟨rfl, rfl⟩, fun hne => absurd hd hne⟩
  · rw [restoreNow_of_ne hd]
    exact ⟨rfl, fun h0 => absurd h0 hd, fun _ => ⟨rfl, rfl⟩⟩

/-- R54, R55: the restoring of an incident whose faults have ended, by the close delay. -/
theorem restoreNow_cases (c : Setup) (x : Incident) :
    let delay := c.active.params.closeDelay
    let urgency := urgencyOf (urgencyInputs c x)
    (delay ≠ 0 → restoreNow c x = { x with
      state := .restored, restoredAt := some c.time, closeDelay := some (c.time + delay), urgency }) ∧
    (delay = 0 → restoreNow c x = { x with
      state := .closed, restoredAt := some c.time, closeDelay := none, closedAt := some c.time, urgency }) :=
  ⟨fun h => restoreNow_of_ne h x, fun h => restoreNow_of_zero h x⟩

/-- R51: a count of -1 that leaves faults, and one that takes the last. -/
theorem uncounted_cases {c : Setup} {x : Incident} (hf : x.atFault = true) (hu : 0 < x.unrecorded) :
    let y := uncounted c x
    let delay := c.active.params.closeDelay
    y.urgency = urgencyOf (urgencyInputs c y) ∧
    (x.members ≠ [] ∨ 1 < x.unrecorded → y = { x with unrecorded := x.unrecorded - 1, urgency := y.urgency }) ∧
    (x.members = [] → x.unrecorded = 1 →
      (delay ≠ 0 → y = { x with
        unrecorded := 0, urgency := y.urgency, state := .restored, restoredAt := some c.time
        closeDelay := some (c.time + delay) }) ∧
      (delay = 0 → y = { x with
        unrecorded := 0, urgency := y.urgency, state := .closed, restoredAt := some c.time, closeDelay := none
        closedAt := some c.time })) := by
  by_cases h : x.members ≠ [] ∨ 1 < x.unrecorded
  · dsimp only
    rw [uncounted_of_more hf h hu]
    exact ⟨rfl, fun _ => rfl, fun hm h1 => absurd h (by simp [hm, h1])⟩
  · obtain ⟨hm, hone⟩ := not_or.1 h
    rw [not_not] at hm
    have h1 : x.unrecorded = 1 := by omega
    dsimp only
    rw [uncounted_of_last hf hm h1]
    refine ⟨restoreNow_urgency .., fun hmore => absurd hmore h, fun _ _ => ⟨fun hd => ?_, fun hd => ?_⟩⟩
    · rw [restoreNow_of_ne hd, Incident.lessCount, h1]
    · rw [restoreNow_of_zero hd, Incident.lessCount, h1]

/-- Settles O44: each part by the laws of the incident it speaks of. -/
theorem handoffsMoveIncidents : Obligations.HandoffsMoveIncidents := by
  refine ⟨by decide, fun a tripped => ?_, restoreNow_cases, fun r s => ?_, fun b hb => ?_, conditionChanged_frame,
    fun c k m x => ?_, fun c asset x => ?_, fun c k x => ?_, fun c k kind b => ?_, fun c subject worst b => ?_⟩
  · obtain ⟨hgroup, htripped, hhome⟩ := homeGroups a tripped
    exact ⟨hgroup, htripped, hhome, fun _ => rfl, fun _ => rfl⟩
  · refine ⟨fun i x h => State.joinRecord_of_live h, fun i h hf => ?_, fun hr => ?_, fun i x hr hx =>
      ⟨State.leaveRecord_of_member hr hx, State.conditionHandoff_of_member hr hx⟩⟩
    · obtain ⟨hsubject, hopened⟩ := (joined_stirred s.setup r.circuit (memberOf s.faults r)
        (circuitOpened s.setup r.circuit r.kind.cls)).opened
      rw [State.joinRecord_of_fresh h hf, Board.openAt_circuit hsubject hopened]
      rfl
    · simp only [State.leaveRecord, State.conditionHandoff, hr, and_self]
  · exact ⟨fun _ _ _ => hb.liveOf_iff, fun i => Board.freshRecord_eq_some hb.rising⟩
  · obtain ⟨hm, hu⟩ := joined_members c k m x
    dsimp only
    rw [hm]
    exact ⟨insertMember_split m x.members, insertMember_sorted, hu, joined_urgency c k m x, joined_ranked c k m x,
      joined_stirred c k m x⟩
  · obtain ⟨hm, hu, hg, ha, ht, hw, hc, hurgency⟩ := left_frame c asset x
    have hx := x.withoutMember_eq asset
    refine ⟨hm.trans (by rw [hx]), hu.trans (by rw [hx]), hg.trans (by rw [hx]), ha.trans (by rw [hx]),
      ht.trans (by rw [hx]), hurgency, fun hne => (Incident.withoutMember_ranked hne).congr hm hw hc,
      fun hnil => ?_, left_of_kept, fun hnil h0 hcirc hf => left_of_last ⟨hcirc, hf, hnil, h0⟩⟩
    exact ⟨hw.trans (Incident.withoutMember_of_nil hnil).1, hc.trans (Incident.withoutMember_of_nil hnil).2⟩
  · refine ⟨counted_of_top, fun h => ?_, uncounted_of_idle, uncounted_cases⟩
    obtain ⟨hu, hm, hw, hc, hurgency⟩ := counted_frame c k h
    exact ⟨hu, hm, hw, hc, hurgency, counted_stirred c k h⟩
  · refine ⟨fun i x h => ⟨Board.countUp_of_live kind h, Board.countDown_of_live h⟩, fun h =>
      ⟨Board.countDown_of_none h, fun i hf => ?_⟩⟩
    have hu : (circuitOpened c k kind.cls).unrecorded < 65535 := show 0 < 65535 by decide
    obtain ⟨hsubject, hopened⟩ := (counted_stirred c k hu).opened
    exact (Board.countUp_of_fresh kind h hf).trans (Board.openAt_circuit hsubject hopened)
  · refine ⟨fun h => ⟨Board.restoreOf_of_none h, fun i hf => ?_⟩, fun i x h => ⟨fun hs => ?_, fun hs => ?_, fun hf => ?_,
      fun hf => ?_⟩⟩
    · rw [Board.faultOf_of_fresh h hf]
      exact ⟨_, Board.openAt_incident .., infraOpened_newIncident c subject worst⟩
    · rw [Board.faultOf_of_live h, if_neg hs]
    · rw [Board.faultOf_of_live h, if_pos hs, reopen_of_restored hs]
    · rw [Board.restoreOf_of_live h, if_neg (Bool.eq_false_iff.1 hf)]
    · rw [Board.restoreOf_of_live h, if_pos hf]

end Sys2Proof.Machine
end

section
/-! SUPPORT and PROOFS. The timers of incidents and desks (R55, R75, R89, R100). -/

namespace Sys2Proof.Machine

/-- A row whose meaning is one event. -/
theorem does_event {i : Instr} {s : State} {f : State → State} (h : exec i s = .next (s.event f)) : Does i s (f s) :=
  ⟨_, h, eventEnd_conclude ..⟩

/-! ## CLOSE_DELAY_EXPIRY and AGING_BOUNDARY (R55, R75) -/

theorem closeDelayExpiry_does {s : State} {i : IncidentId} {x : Incident} {e : Nat} (hx : s.board.incident i = some x)
    (hs : x.state = .restored) (hd : x.closeDelay = some e) (he : e ≤ s.setup.time) :
    Does (.closeDelayExpiry i) s (s.onBoard fun c b => b.commit .table i (closeNow c x)) := by
  refine does_event (f := State.onBoard fun c b => b.commit .table i (closeNow c x)) (congrArg Host.Outcome.next ?_)
  simp only [hx]
  exact if_pos ⟨hs, due_iff.2 ⟨e, hd, he⟩⟩

theorem Board.recompute_of_live {c : Setup} {b : Board} {i : IncidentId} {x : Incident} (hx : b.incident i = some x)
    (hl : x.live = true) : b.recompute c i = b.commit .table i (reweigh c x) := by
  simp only [Board.recompute, hx, hl, if_true]

/-- R75: a boundary taken: the urgency computed, and the schedule set to the next boundary or to none. -/
theorem Board.ageBoundary_of_live {c : Setup} {b : Board} {i : IncidentId} {x : Incident} (k : Nat)
    (hx : b.incident i = some x) (hl : x.live = true) : b.ageBoundary c i k =
      let tau := tauOf c x.subject
      let b' := b.commit .table i (reweigh c x)
      if tau = 0 ∨ 30 ≤ k then { b' with aging := b'.aging.erase i }
      else { b' with aging := b'.aging.put i ⟨x.openedAt + 60 * tau * (k + 1), k + 1⟩ } := by
  simp only [Board.ageBoundary, hx, Board.recompute_of_live hx hl, boundaryAfter]
  split_ifs <;> rfl

theorem agingBoundary_does {s : State} {i : IncidentId} {y : Boundary} (hy : s.board.aging.find i = some y)
    (hd : y.due ≤ s.setup.time) :
    Does (.agingBoundary i) s (s.onBoard fun c b => b.ageBoundary c i y.k) := by
  refine does_event (f := State.onBoard fun c b => b.ageBoundary c i y.k) (congrArg Host.Outcome.next ?_)
  simp only [hy]
  exact if_pos hd

/-! ## OFFER_EXPIRY (R89) -/

theorem declinedBy_state (c : Setup) (d : DeskId) (x : Incident) : (declinedBy c d x).state = .opened := by
  dsimp only [declinedBy]
  split_ifs <;> rfl

theorem offerExpiry_does {s : State} {d : DeskId} {o : Offer} (ho : (s.board.desks[d]).slot = some o)
    (hd : o.deadline ≤ s.setup.time) :
    Does (.offerExpiry d) s (s.onBoard fun c b => b.expireOffer c d o.incident) := by
  refine does_event (f := State.onBoard fun c b => b.expireOffer c d o.incident) (congrArg Host.Outcome.next ?_)
  simp only [ho]
  exact if_pos hd

/-- R88: a declined incident has a new change number. -/
theorem Board.declineOffer_change {c : Setup} {d : DeskId} {i : IncidentId} {x : Incident} {b : Board}
    (hx : b.incident i = some x) (hs : x.state = .offered) :
    (b.declineOffer c d i).change i = (b.change i + 1) % 65536 := by
  have hne : (b.emptySlot d).incident i ≠ some (declinedBy c d x) := by
    rw [Board.emptySlot_incident, hx]
    intro heq
    have := congrArg Incident.state (Option.some.inj heq)
    rw [hs, declinedBy_state] at this
    cases this
  simp only [Board.declineOffer, hx]
  exact Board.commit_change .arbiter hne

/-! ## Releases (R95, R98) -/

/-- The desk holds the incident: it is ASSIGNED or RESTORED with this assigned desk (R94). -/
abbrev Incident.heldBy (x : Incident) (d : DeskId) : Prop := x.assigned = some d ∧ (x.state = .assigned ∨ x.state = .restored)

theorem Board.mem_heldBy {b : Board} {d : DeskId} {i : IncidentId} :
    i ∈ b.heldBy d ↔ ∃ x, b.incident i = some x ∧ x.heldBy d := by
  simp only [Board.heldBy, List.mem_filter]
  constructor
  · rintro ⟨-, hi⟩
    split at hi
    · next x hx => exact ⟨x, hx, of_decide_eq_true hi⟩
    · cases hi
  · rintro ⟨x, hx, hd⟩
    obtain ⟨r, -, hm⟩ := Board.mem_of_incident hx
    refine ⟨List.mem_map.2 ⟨_, hm, rfl⟩, ?_⟩
    simp only [hx]
    exact decide_eq_true hd

theorem Board.heldBy_pairwise {b : Board} (h : b.incidents.rising = true) (d : DeskId) :
    (b.heldBy d).Pairwise (· < ·) :=
  (List.pairwise_map.2 (pairwise_of_risingKeys h)).filter _

theorem released_of_released (x : Incident) : released (released x) = released x := by
  unfold released
  split_ifs <;> simp_all

theorem released_ne {x : Incident} {d : DeskId} (h : x.assigned = some d) : released x ≠ x := fun heq => by
  have : (released x).assigned = none := by
    unfold released
    split_ifs <;> rfl
  rw [heq, h] at this
  cases this

theorem released_state_ne_closed {x : Incident} (h : x.state ≠ .closed) : (released x).state ≠ .closed := by
  by_cases hs : x.state = .assigned <;> simp [released, hs, h]

/-- What the release of some of a desk's incidents leaves of a board (R95): the records released, each with its next
change number, the released ASSIGNED ones in their queues, and but for the desk's count nothing else of desks and links. -/
structure Releases (d : DeskId) (l : List IncidentId) (b c : Board) : Prop where
  records : ∀ j, c.record j =
    if j ∈ l then ⟨(b.change j + 1) % 65536, (b.incident j).map released⟩ else b.record j
  links   : c.links = b.links
  others  : ∀ e : DeskId, e ≠ d → c.desks[e] = b.desks[e]
  desk    : ({ c.desks[d] with assigned := 0 } : Desk) = { b.desks[d] with assigned := 0 }
  queued  : ∀ i ∈ l, ∀ x, b.incident i = some x → x.state = .assigned → i ∈ c.queues[x.group]

theorem Releases.incident {d : DeskId} {l : List IncidentId} {b c : Board} (h : Releases d l b c) (j : IncidentId) :
    c.incident j = if j ∈ l then (b.incident j).map released else b.incident j := by
  rw [Board.incident, h.records]
  split_ifs <;> rfl

/-- A desk's count does not matter to what a release leaves. -/
theorem Releases.lowerCount {d : DeskId} {l : List IncidentId} {b c : Board} (h : Releases d l b c) :
    Releases d l b (c.lowerCount d) := by
  refine ⟨h.records, h.links, fun e he => ?_, ?_, h.queued⟩
  · exact (c.getElem_updDesk d e _).trans ((if_neg (Ne.symm he)).trans (h.others e he))
  · rw [← h.desk, Board.lowerCount, Board.updDesk_desks_self]

/-- R95: one incident more released. -/
theorem Releases.releaseOne {d : DeskId} {l : List IncidentId} {b c : Board} (h : Releases d l b c) {i : IncidentId}
    {x : Incident} (hx : b.incident i = some x) (hd : x.heldBy d) : Releases d (l ++ [i]) b (c.releaseOne d i) := by
  have hopen : x.state ≠ .closed := by rcases hd.2 with hs | hs <;> rw [hs] <;> decide
  by_cases hi : i ∈ l
  · have hci : c.incident i = some (released x) := by rw [h.incident, if_pos hi, hx]; rfl
    have hsame : c.releaseOne d i = c.lowerCount d := by
      simp only [Board.releaseOne, hci]
      rw [Board.commit_of_same (by rw [hci, released_of_released])]
    have hmem : ∀ j, j ∈ l ++ [i] ↔ j ∈ l := by simp [hi]
    rw [hsame]
    obtain ⟨hrec, hlinks, hothers, hdesk, hqueued⟩ := h.lowerCount
    exact ⟨fun j => by simp only [hmem]; exact hrec j, hlinks, hothers, hdesk,
      fun j hj => hqueued j ((hmem j).1 hj)⟩
  · have hci : c.incident i = some x := by rw [h.incident, if_neg hi, hx]
    have hne : c.incident i ≠ some (released x) := by
      rw [hci]
      exact fun heq => released_ne hd.1 (Option.some.inj heq).symm
    have hchange : c.change i = b.change i := by rw [Board.change, h.records, if_neg hi]; rfl
    have harb := Board.commit_arbiter i (released x) c (released_state_ne_closed hopen)
    rw [if_neg hne] at harb
    have hone : c.releaseOne d i = (c.commit .arbiter i (released x)).lowerCount d := by
      simp only [Board.releaseOne, hci]
    rw [hone]
    refine Releases.lowerCount ⟨fun j => ?_, ?_, fun e he => ?_, ?_, fun j hj y hy hys => ?_⟩
    · rw [Board.commit_record .arbiter hne, hchange]
      by_cases hij : i = j
      · subst hij
        simp [hx]
      · simp [hij, Ne.symm hij, h.records]
    · rw [harb, Board.requeue_links, Board.writeIncident_links, h.links]
    · rw [harb, Board.requeue_desks, Board.writeIncident_desks, h.others e he]
    · rw [harb, Board.requeue_desks, Board.writeIncident_desks, h.desk]
    · by_cases hij : j = i
      · subst hij
        cases hx.symm.trans hy
        have hr : released x = { x with state := .opened, assigned := none } := if_pos hys
        exact Board.mem_commit_queue_of_opened .arbiter hne (by simp [hci, hys]) (by rw [hr]) (by rw [hr])
      · rw [Board.mem_commit_queue_of_ne .arbiter hne hij]
        exact h.queued j (by simpa [hij] using hj) y hy hys

theorem Releases.refl (d : DeskId) (b : Board) : Releases d [] b b :=
  ⟨fun _ => rfl, rfl, fun _ _ => rfl, rfl, fun _ h => by cases h⟩

theorem Releases.foldl (d : DeskId) (b : Board) (l : List IncidentId)
    (hl : ∀ i ∈ l, ∃ x, b.incident i = some x ∧ x.heldBy d) :
    Releases d l b (l.foldl (fun b i => b.releaseOne d i) b) := by
  induction l using List.reverseRecOn with
  | nil => exact .refl d b
  | append_singleton l i ih =>
    obtain ⟨x, hx, hd⟩ := hl i (by simp)
    rw [List.foldl_append]
    exact (ih fun j hj => hl j (by simp [hj])).releaseOne hx hd

/-- R98, R100: what a desk's incidents released leave of the board. -/
theorem Board.releaseAll_releases (d : DeskId) (b : Board) : Releases d (b.heldBy d) b (b.releaseAll d) := by
  obtain ⟨hrec, hlinks, hothers, hdesk, hqueued⟩ := Releases.foldl d b (b.heldBy d) fun i hi => Board.mem_heldBy.1 hi
  refine ⟨hrec, hlinks, fun e he => ?_, ?_, hqueued⟩
  · exact (Board.getElem_updDesk ..).trans ((if_neg (Ne.symm he)).trans (hothers e he))
  · rw [← hdesk, Board.releaseAll, Board.updDesk_desks_self]

theorem Board.releaseAll_desk (d : DeskId) (b : Board) :
    (b.releaseAll d).desks[d] = { b.desks[d] with assigned := 0 } := by
  rw [← (b.releaseAll_releases d).desk, Board.releaseAll, Board.updDesk_desks_self]

/-! ## ABSENCE_EXPIRY (R100) -/

/-- R100: RELEASED notices to a desk, one for each of the incidents, with its change number. -/
def Board.tellReleased (d : DeskId) (l : List IncidentId) (b : Board) : Board :=
  l.foldl (fun b i => b.notify d (.released i (b.change i))) b

theorem Board.expireAbsence_eq (d : DeskId) (b : Board) : b.expireAbsence d =
    ((b.releaseAll d).updDesk d fun x => { x with absence := none }).tellReleased d (b.heldBy d) := rfl

/-- Notices change links alone. -/
theorem Board.tellReleased_eq (d : DeskId) (l : List IncidentId) (b : Board) :
    b.tellReleased d l = { b with links := (b.tellReleased d l).links } := by
  induction l generalizing b with
  | nil => rfl
  | cons i rest ih => exact ih (b.notify d (.released i (b.change i)))

theorem Board.getElem_tellReleased (d e : DeskId) (l : List IncidentId) (b : Board) :
    (b.tellReleased d l).links[e] =
      if d = e then l.foldl (fun m i => m.take (.released i (b.change i))) b.links[d] else b.links[e] := by
  induction l generalizing b with
  | nil =>
    split_ifs with h
    · rw [h]
      rfl
    · rfl
  | cons i rest ih =>
    have hd := b.getElem_updLink d d (Link.take (.released i (b.change i)))
    have he := b.getElem_updLink d e (Link.take (.released i (b.change i)))
    refine (ih (b.notify d (.released i (b.change i)))).trans ?_
    split_ifs with h
    · exact congrArg (rest.foldl fun m j => m.take (.released j (b.change j))) (hd.trans (if_pos rfl))
    · exact he.trans (if_neg h)

/-- R100, R182: a link that is DOWN discards each notice and counts it. -/
theorem Link.foldl_take_of_down {α : Type} (f : α → Notice) (l : List α) (m : Link) (hdown : m.up = false)
    (htop : m.overflow ≤ 255) : l.foldl (fun m a => m.take (f a)) m =
      { m with overflow := min 255 (m.overflow + l.length), attention := m.attention || decide (l ≠ []) } := by
  induction l generalizing m with
  | nil => simp [htop]
  | cons a rest ih =>
    rw [List.foldl_cons, Link.take_of_no_room (.inl hdown), ih _ (by exact hdown) (by dsimp only; split_ifs <;> omega)]
    have : (min 255 ((if m.overflow < 255 then m.overflow + 1 else 255) + rest.length)) =
        min 255 (m.overflow + (a :: rest).length) := by
      rw [List.length_cons]
      split_ifs <;> omega
    simp [this]

theorem absenceExpiry_does {s : State} {d : DeskId} {e : Nat} (ha : (s.board.desks[d]).absence = some e)
    (he : e ≤ s.setup.time) : Does (.absenceExpiry d) s (s.onBoard fun _ b => b.expireAbsence d) :=
  does_event (f := State.onBoard fun _ b => b.expireAbsence d)
    (congrArg Host.Outcome.next (if_pos (due_iff.2 ⟨e, ha, he⟩)))

section

variable (d : DeskId) (b : Board)

theorem Board.expireAbsence_record (j : IncidentId) : (b.expireAbsence d).record j = (b.releaseAll d).record j := by
  rw [Board.expireAbsence_eq, Board.tellReleased_eq]
  rfl

theorem Board.expireAbsence_queues : (b.expireAbsence d).queues = (b.releaseAll d).queues := by
  rw [Board.expireAbsence_eq, Board.tellReleased_eq]
  rfl

theorem Board.expireAbsence_desks :
    (b.expireAbsence d).desks = ((b.releaseAll d).updDesk d fun x => { x with absence := none }).desks := by
  rw [Board.expireAbsence_eq, Board.tellReleased_eq]

theorem Board.expireAbsence_change (j : IncidentId) :
    (b.expireAbsence d).change j = if j ∈ b.heldBy d then (b.change j + 1) % 65536 else b.change j := by
  rw [Board.change, Board.expireAbsence_record, (b.releaseAll_releases d).records]
  split_ifs <;> rfl

theorem Board.expireAbsence_incident {j : IncidentId} {x : Incident} (hx : b.incident j = some x) :
    (b.expireAbsence d).incident j = some (
      if x.assigned = some d ∧ x.state = .assigned then { x with state := .opened, assigned := none }
      else if x.assigned = some d ∧ x.state = .restored then { x with assigned := none }
      else x) := by
  have hr : (b.expireAbsence d).incident j = if j ∈ b.heldBy d then (b.incident j).map released else b.incident j := by
    rw [Board.incident, Board.expireAbsence_record]
    exact (b.releaseAll_releases d).incident j
  have hheld : j ∈ b.heldBy d ↔ x.heldBy d := by simp [Board.mem_heldBy, hx]
  rw [hr, hx]
  by_cases ha : x.assigned = some d
  · cases hs : x.state <;> simp [hheld, ha, hs, released]
  · simp [hheld, ha]

theorem Board.expireAbsence_desk :
    (b.expireAbsence d).desks[d] = { b.desks[d] with assigned := 0, absence := none } := by
  rw [Board.expireAbsence_desks, Board.updDesk_desks_self, Board.releaseAll_desk]

theorem Board.expireAbsence_other {e : DeskId} (he : e ≠ d) :
    (b.expireAbsence d).desks[e] = b.desks[e] ∧ (b.expireAbsence d).links[e] = b.links[e] := by
  have h := b.releaseAll_releases d
  refine ⟨?_, ?_⟩
  · rw [Board.expireAbsence_desks, Board.getElem_updDesk, if_neg (Ne.symm he), h.others e he]
  · rw [Board.expireAbsence_eq, Board.getElem_tellReleased, if_neg (Ne.symm he), Board.updDesk_links, h.links]

theorem Board.expireAbsence_link : (b.expireAbsence d).links[d] =
    (b.heldBy d).foldl (fun m i => m.take (.released i ((b.change i + 1) % 65536))) b.links[d] := by
  have h := b.releaseAll_releases d
  rw [Board.expireAbsence_eq, Board.getElem_tellReleased, if_pos rfl, Board.updDesk_links, h.links]
  refine List.foldl_ext _ _ _ fun m i hi => ?_
  rw [Board.updDesk_change, Board.change, h.records, if_pos hi]

end

/-- Settles O45: each timer's row is one event; the releases of an absence by `Releases`. -/
theorem boardTimers : Obligations.BoardTimers := by
  intro s
  refine ⟨fun i x e hx hs hd he => closeDelayExpiry_does hx hs hd he, fun i x y hy hd hx hl => ?_,
    fun d o x ho hd hx hs => ?_, fun d e ha he => ⟨absenceExpiry_does ha he, ?_⟩⟩
  · have := agingBoundary_does hy hd
    rw [State.onBoard, Board.ageBoundary_of_live y.k hx hl] at this
    exact this
  · have := offerExpiry_does ho hd
    rw [State.onBoard, Board.expireOffer, Board.updDesk_change, Board.declineOffer_change hx hs] at this
    exact this
  · refine ⟨Board.expireAbsence_desk .., fun e he => Board.expireAbsence_other _ _ he,
      fun i x hx => Board.expireAbsence_incident _ _ hx, fun i x hx ha hs => ?_, s.board.heldBy d, fun i => ?_,
      fun hr => Board.heldBy_pairwise hr d, fun i => Board.expireAbsence_change .., Board.expireAbsence_link ..,
      fun hdown htop => ?_⟩
    · rw [Board.expireAbsence_queues]
      exact (s.board.releaseAll_releases d).queued i (Board.mem_heldBy.2 ⟨x, hx, ha, .inl hs⟩) x hx hs
    · exact Board.mem_heldBy
    · rw [Board.expireAbsence_link, Link.foldl_take_of_down _ _ _ hdown htop]

end Sys2Proof.Machine
end

section
/-! SUPPORT. The arrangement of the board in three parts, and what one event on one incident keeps of each: the table and
its queues (R44, R74, R83), the offer slots (R81), and the assigned counts (R94). -/

namespace Sys2Proof.Machine

/-! ## The order of a queue (R74) -/

/-- R74: an incident stands ahead of another: by urgency, highest first; by opened time, earliest first; by index. -/
def Precedes (i : IncidentId) (x : Incident) (j : IncidentId) (y : Incident) : Prop :=
  y.urgency < x.urgency ∨ (x.urgency = y.urgency ∧ (x.openedAt < y.openedAt ∨ (x.openedAt = y.openedAt ∧ i < j)))

theorem Precedes.trans {i j k : IncidentId} {x y z : Incident} (h : Precedes i x j y) (h' : Precedes j y k z) :
    Precedes i x k z := by
  simp only [Precedes, Fin.lt_def] at *
  omega

theorem precedes_or {i j : IncidentId} (hne : j ≠ i) (x y : Incident) : Precedes i x j y ∨ Precedes j y i x := by
  have hv : j.val ≠ i.val := Fin.val_ne_of_ne hne
  simp only [Precedes, Fin.lt_def]
  omega

theorem ahead_iff {b : Board} {i j : IncidentId} {x y : Incident} (hx : b.incident i = some x)
    (hy : b.incident j = some y) : ahead b i j = true ↔ Precedes i x j y := by
  simp only [ahead, hx, hy, Precedes]
  split_ifs with hu ho <;> simp only [decide_eq_true_eq, Fin.lt_def] <;> omega

theorem Board.inOrder_iff {b : Board} {i j : IncidentId} {x y : Incident} (hx : b.incident i = some x)
    (hy : b.incident j = some y) : b.InOrder i j ↔ Precedes i x j y := by
  refine ⟨fun h => h x y hx hy, fun h x' y' hx' hy' => ?_⟩
  cases hx.symm.trans hx'
  cases hy.symm.trans hy'
  exact h

/-- R74, R83: an incident put in its place leaves a queue in order. -/
theorem placeIn_sorted {b : Board} {i : IncidentId} {l : List IncidentId} (hi : b.incident i ≠ none)
    (hl : ∀ j ∈ l, j ≠ i ∧ b.incident j ≠ none) (hs : l.Pairwise b.InOrder) : (placeIn b i l).Pairwise b.InOrder := by
  obtain ⟨x, hx⟩ := Option.ne_none_iff_exists'.1 hi
  induction l with
  | nil => exact List.pairwise_singleton ..
  | cons j rest ih =>
    obtain ⟨⟨hji, hj⟩, hrest⟩ := List.forall_mem_cons.1 hl
    obtain ⟨hjrest, hsrest⟩ := List.pairwise_cons.1 hs
    obtain ⟨y, hy⟩ := Option.ne_none_iff_exists'.1 hj
    simp only [placeIn]
    split_ifs with hahead
    · have hij := (ahead_iff hx hy).1 hahead
      refine List.pairwise_cons.2 ⟨fun k hk => ?_, hs⟩
      rcases List.mem_cons.1 hk with rfl | hk
      · exact (Board.inOrder_iff hx hy).2 hij
      · obtain ⟨z, hz⟩ := Option.ne_none_iff_exists'.1 (hrest k hk).2
        exact (Board.inOrder_iff hx hz).2 (hij.trans ((Board.inOrder_iff hy hz).1 (hjrest k hk)))
    · have hji' := (precedes_or hji x y).resolve_left (mt (ahead_iff hx hy).2 hahead)
      refine List.pairwise_cons.2 ⟨fun k hk => ?_, ih hrest hsrest⟩
      rcases mem_placeIn.1 hk with rfl | hk
      · exact (Board.inOrder_iff hy hx).2 hji'
      · exact hjrest k hk

theorem placeIn_nodup {b : Board} {i : IncidentId} {l : List IncidentId} (hi : i ∉ l) (hl : l.Nodup) :
    (placeIn b i l).Nodup := by
  induction l with
  | nil => exact List.nodup_singleton i
  | cons j rest ih =>
    obtain ⟨hij, hirest⟩ := not_or.1 (List.mem_cons.not.1 hi)
    obtain ⟨hjrest, hrest⟩ := List.nodup_cons.1 hl
    simp only [placeIn]
    split_ifs
    · exact List.nodup_cons.2 ⟨hi, hl⟩
    · refine List.nodup_cons.2 ⟨fun hm => ?_, ih hirest hrest⟩
      rcases mem_placeIn.1 hm with h | h
      · exact hij h.symm
      · exact hjrest h

/-! ## The three parts -/

/-- R43, R83: an OPEN or OFFERED incident has no assigned desk. -/
def Incident.Free (x : Incident) : Prop := x.state = .opened ∨ x.state = .offered → x.assigned = none

/-- R44, R74, R83: the incident table and the pending queues. -/
structure Board.Filed (b : Board) : Prop where
  rising : b.incidents.rising = true
  single : ∀ i j x y, b.incident i = some x → b.incident j = some y → x.live = true → y.live = true →
    x.subject = y.subject → i = j
  queued : ∀ (g : DeskId) i, i ∈ b.queues[g] ↔ ((b.incident i).bind Incident.standing).map (·.1) = some g
  once   : ∀ g : DeskId, (b.queues[g]).Nodup
  sorted : ∀ g : DeskId, (b.queues[g]).Pairwise b.InOrder
  free   : ∀ i x, b.incident i = some x → x.Free

/-- The incident is OFFERED. -/
def Board.isOffered (b : Board) (i : IncidentId) : Prop := (b.incident i).map (·.state) = some .offered

/-- R81: exactly the OFFERED incidents stand in the slots, each in one. -/
structure Board.Slotted (b : Board) : Prop where
  stands : ∀ i, b.isOffered i ↔ ∃ d, b.offeredTo d = some i
  apart  : ∀ i d e, b.offeredTo d = some i → b.offeredTo e = some i → d = e

/-- R94: the desk that holds an incident, if it is ASSIGNED or RESTORED. -/
def Incident.holder (x : Incident) : Option DeskId :=
  if x.state = .assigned ∨ x.state = .restored then x.assigned else none

/-- R94: the incidents that a desk holds. -/
def Board.heldSet (b : Board) (d : DeskId) : Finset IncidentId :=
  Finset.univ.filter fun i => (b.incident i).bind Incident.holder = some d

/-- R94: each desk's assigned count is the number of incidents that it holds. -/
def Board.Counted (b : Board) : Prop := ∀ d : DeskId, (b.desks[d]).assigned = (b.heldSet d).card

theorem Incident.holder_eq_some {x : Incident} {d : DeskId} : x.holder = some d ↔ x.heldBy d := by
  unfold Incident.holder
  split_ifs with h <;> simp [h]

theorem Board.length_heldBy {b : Board} (h : b.incidents.rising = true) (d : DeskId) :
    (b.heldBy d).length = (b.heldSet d).card := by
  have hn : (b.heldBy d).Nodup := (Board.heldBy_pairwise h d).imp fun hij => hij.ne
  rw [← List.toFinset_card_of_nodup hn]
  refine congrArg Finset.card (Finset.ext fun i => ?_)
  simp only [List.mem_toFinset, Board.mem_heldBy, Board.heldSet, Finset.mem_filter, Finset.mem_univ, true_and,
    Option.bind_eq_some_iff, Incident.holder_eq_some]

theorem Incident.exists_standing_group {o : Option Incident} {g : DeskId} :
    (o.bind Incident.standing).map (·.1) = some g ↔ ∃ x, o = some x ∧ x.state = .opened ∧ x.group = g := by
  cases o with
  | none => simp
  | some x => simp only [Option.bind_some, Incident.standing_group, Option.some.injEq, exists_eq_left']

theorem Board.offeredTo_eq_some {b : Board} {d : DeskId} {i : IncidentId} :
    b.offeredTo d = some i ↔ ∃ o : Offer, (b.desks[d]).slot = some o ∧ o.incident = i := Option.map_eq_some_iff

theorem Board.isOffered_iff {b : Board} {i : IncidentId} :
    b.isOffered i ↔ ∃ x, b.incident i = some x ∧ x.state = .offered := Option.map_eq_some_iff

section

variable {b : Board} (h : b.Arranged)
include h

theorem Board.Arranged.filed : b.Filed where
  rising := h.rising
  single := h.single
  queued g i := (h.queued g i).trans Incident.exists_standing_group.symm
  once := h.once
  sorted := h.sorted
  free := h.free

theorem Board.Arranged.slotted : b.Slotted where
  stands i := by
    constructor
    · intro hi
      obtain ⟨x, hx, hs⟩ := Board.isOffered_iff.1 hi
      exact h.stands i x hx hs
    · intro hi
      obtain ⟨d, hd⟩ := hi
      obtain ⟨o, ho, hoi⟩ := Board.offeredTo_eq_some.1 hd
      exact Board.isOffered_iff.2 (hoi ▸ h.offered d o ho)
  apart i d e hd he := by
    obtain ⟨o, ho, hoi⟩ := Board.offeredTo_eq_some.1 hd
    obtain ⟨p, hp, hpi⟩ := Board.offeredTo_eq_some.1 he
    exact h.apart d e o p ho hp (hoi.trans hpi.symm)

theorem Board.Arranged.counted : b.Counted := fun d => (h.counts d).trans (Board.length_heldBy h.rising d)

end

theorem Board.Arranged.of_parts {b : Board} (hf : b.Filed) (hs : b.Slotted) (hc : b.Counted) : b.Arranged where
  rising := hf.rising
  single := hf.single
  queued g i := (hf.queued g i).trans Incident.exists_standing_group
  once := hf.once
  sorted := hf.sorted
  offered d o ho := Board.isOffered_iff.1 ((hs.stands o.incident).2 ⟨d, Board.offeredTo_eq_some.2 ⟨o, ho, rfl⟩⟩)
  stands i x hx hi := (hs.stands i).1 (Board.isOffered_iff.2 ⟨x, hx, hi⟩)
  apart d e o p ho hp hop :=
    hs.apart p.incident d e (Board.offeredTo_eq_some.2 ⟨o, ho, hop⟩) (Board.offeredTo_eq_some.2 ⟨p, hp, rfl⟩)
  free := hf.free
  counts d := (hc d).trans (Board.length_heldBy hf.rising d).symm

end Sys2Proof.Machine
end

section
/-! SUPPORT. What one event on one incident keeps of the three parts of the board's arrangement (R44, R74, R81, R83, R92,
R94). -/

namespace Sys2Proof.Machine

/-! ## The table and its queues (R44, R74, R83) -/

/-- R74: what orders an incident among others, besides its index. -/
def Board.sortKey (b : Board) (i : IncidentId) : Option (Nat × Nat) := (b.incident i).map fun x => (x.urgency, x.openedAt)

theorem Board.exists_of_sortKey {b c : Board} {i : IncidentId} (h : c.sortKey i = b.sortKey i) {x : Incident}
    (hx : c.incident i = some x) : ∃ y, b.incident i = some y ∧ y.urgency = x.urgency ∧ y.openedAt = x.openedAt := by
  rw [Board.sortKey, hx, Option.map_some] at h
  obtain ⟨y, hy, hxy⟩ := Option.map_eq_some_iff.1 h.symm
  exact ⟨y, hy, Prod.mk.inj hxy⟩

theorem Board.InOrder.congr {b c : Board} {i j : IncidentId} (h : b.InOrder i j) (hi : c.sortKey i = b.sortKey i)
    (hj : c.sortKey j = b.sortKey j) : c.InOrder i j := by
  intro x y hx hy
  obtain ⟨x', hx', hxu, hxo⟩ := Board.exists_of_sortKey hi hx
  obtain ⟨y', hy', hyu, hyo⟩ := Board.exists_of_sortKey hj hy
  simpa only [hxu, hxo, hyu, hyo] using h x' y' hx' hy'

theorem Board.inOrder_of_sortKeys {b c : Board} {l : List IncidentId} (hl : l.Pairwise b.InOrder)
    (hk : ∀ i ∈ l, c.sortKey i = b.sortKey i) : l.Pairwise c.InOrder :=
  hl.imp_of_mem fun hi hj h => h.congr (hk _ hi) (hk _ hj)

theorem Board.sortKey_congr {b c : Board} {i : IncidentId} (h : c.incident i = b.incident i) :
    c.sortKey i = b.sortKey i := congrArg _ h

/-- The filing rests on the incident table and the queues alone. -/
theorem Board.Filed.congr {b c : Board} (h : b.Filed) (hi : c.incidents = b.incidents) (hq : c.queues = b.queues) :
    c.Filed := by
  have hinc : ∀ i, c.incident i = b.incident i := fun i => by rw [Board.incident, Board.record, hi]; rfl
  refine ⟨hi ▸ h.rising, fun i j x y hx hy => h.single i j x y (hinc i ▸ hx) (hinc j ▸ hy), fun g i => ?_,
    fun g => hq ▸ h.once g, fun g => ?_, fun i x hx => h.free i x (hinc i ▸ hx)⟩
  · rw [hq, hinc]
    exact h.queued g i
  · rw [hq]
    exact Board.inOrder_of_sortKeys (h.sorted g) fun i _ => Board.sortKey_congr (hinc i)

theorem Board.Filed.rising_commit {b : Board} (h : b.Filed) (o : Origin) (i : IncidentId) (new : Incident) :
    (b.commit o i new).incidents.rising = true := by
  rw [Board.commit_incidents]
  dsimp only [Board.writeIncident]
  split_ifs
  · exact h.rising
  · exact rising_store i _ h.rising

section

variable {b : Board} (h : b.Filed) {i : IncidentId}
include h

/-- R83: an incident without its old place is not in the queue. -/
theorem Board.Filed.not_mem_queueWithout (g : DeskId) :
    i ∉ b.queueWithout ((b.incident i).bind Incident.standing) i g := by
  rw [Board.mem_queueWithout]
  intro hi
  exact hi.2 ((h.queued g i).1 hi.1) rfl

theorem Board.Filed.incident_ne_none {g : DeskId} (hi : i ∈ b.queues[g]) : b.incident i ≠ none := by
  intro hn
  simpa [hn] using (h.queued g i).1 hi

variable {new : Incident} {o : Origin} (hne : b.incident i ≠ some new)
include hne

omit h in
/-- R73, R83: each queue after an event. -/
theorem Board.getElem_commit_queues (g : DeskId) : (b.commit o i new).queues[g] =
    if (b.incident i).bind Incident.standing = new.standing then b.queues[g]
    else if new.standing.map (·.1) = some g then
      placeIn (b.commit o i new) i (b.queueWithout ((b.incident i).bind Incident.standing) i g)
    else b.queueWithout ((b.incident i).bind Incident.standing) i g := by
  have hinc : ∀ j, (b.commit o i new).incident j = (b.writeIncident i new).incident j := fun j => by
    rw [Board.commit_incident, Board.writeIncident_incident]
  rw [Board.commit_queues o hne, Board.getElem_requeue, placeIn_congr hinc]
  simp only [Board.queueWithout, Board.writeIncident_queues]

theorem Board.Filed.once_commit (g : DeskId) : ((b.commit o i new).queues[g]).Nodup := by
  have without : (b.queueWithout ((b.incident i).bind Incident.standing) i g).Nodup := by
    unfold Board.queueWithout
    split_ifs
    · exact (h.once g).filter _
    · exact h.once g
  rw [Board.getElem_commit_queues hne]
  split_ifs
  · exact h.once g
  · exact placeIn_nodup (h.not_mem_queueWithout g) without
  · exact without

/-- R74: an incident of a queue that no event but one of its own urgency moves keeps the time it was opened. -/
theorem Board.Filed.sorted_commit (hopen : ∀ x, b.incident i = some x → x.state = .opened → x.openedAt = new.openedAt)
    (g : DeskId) : ((b.commit o i new).queues[g]).Pairwise (b.commit o i new).InOrder := by
  have others : ∀ j, j ≠ i → (b.commit o i new).incident j = b.incident j := fun j hj => by
    rw [Board.commit_incident, if_neg hj.symm]
  have apart : ∀ j ∈ b.queueWithout ((b.incident i).bind Incident.standing) i g, j ≠ i := fun j hj hji =>
    h.not_mem_queueWithout g (hji ▸ hj)
  have without : (b.queueWithout ((b.incident i).bind Incident.standing) i g).Pairwise (b.commit o i new).InOrder := by
    refine Board.inOrder_of_sortKeys (b := b) ?_ fun j hj => Board.sortKey_congr (others j (apart j hj))
    unfold Board.queueWithout
    split_ifs
    · exact (h.sorted g).filter _
    · exact h.sorted g
  rw [Board.getElem_commit_queues hne]
  split_ifs with hs
  · refine Board.inOrder_of_sortKeys (h.sorted g) fun j hj => ?_
    by_cases hji : j = i
    · subst hji
      obtain ⟨x, hx, hxo, -⟩ := Incident.exists_standing_group.1 ((h.queued g j).1 hj)
      rw [hx, Option.bind_some, Incident.standing_of_opened hxo] at hs
      obtain ⟨-, -, hu⟩ := Incident.standing_eq_some.1 hs.symm
      rw [Board.sortKey, Board.sortKey, Board.commit_incident, if_pos rfl, hx, Option.map_some, Option.map_some, hu,
        hopen x hx hxo]
    · exact Board.sortKey_congr (others j hji)
  · refine placeIn_sorted (by simp [Board.commit_incident]) (fun j hj => ⟨apart j hj, ?_⟩) without
    rw [others j (apart j hj)]
    exact h.incident_ne_none (Board.mem_queueWithout.1 hj).1
  · exact without

omit hne in
/-- R44, R74, R83: an event keeps the filing, if no other live incident has the subject, and if the incident keeps the time
it was opened while it stands in a queue. -/
theorem Board.Filed.commit (o : Origin)
    (hsubject : new.live = true → ∀ j z, j ≠ i → b.incident j = some z → z.live = true → z.subject ≠ new.subject)
    (hopen : ∀ x, b.incident i = some x → x.state = .opened → x.openedAt = new.openedAt) (hfree : new.Free) :
    (b.commit o i new).Filed := by
  by_cases hne : b.incident i = some new
  · rwa [Board.commit_of_same hne]
  refine ⟨h.rising_commit o i new, fun j k x y hx hy hxl hyl hxy => ?_, fun g j => ?_, h.once_commit hne,
    h.sorted_commit hne hopen, fun j x hx => ?_⟩
  · rw [Board.commit_incident] at hx hy
    split_ifs at hx hy with hj hk hk
    · exact hj.symm.trans hk
    · cases hx
      exact absurd hxy.symm (hsubject hxl k y (Ne.symm hk) hy hyl)
    · cases hy
      exact absurd hxy (hsubject hyl j x (Ne.symm hj) hx hxl)
    · exact h.single j k x y hx hy hxl hyl hxy
  · rw [Board.mem_commit_queue o hne, Board.commit_incident]
    by_cases hj : i = j
    · subst hj
      rw [if_pos rfl, Option.bind_some]
      split_ifs with hs
      · rw [h.queued, hs]
      · simp only [true_and, ne_eq, not_true_eq_false, imp_false, or_iff_left_iff_imp]
        intro hi
        exact absurd ((h.queued g i).1 hi.1) hi.2
    · rw [if_neg hj]
      simp only [Ne.symm hj, false_and, false_or, ne_eq, not_false_eq_true, implies_true, and_true, ite_self]
      exact h.queued g j
  · rw [Board.commit_incident] at hx
    split_ifs at hx
    · cases hx
      exact hfree
    · exact h.free j x hx

end

/-! ## The slots (R81, R92) -/

/-- Nothing but what an event says of its incident changes in the slots. -/
theorem Board.Slotted.update {b c : Board} (h : b.Slotted) (i : IncidentId)
    (hinc : ∀ j, j ≠ i → (c.isOffered j ↔ b.isOffered j))
    (hslot : ∀ d j, j ≠ i → (c.offeredTo d = some j ↔ b.offeredTo d = some j))
    (hi : c.isOffered i ↔ ∃ d, c.offeredTo d = some i)
    (hone : ∀ d e, c.offeredTo d = some i → c.offeredTo e = some i → d = e) : c.Slotted := by
  refine ⟨fun j => ?_, fun j d e hd he => ?_⟩
  · by_cases hj : j = i
    · exact hj ▸ hi
    · rw [hinc j hj, h.stands]
      exact exists_congr fun d => (hslot d j hj).symm
  · by_cases hj : j = i
    · exact hone d e (hj ▸ hd) (hj ▸ he)
    · exact h.apart j d e ((hslot d j hj).1 hd) ((hslot e j hj).1 he)

theorem Board.Slotted.congr {b c : Board} (h : b.Slotted) (hinc : ∀ j, c.isOffered j ↔ b.isOffered j)
    (hslot : ∀ d, c.offeredTo d = b.offeredTo d) : c.Slotted := by
  refine ⟨fun j => ?_, fun j d e => ?_⟩
  · rw [hinc, h.stands]
    simp only [hslot]
  · rw [hslot, hslot]
    exact h.apart j d e

/-- R86: an offer fills the empty slot of a desk. -/
theorem Board.Slotted.filled {b c : Board} (h : b.Slotted) {i : IncidentId} {d : DeskId} (hd : b.offeredTo d = none)
    (hb : ¬b.isOffered i) (hc : c.isOffered i) (hinc : ∀ j, j ≠ i → (c.isOffered j ↔ b.isOffered j))
    (hslot : ∀ e, c.offeredTo e = if d = e then some i else b.offeredTo e) : c.Slotted := by
  have only : ∀ e, c.offeredTo e = some i → d = e := fun e he => by
    rw [hslot] at he
    split_ifs at he with hde
    · exact hde
    · exact absurd ((h.stands i).2 ⟨e, he⟩) hb
  refine h.update i hinc (fun e j hj => ?_) (iff_of_true hc ⟨d, by rw [hslot, if_pos rfl]⟩)
    fun e f he hf => (only e he).symm.trans (only f hf)
  rw [hslot]
  split_ifs with hde
  · simp [← hde, hd, Ne.symm hj]
  · exact Iff.rfl

/-- R87, R88, R92: the slot with the incident empties. -/
theorem Board.Slotted.emptied {b c : Board} (h : b.Slotted) {i : IncidentId} {d : DeskId} (hd : b.offeredTo d = some i)
    (hc : ¬c.isOffered i) (hinc : ∀ j, j ≠ i → (c.isOffered j ↔ b.isOffered j))
    (hslot : ∀ e, c.offeredTo e = if d = e then none else b.offeredTo e) : c.Slotted := by
  have nowhere : ∀ e, c.offeredTo e ≠ some i := fun e he => by
    rw [hslot] at he
    split_ifs at he with hde
    exact hde (h.apart i d e hd he)
  refine h.update i hinc (fun e j hj => ?_) (iff_of_false hc fun hi => ?_) fun e _ he => absurd he (nowhere e)
  · rw [hslot]
    split_ifs with hde
    · simp [← hde, hd, Ne.symm hj]
    · exact Iff.rfl
  · obtain ⟨e, he⟩ := hi
    exact nowhere e he

section

variable (o : Origin) (i : IncidentId) (new : Incident) (b : Board)

theorem Board.isOffered_commit (j : IncidentId) :
    (b.commit o i new).isOffered j ↔ if i = j then new.state = .offered else b.isOffered j := by
  rw [Board.isOffered, Board.commit_incident]
  split_ifs
  · rw [Option.map_some, Option.some.injEq]
  · exact Iff.rfl

theorem Board.slot_loweredDesk (d : DeskId) :
    (b.loweredDesk i new d).slot = (b.desks[d]).slot := by
  unfold Board.loweredDesk
  split_ifs <;> rfl

/-- R92: what an event leaves in each slot. -/
theorem Board.offeredTo_commit (d : DeskId) :
    (b.commit o i new).offeredTo d = if b.loses o i new d = true then none else b.offeredTo d := by
  by_cases hne : b.incident i = some new
  · have : ¬b.loses o i new d = true := by
      intro hl
      obtain ⟨-, hold, hnew, -⟩ := of_decide_eq_true hl
      rw [hne] at hold
      exact hnew (Option.some.inj hold)
    rw [if_neg this, Board.commit_of_same hne]
  · rw [Board.offeredTo, (Board.getElem_commit o hne d).1]
    split_ifs
    · rfl
    · rw [Board.slot_loweredDesk]
      rfl

theorem Board.offeredTo_commit_of_ne {o : Origin} (ho : o ≠ .table) (d : DeskId) :
    (b.commit o i new).offeredTo d = b.offeredTo d := by
  rw [Board.offeredTo_commit, if_neg fun h => ho (of_decide_eq_true h).1]

end

/-- R92: an event of the table that makes no incident OFFERED withdraws exactly the offer that it takes away. -/
theorem Board.Slotted.commit {b : Board} (h : b.Slotted) {i : IncidentId} {new : Incident}
    (hoffer : new.state = .offered → b.isOffered i) : (b.commit .table i new).Slotted := by
  have kept : ∀ {d j}, (b.commit .table i new).offeredTo d = some j →
      b.loses .table i new d = false ∧ b.offeredTo d = some j := by
    intro d j hd
    rw [Board.offeredTo_commit] at hd
    split_ifs at hd with hl
    exact ⟨Bool.eq_false_iff.2 hl, hd⟩
  refine h.update i (fun j hj => ?_) (fun d j hj => ⟨fun hd => (kept hd).2, fun hd => ?_⟩) ⟨fun hi => ?_, fun hi => ?_⟩
    fun d e hd he => h.apart i d e (kept hd).2 (kept he).2
  · rw [Board.isOffered_commit, if_neg hj.symm]
  · rw [Board.offeredTo_commit, if_neg, hd]
    intro hl
    exact hj (Option.some.inj (hd.symm.trans (of_decide_eq_true hl).2.2.2))
  · rw [Board.isOffered_commit, if_pos rfl] at hi
    obtain ⟨d, hd⟩ := (h.stands i).1 (hoffer hi)
    refine ⟨d, ?_⟩
    rw [Board.offeredTo_commit, if_neg, hd]
    intro hl
    exact (of_decide_eq_true hl).2.2.1 hi
  · obtain ⟨d, hd⟩ := hi
    obtain ⟨hl, hd⟩ := kept hd
    rw [Board.isOffered_commit, if_pos rfl]
    by_contra hnew
    exact of_decide_eq_false hl ⟨rfl, (h.stands i).2 ⟨d, hd⟩, hnew, hd⟩

/-! ## The counts (R94) -/

/-- What an incident adds to the assigned count of a desk. -/
def Board.share (b : Board) (d : DeskId) (i : IncidentId) : Nat :=
  if (b.incident i).bind Incident.holder = some d then 1 else 0

theorem Board.card_heldSet (b : Board) (d : DeskId) (i : IncidentId) :
    (b.heldSet d).card = b.share d i + ∑ j ∈ Finset.univ.erase i, b.share d j := by
  rw [Finset.add_sum_erase Finset.univ (b.share d) (Finset.mem_univ i), Board.heldSet, Finset.card_filter]
  rfl

theorem Board.Counted.update {b c : Board} (h : b.Counted) (i : IncidentId)
    (hinc : ∀ j, j ≠ i → c.incident j = b.incident j)
    (hcount : ∀ d : DeskId, (c.desks[d]).assigned + b.share d i = (b.desks[d]).assigned + c.share d i) : c.Counted := by
  intro d
  have same : ∑ j ∈ Finset.univ.erase i, c.share d j = ∑ j ∈ Finset.univ.erase i, b.share d j :=
    Finset.sum_congr rfl fun j hj => by rw [Board.share, hinc j (Finset.ne_of_mem_erase hj)]; rfl
  have hb := h d
  have hd := hcount d
  rw [Board.card_heldSet b d i] at hb
  rw [Board.card_heldSet c d i, same]
  omega

theorem Board.Counted.share_le {b : Board} (h : b.Counted) (d : DeskId) (i : IncidentId) :
    b.share d i ≤ (b.desks[d]).assigned := by
  rw [h d, Board.card_heldSet b d i]
  exact Nat.le_add_right ..

/-- R94: what an event leaves of each count. -/
theorem Board.assigned_commit (o : Origin) (i : IncidentId) (new : Incident) (b : Board) (d : DeskId) :
    ((b.commit o i new).desks[d]).assigned =
      if b.lowers i new d = true then (b.desks[d]).assigned - 1 else (b.desks[d]).assigned := by
  by_cases hne : b.incident i = some new
  · have : ¬b.lowers i new d = true := by
      intro hl
      obtain ⟨hnew, hold, -⟩ := of_decide_eq_true hl
      rw [hne] at hold
      exact hold (congrArg some hnew)
    rw [if_neg this, Board.commit_of_same hne]
  · have lowered : (b.loweredDesk i new d).assigned =
        if b.lowers i new d = true then (b.desks[d]).assigned - 1 else (b.desks[d]).assigned := by
      unfold Board.loweredDesk
      split_ifs <;> rfl
    rw [(Board.getElem_commit o hne d).1, ← lowered]
    split_ifs <;> rfl

theorem Board.assigned_commit_of_live (o : Origin) (i : IncidentId) {new : Incident} (b : Board) (d : DeskId)
    (h : new.state ≠ .closed) : ((b.commit o i new).desks[d]).assigned = (b.desks[d]).assigned := by
  rw [Board.assigned_commit, if_neg fun hl => h (of_decide_eq_true hl).1]

theorem Board.share_commit (o : Origin) (i : IncidentId) (new : Incident) (b : Board) (d : DeskId) :
    (b.commit o i new).share d i = if new.holder = some d then 1 else 0 := by
  rw [Board.share, Board.commit_incident, if_pos rfl, Option.bind_some]

/-- R55, R94: an event keeps the counts, if a live incident stays with its holder, and a closed one leaves it. -/
theorem Board.Counted.commit {b : Board} (h : b.Counted) (o : Origin) {i : IncidentId} {new : Incident}
    (hheld : new.state ≠ .closed → new.holder = (b.incident i).bind Incident.holder)
    (hclose : ∀ x, b.incident i = some x → new.state = .closed → x.state ≠ .closed → x.holder = new.assigned)
    (hfresh : b.incident i = none → new.assigned = none) : (b.commit o i new).Counted := by
  refine h.update i (fun j hj => by rw [Board.commit_incident, if_neg hj.symm]) fun d => ?_
  rw [Board.share_commit]
  by_cases hc : new.state = .closed
  · have hholder : new.holder = none := if_neg (by simp [hc])
    have hle := h.share_le d i
    have hshare : b.share d i = if b.lowers i new d = true then 1 else 0 := by
      unfold Board.share Board.lowers
      cases hx : b.incident i with
      | none => simp [hfresh hx]
      | some x =>
        by_cases hxc : x.state = .closed
        · simp [Incident.holder, hxc]
        · simp [hclose x hx hc hxc, hc, hxc]
    rw [Board.assigned_commit, hholder, if_neg (show (none : Option DeskId) ≠ some d by simp)]
    split_ifs at hshare ⊢ <;> omega
  · rw [Board.assigned_commit_of_live o i b d hc, hheld hc]
    rfl

end Sys2Proof.Machine
end

section
/-! SUPPORT. What the changes of one incident keep of it, and what every operation of the board keeps of its arrangement:
the incident table, the urgency unit, the arbiter and adoption (R44, R74, R81, R83, R94). -/

namespace Sys2Proof.Machine

/-! ## One incident (R45 to R58) -/

/-- What an event of the incident table leaves of an incident for the arrangement of the board: its subject, the time it was
opened and its assigned desk; it is not OFFERED unless it was, and it stays CLOSED. -/
structure Moves (x y : Incident) : Prop where
  subject  : y.subject = x.subject
  openedAt : y.openedAt = x.openedAt
  assigned : y.assigned = x.assigned
  offered  : y.state = .offered → x.state = .offered
  closed   : x.state = .closed → y.state = .closed
  free     : x.Free → y.Free

namespace Moves

protected theorem refl (x : Incident) : Moves x x := ⟨rfl, rfl, rfl, id, id, id⟩

protected theorem trans {x y z : Incident} (h : Moves x y) (k : Moves y z) : Moves x z :=
  ⟨k.subject.trans h.subject, k.openedAt.trans h.openedAt, k.assigned.trans h.assigned, h.offered ∘ k.offered,
    k.closed ∘ h.closed, k.free ∘ h.free⟩

/-- A change of other fields. -/
theorem of_frame {x y : Incident} (hsubject : y.subject = x.subject) (hopened : y.openedAt = x.openedAt)
    (hassigned : y.assigned = x.assigned) (hstate : y.state = x.state) : Moves x y :=
  ⟨hsubject, hopened, hassigned, fun h => hstate ▸ h, fun h => hstate.trans h,
    fun h hs => hassigned.trans (h (hstate ▸ hs))⟩

theorem reweigh (c : Setup) (x : Incident) : Moves x (reweigh c x) := .of_frame rfl rfl rfl rfl

theorem recount (x : Incident) : Moves x (recount x) := by
  rw [recount_eq]
  exact .of_frame rfl rfl rfl rfl

/-- R58: an OFFERED incident whose group changes is OPEN. -/
theorem moveGroup (g : DeskId) (x : Incident) : Moves x (moveGroup g x) := by
  by_cases h : x.state = .offered
  · exact ⟨rfl, rfl, rfl, fun _ => h, fun hc => absurd (h.symm.trans hc) (by decide), fun hf _ => hf (.inr h)⟩
  · exact .of_frame rfl rfl rfl (if_neg h)

theorem checkTrip (c : Setup) (k : CircuitId) (x : Incident) : Moves x (checkTrip c k x) := by
  have tripped : Moves x { x with tripped := true } := .of_frame rfl rfl rfl rfl
  dsimp only [Machine.checkTrip]
  split_ifs
  · split
    · split_ifs
      · exact tripped.trans (moveGroup ..)
      · exact tripped
    · exact tripped
  · exact .refl x

/-- R56: a RESTORED incident that no desk holds is OPEN again. -/
theorem reopen (x : Incident) : Moves x (reopen x) := by
  by_cases h : x.state = .restored
  · rw [reopen_of_restored h]
    refine ⟨rfl, rfl, rfl, fun ho => ?_, fun hc => absurd (h.symm.trans hc) (by decide), fun _ ho => ?_⟩
    · dsimp only at ho
      split_ifs at ho
    · cases ha : x.assigned with
      | none => rfl
      | some e => simp [ha] at ho
  · rw [Machine.reopen, if_neg h]
    exact .refl x

theorem closeNow (c : Setup) (x : Incident) : Moves x (closeNow c x) := by
  refine ⟨rfl, rfl, rfl, fun h => ?_, fun _ => rfl, fun _ h => ?_⟩
  · cases h
  · rcases h with h | h <;> cases h

theorem restoreNow (c : Setup) {x : Incident} (h : x.state ≠ .closed) : Moves x (restoreNow c x) := by
  have restored : Moves x (Machine.reweigh c { x with
      state := .restored, restoredAt := some c.time, closeDelay := some (c.time + c.active.params.closeDelay) }) := by
    refine ⟨rfl, rfl, rfl, fun ho => ?_, fun hc => absurd hc h, fun _ ho => ?_⟩
    · cases ho
    · rcases ho with ho | ho <;> cases ho
  dsimp only [Machine.restoreNow]
  split_ifs
  · exact restored.trans (closeNow ..)
  · exact restored

theorem joined (c : Setup) (k : CircuitId) (m : Member) (x : Incident) : Moves x (joined c k m x) :=
  have member : Moves (Machine.reopen x) { Machine.reopen x with members := insertMember m (Machine.reopen x).members } :=
    .of_frame rfl rfl rfl rfl
  (reopen x).trans <| member.trans <| (recount _).trans <| (checkTrip c k _).trans <| reweigh ..

theorem counted (c : Setup) (k : CircuitId) (x : Incident) : Moves x (counted c k x) := by
  have more : Moves (Machine.reopen x) { Machine.reopen x with unrecorded := (Machine.reopen x).unrecorded + 1 } :=
    .of_frame rfl rfl rfl rfl
  dsimp only [Machine.counted]
  split_ifs
  · exact .refl x
  · exact (reopen x).trans <| more.trans <| (checkTrip c k _).trans <| reweigh ..

theorem updMember (asset : Nat) (g : Member → Member) (x : Incident) : Moves x (updMember asset g x) :=
  .of_frame rfl rfl rfl rfl

theorem conditionChanged (c : Setup) (asset : Nat) (k : Condition) (x : Incident) :
    Moves x (conditionChanged c asset k x) := by
  have changed := (updMember asset (fun m => { m with condition := k }) x).trans (recount _)
  dsimp only [Machine.conditionChanged]
  split_ifs
  · exact changed
  · exact changed.trans (reweigh ..)

end Moves

/-- An incident at fault is live. -/
theorem Incident.ne_closed_of_atFault {x : Incident} (h : x.atFault = true) : x.state ≠ .closed := fun hc => by
  simp [Incident.atFault, hc] at h

theorem Incident.live_iff {x : Incident} : x.live = true ↔ x.state ≠ .closed := decide_eq_true_iff

namespace Moves

theorem left (c : Setup) (asset : Nat) (x : Incident) : Moves x (left c asset x) := by
  have without : Moves x { x with members := x.members.filter fun m => decide (m.asset ≠ asset) } :=
    .of_frame rfl rfl rfl rfl
  have counted := without.trans (recount _)
  dsimp only [Machine.left]
  split_ifs with h
  · simp only [Bool.and_eq_true] at h
    have live := Incident.ne_closed_of_atFault h.1.2
    refine counted.trans (restoreNow c ?_)
    rw [recount_eq]
    exact live
  · exact counted.trans (reweigh ..)

theorem uncounted (c : Setup) (x : Incident) : Moves x (uncounted c x) := by
  have fewer : Moves x { x with unrecorded := x.unrecorded - 1 } := .of_frame rfl rfl rfl rfl
  dsimp only [Machine.uncounted]
  split_ifs with h
  · exact fewer.trans (reweigh ..)
  · exact fewer.trans (restoreNow c (Incident.ne_closed_of_atFault (Bool.and_eq_true_iff.1 h).1))
  · exact .refl x

theorem forgotten (x : Incident) : Moves x (forgotten x) := by
  dsimp only [Machine.forgotten]
  split_ifs
  · exact .of_frame rfl rfl rfl rfl
  · exact .refl x

theorem adoptIncident (c : Setup) (old : Settings) (x : Incident) : Moves x (adoptIncident c old x) := by
  have home : Moves x (rehome c old x) := by
    dsimp only [rehome]
    split_ifs
    · exact moveGroup ..
    · exact .refl x
  unfold Machine.adoptIncident toGroupStart
  split_ifs
  · exact closeNow c x
  · exact home
  · exact home.trans (moveGroup ..)

end Moves

/-! ## An event on an incident that the table lists -/

/-- The arrangement rests on the incident table, the queues, the slots and the counts alone. -/
theorem Board.Arranged.congr {b c : Board} (h : b.Arranged) (hi : c.incidents = b.incidents) (hq : c.queues = b.queues)
    (hd : ∀ d : DeskId, (c.desks[d]).slot = (b.desks[d]).slot ∧ (c.desks[d]).assigned = (b.desks[d]).assigned) :
    c.Arranged := by
  have hinc : ∀ i, c.incident i = b.incident i := fun i => by rw [Board.incident, Board.record, hi]; rfl
  refine .of_parts (h.filed.congr hi hq) (h.slotted.congr (fun j => ?_) fun d => congrArg _ (hd d).1) fun d => ?_
  · rw [Board.isOffered, hinc]
    exact Iff.rfl
  · rw [(hd d).2, h.counted d]
    simp only [Board.heldSet, hinc]

/-- An event on an incident that keeps its subject, the time it was opened, and CLOSED. -/
theorem Board.Filed.commit_listed {b : Board} (h : b.Filed) (o : Origin) {i : IncidentId} {x y : Incident}
    (hx : b.incident i = some x) (hs : y.subject = x.subject) (ho : y.openedAt = x.openedAt)
    (hc : x.state = .closed → y.state = .closed) (hf : y.Free) : (b.commit o i y).Filed := by
  refine h.commit o (fun hl j z hj hz hzl hzs => ?_) (fun x' hx' _ => ?_) hf
  · have hxl : x.live = true := Incident.live_iff.2 (mt hc (Incident.live_iff.1 hl))
    exact hj (h.single j i z x hz hx hzl hxl (hzs.trans hs))
  · cases hx.symm.trans hx'
    exact ho.symm

/-- R94: of a live incident with no desk unless one has accepted it, the assigned desk is its holder. -/
theorem Incident.Free.holder_eq {x : Incident} (h : x.Free) (hc : x.state ≠ .closed) : x.holder = x.assigned := by
  unfold Incident.holder
  split_ifs with hs
  · rfl
  · refine (h ?_).symm
    cases hx : x.state <;> simp_all

theorem Board.Counted.commit_listed {b : Board} (h : b.Counted) (o : Origin) {i : IncidentId} {x y : Incident}
    (hx : b.incident i = some x) (hm : Moves x y) (hf : x.Free) : (b.commit o i y).Counted := by
  refine h.commit o (fun hy => ?_) (fun x' hx' _ hc => ?_) (fun hn => by cases hx.symm.trans hn)
  · rw [hx, Option.bind_some, (hm.free hf).holder_eq hy, hf.holder_eq (mt hm.closed hy), hm.assigned]
  · cases hx.symm.trans hx'
    rw [hf.holder_eq hc, hm.assigned]

section

variable {b : Board} (h : b.Arranged)
include h

theorem Board.Arranged.foldl {α : Type} {f : Board → α → Board} (hf : ∀ b x, b.Arranged → (f b x).Arranged)
    (l : List α) : (l.foldl f b).Arranged := by
  induction l generalizing b with
  | nil => exact h
  | cons x rest ih => exact ih (hf b x h)

/-- An event of the table on an incident that it lists. -/
theorem Board.Arranged.commit {i : IncidentId} {x y : Incident} (hx : b.incident i = some x) (hm : Moves x y) :
    (b.commit .table i y).Arranged := by
  have hf := h.free i x hx
  refine .of_parts (h.filed.commit_listed .table hx hm.subject hm.openedAt hm.closed (hm.free hf))
    (h.slotted.commit fun ho => ?_) (h.counted.commit_listed .table hx hm hf)
  exact Board.isOffered_iff.2 ⟨x, hx, hm.offered ho⟩

/-- A command on an incident that is OFFERED after it as it was before (R62, R64). -/
theorem Board.Arranged.commit_command {i : IncidentId} {x y : Incident} (hx : b.incident i = some x) (hm : Moves x y)
    (ho : x.state = .offered → y.state = .offered) : (b.commit .command i y).Arranged := by
  have hf := h.free i x hx
  refine .of_parts (h.filed.commit_listed .command hx hm.subject hm.openedAt hm.closed (hm.free hf))
    (h.slotted.congr (fun j => ?_) (Board.offeredTo_commit_of_ne i y b (by decide)))
    (h.counted.commit_listed .command hx hm hf)
  rw [Board.isOffered_commit]
  split_ifs with hij
  · subst hij
    rw [Board.isOffered, hx, Option.map_some, Option.some.injEq]
    exact ⟨hm.offered, ho⟩
  · exact Iff.rfl

theorem Board.Arranged.setAging (i : IncidentId) (x : Option Boundary) : (b.setAging i x).Arranged := by
  cases x <;> exact h.congr rfl rfl fun _ => ⟨rfl, rfl⟩

theorem Board.Arranged.updLink (d : DeskId) (g : Link → Link) : (b.updLink d g).Arranged :=
  h.congr rfl rfl fun _ => ⟨rfl, rfl⟩

theorem Board.Arranged.notify (d : DeskId) (n : Notice) : (b.notify d n).Arranged := h.updLink d _

/-- What a desk is but for its slot and its count is no part of the arrangement. -/
theorem Board.Arranged.updDesk (d : DeskId) (g : Desk → Desk)
    (hg : (g b.desks[d]).slot = (b.desks[d]).slot ∧ (g b.desks[d]).assigned = (b.desks[d]).assigned) :
    (b.updDesk d g).Arranged := by
  refine h.congr rfl rfl fun e => ?_
  rw [Board.getElem_updDesk]
  split_ifs with hd
  · exact hd ▸ hg
  · exact ⟨rfl, rfl⟩

theorem Board.Arranged.withPointers (p : Vector DeskId 6) : ({ b with pointers := p } : Board).Arranged :=
  h.congr rfl rfl fun _ => ⟨rfl, rfl⟩

/-! ## The incident table (R45 to R53) -/

/-- R44, R45: an incident opened for a subject that has no live one, in a place without a live one. -/
theorem Board.Arranged.openAt (c : Setup) {i : IncidentId} {new : Incident} (hl : b.liveOf new.subject = none)
    (hi : b.freshRecord = some i) (ha : new.assigned = none) (ho : new.state ≠ .offered) :
    (b.openAt c i new).Arranged := by
  have closed : ∀ x, b.incident i = some x → x.state = .closed := fun x => Board.freshRecord_not_live h.rising hi
  have idle : (b.incident i).bind Incident.holder = none := by
    cases hx : b.incident i with
    | none => rfl
    | some x => exact if_neg (by simp [closed x hx])
  refine Board.Arranged.setAging (.of_parts ?_ (h.slotted.commit (absurd · ho)) ?_) i _
  · refine h.filed.commit .table (fun _ j z _ hz hzl => Board.liveOf_eq_none hl hz hzl) (fun x hx hxo => ?_) fun _ => ha
    cases (closed x hx).symm.trans hxo
  · refine h.counted.commit .table (fun _ => ?_) (fun x hx _ hc => absurd (closed x hx) hc) fun _ => ha
    rw [idle, Incident.holder, ha, ite_self]

/-- R45: a new incident, after the event that opens it. -/
theorem Board.Arranged.open_new (c : Setup) {i : IncidentId} {subject : Subject} {cls : Cls} {worst : Option Condition}
    {new : Incident} (hl : b.liveOf subject = none) (hi : b.freshRecord = some i)
    (hm : Moves (newIncident c subject cls worst) new) : (b.openAt c i new).Arranged := by
  refine h.openAt c ?_ hi hm.assigned fun ho => ?_
  · rw [hm.subject]
    exact hl
  · cases hm.offered ho

theorem Board.Arranged.commit_live {subject : Subject} {p : IncidentId × Incident} (hp : b.liveOf subject = some p)
    {y : Incident} (hm : Moves p.2 y) : (b.commit .table p.1 y).Arranged :=
  h.commit (Board.liveOf_spec h.rising hp).1 hm

theorem Board.Arranged.join (c : Setup) (k : CircuitId) (m : Member) : (b.join c k m).2.Arranged := by
  unfold Board.join
  split
  · next hl => exact h.commit_live hl (.joined ..)
  · next hl =>
    split
    · next hi => exact h.open_new c hl hi (.joined ..)
    · exact h

theorem Board.Arranged.leave (c : Setup) (asset : Nat) (i : IncidentId) : (b.leave c asset i).Arranged := by
  unfold Board.leave
  split
  · next hx => exact h.commit hx (.left ..)
  · exact h

theorem Board.Arranged.changeCondition (c : Setup) (asset : Nat) (x : Condition) (i : IncidentId) :
    (b.changeCondition c asset x i).Arranged := by
  unfold Board.changeCondition
  split
  · next hx => exact h.commit hx (.conditionChanged ..)
  · exact h

theorem Board.Arranged.changeMarks (asset : Nat) (stale underOp : Bool) (i : IncidentId) :
    (b.changeMarks asset stale underOp i).Arranged := by
  unfold Board.changeMarks
  split
  · next hx => exact h.commit hx (.updMember ..)
  · exact h

theorem Board.Arranged.countUp (c : Setup) (k : CircuitId) (kind : Kind) : (b.countUp c k kind).Arranged := by
  unfold Board.countUp
  split
  · next hl => exact h.commit_live hl (.counted ..)
  · next hl =>
    split
    · next hi => exact h.open_new c hl hi (.counted ..)
    · exact h

theorem Board.Arranged.countDown (c : Setup) (k : CircuitId) : (b.countDown c k).Arranged := by
  unfold Board.countDown
  split
  · next hl => exact h.commit_live hl (.uncounted ..)
  · exact h

theorem Board.Arranged.faultOf (c : Setup) (x : Subject) (worst : Condition) : (b.faultOf c x worst).Arranged := by
  unfold Board.faultOf
  split
  · next hl =>
    split_ifs
    · exact h.commit_live hl ((Moves.reopen _).trans (.reweigh ..))
    · exact h
  · next hl =>
    split
    · next hi => exact h.open_new c hl hi (.reweigh ..)
    · exact h

theorem Board.Arranged.restoreOf (c : Setup) (x : Subject) : (b.restoreOf c x).Arranged := by
  unfold Board.restoreOf
  split
  · next hl =>
    split_ifs with hf
    · exact h.commit_live hl (.restoreNow c (Incident.ne_closed_of_atFault hf))
    · exact h
  · exact h

theorem Board.Arranged.recompute (c : Setup) (i : IncidentId) : (b.recompute c i).Arranged := by
  unfold Board.recompute
  split
  · next hx =>
    split_ifs
    · exact h.commit hx (.reweigh ..)
    · exact h
  · exact h

theorem Board.Arranged.ageBoundary (c : Setup) (i : IncidentId) (k : Nat) : (b.ageBoundary c i k).Arranged := by
  unfold Board.ageBoundary
  split
  · exact (h.recompute c i).setAging i _
  · exact h

end

/-! ## The arbiter: slots (R84 to R92) -/

theorem Board.offeredTo_updDesk (d e : DeskId) (g : Desk → Desk) (b : Board) :
    (b.updDesk d g).offeredTo e = if d = e then (g b.desks[d]).slot.map (·.incident) else b.offeredTo e := by
  rw [Board.offeredTo, Board.getElem_updDesk]
  split_ifs <;> rfl

theorem Board.isOffered_commit_of_ne {o : Origin} {i j : IncidentId} {new : Incident} {b : Board} (hj : j ≠ i) :
    (b.commit o i new).isOffered j ↔ b.isOffered j := by
  rw [Board.isOffered_commit, if_neg hj.symm]

theorem Incident.holder_of_idle {x : Incident} (h : x.state ≠ .assigned) (h' : x.state ≠ .restored) : x.holder = none :=
  if_neg (by simp [h, h'])

theorem Board.share_of_incident {b : Board} {i : IncidentId} {x : Incident} (hx : b.incident i = some x) (d : DeskId) :
    b.share d i = if x.holder = some d then 1 else 0 := by
  rw [Board.share, hx, Option.bind_some]

theorem Board.share_of_idle {b : Board} {i : IncidentId} {x : Incident} (hx : b.incident i = some x)
    (h : x.state ≠ .assigned) (h' : x.state ≠ .restored) (d : DeskId) : b.share d i = 0 := by
  rw [Board.share_of_incident hx, Incident.holder_of_idle h h', if_neg (show (none : Option DeskId) ≠ some d by simp)]

section

variable {b : Board} (h : b.Arranged) {i : IncidentId} {d : DeskId}
include h

/-- R81: the incident in a slot is OFFERED. -/
theorem Board.Arranged.incident_of_offeredTo (hd : b.offeredTo d = some i) :
    ∃ x, b.incident i = some x ∧ x.state = .offered ∧ x.assigned = none := by
  obtain ⟨x, hx, hs⟩ := Board.isOffered_iff.1 ((h.slotted.stands i).2 ⟨d, hd⟩)
  exact ⟨x, hx, hs, h.free i x hx (.inr hs)⟩

/-- R86: an offer of an OPEN incident to a desk with an empty slot. -/
theorem Board.Arranged.makeOffer (c : Setup) {g : DeskId} {x : Incident} (hx : b.incident i = some x)
    (hs : x.state = .opened) (hd : (b.desks[d]).slot = none) : (b.makeOffer c g d i x).Arranged := by
  have hf := h.free i x hx
  have filled : ((b.commit .arbiter i { x with state := .offered }).updDesk d fun y =>
      { y with slot := some ⟨i, c.time + b.timeouts[g]⟩ }).Arranged := by
    refine .of_parts ?_ ?_ ?_
    · refine Board.Filed.congr (b := b.commit .arbiter i { x with state := .offered }) ?_ rfl rfl
      exact h.filed.commit_listed .arbiter hx rfl rfl (fun hc => by cases hs.symm.trans hc) fun _ => hf (.inl hs)
    · refine h.slotted.filled (i := i) (d := d) (by rw [Board.offeredTo, hd]; rfl) (fun ho => ?_) ?_
        (fun j hj => Board.isOffered_commit_of_ne hj) fun e => ?_
      · obtain ⟨y, hy, hyo⟩ := Board.isOffered_iff.1 ho
        cases hx.symm.trans hy
        cases hs.symm.trans hyo
      · exact (Board.isOffered_commit ..).2 (by rw [if_pos rfl])
      · rw [Board.offeredTo_updDesk, Board.offeredTo_commit_of_ne _ _ _ (by decide)]
        rfl
    · refine h.counted.update i (fun j hj => (Board.commit_incident ..).trans (if_neg hj.symm)) fun e => ?_
      have before := Board.share_of_idle hx (by simp [hs]) (by simp [hs]) e
      have after : ((b.commit .arbiter i { x with state := .offered }).updDesk d fun y =>
          { y with slot := some ⟨i, c.time + b.timeouts[g]⟩ }).share e i = 0 :=
        Board.share_of_idle ((Board.commit_incident ..).trans (if_pos rfl)) (by simp) (by simp) e
      have count := b.assigned_commit_of_live .arbiter i (new := { x with state := .offered }) e (by simp)
      rw [before, after, Board.getElem_updDesk]
      split_ifs with hde
      · subst hde
        exact congrArg (· + 0) count
      · exact congrArg (· + 0) count
  exact (filled.withPointers _).notify d _

/-- R87: the offered incident accepted. -/
theorem Board.Arranged.acceptOffer (hd : b.offeredTo d = some i) : (b.acceptOffer d i).Arranged := by
  obtain ⟨x, hx, hs, ha⟩ := h.incident_of_offeredTo hd
  have held : ({ x with state := .assigned, assigned := some d } : Incident).holder = some d := if_pos (.inl rfl)
  have hinc : (b.commit .arbiter i { x with state := .assigned, assigned := some d }).incident i =
      some { x with state := .assigned, assigned := some d } := (Board.commit_incident ..).trans (if_pos rfl)
  unfold Board.acceptOffer
  rw [hx]
  refine .of_parts ?_ (h.slotted.emptied hd (fun ho => ?_) (fun j hj => Board.isOffered_commit_of_ne hj) fun e => ?_) ?_
  · refine Board.Filed.congr (b := b.commit .arbiter i { x with state := .assigned, assigned := some d }) ?_ rfl rfl
    refine h.filed.commit_listed .arbiter hx rfl rfl (fun hc => by cases hs.symm.trans hc) fun ho => ?_
    rcases ho with ho | ho <;> cases ho
  · have := (Board.isOffered_commit ..).1 (show (b.commit .arbiter i _).isOffered i from ho)
    rw [if_pos rfl] at this
    cases this
  · rw [Board.offeredTo_updDesk, Board.emptySlot, Board.getElem_updDesk, if_pos rfl, Board.offeredTo_updDesk,
      Board.offeredTo_commit_of_ne _ _ _ (by decide)]
    split_ifs <;> rfl
  · refine h.counted.update i (fun j hj => (Board.commit_incident ..).trans (if_neg hj.symm)) fun e => ?_
    have before := Board.share_of_idle hx (by simp [hs]) (by simp [hs]) e
    have after : (((b.commit .arbiter i { x with state := .assigned, assigned := some d }).emptySlot d).updDesk d
        fun y => { y with assigned := y.assigned + 1 }).share e i = if d = e then 1 else 0 := by
      refine (Board.share_of_incident (by exact hinc) e).trans ?_
      simp only [held, Option.some.injEq]
    have count := b.assigned_commit_of_live .arbiter i (new := { x with state := .assigned, assigned := some d }) e
      (by simp)
    rw [before, after, Board.getElem_updDesk, Board.emptySlot, Board.getElem_updDesk, Board.getElem_updDesk, if_pos rfl]
    split_ifs with hde
    · subst hde
      exact congrArg (· + 1) count
    · exact count

/-- R88, R92: an offered incident back to OPEN, and the slot emptied. -/
theorem Board.Arranged.takeBack (hd : b.offeredTo d = some i) {x y : Incident} (hx : b.incident i = some x)
    (hm : Moves x y) (hy : y.state = .opened) (g : Desk → Desk) (hslot : (g b.desks[d]).slot = none)
    (hcount : (g b.desks[d]).assigned = (b.desks[d]).assigned) : ((b.updDesk d g).commit .arbiter i y).Arranged := by
  have hf := h.free i x hx
  have counted : (b.updDesk d g).Counted := fun e => by
    refine Eq.trans ?_ (h.counted e)
    rw [Board.getElem_updDesk]
    split_ifs with hde
    · rw [hcount, hde]
    · rfl
  refine .of_parts ?_ (h.slotted.emptied hd (fun ho => ?_) (fun j hj => Board.isOffered_commit_of_ne hj) fun e => ?_)
    (counted.commit_listed .arbiter hx hm hf)
  · exact Board.Filed.commit_listed (b := b.updDesk d g) (h.filed.congr rfl rfl) .arbiter hx hm.subject hm.openedAt hm.closed
      (hm.free hf)
  · rw [Board.isOffered_commit, if_pos rfl, hy] at ho
    cases ho
  · rw [Board.offeredTo_commit_of_ne _ _ _ (by decide), Board.offeredTo_updDesk, hslot]
    rfl

theorem Board.Arranged.declineOffer (c : Setup) (hd : b.offeredTo d = some i) : (b.declineOffer c d i).Arranged := by
  obtain ⟨x, hx, hs, ha⟩ := h.incident_of_offeredTo hd
  have hm : Moves x (declinedBy c d x) := by
    have hstate := declinedBy_state c d x
    have frame : (declinedBy c d x).subject = x.subject ∧ (declinedBy c d x).openedAt = x.openedAt ∧
        (declinedBy c d x).assigned = x.assigned := by
      dsimp only [declinedBy]
      split_ifs <;> exact ⟨rfl, rfl, rfl⟩
    obtain ⟨hsubject, hopened, hassigned⟩ := frame
    exact ⟨hsubject, hopened, hassigned, fun _ => hs, fun hc => absurd (hs.symm.trans hc) (by decide), fun _ _ => hassigned.trans ha⟩
  unfold Board.declineOffer
  rw [hx]
  exact h.takeBack hd hx hm (declinedBy_state c d x) _ rfl rfl

theorem Board.Arranged.expireOffer (c : Setup) (hd : b.offeredTo d = some i) : (b.expireOffer c d i).Arranged :=
  ((h.declineOffer c hd).updDesk d _ ⟨rfl, rfl⟩).notify d _

theorem Board.Arranged.withdrawSlot (cause : Option WithdrawCause) (d : DeskId) : (b.withdrawSlot cause d).Arranged := by
  unfold Board.withdrawSlot
  split
  · next o ho =>
    have hd : b.offeredTo d = some o.incident := Board.offeredTo_eq_some.2 ⟨o, ho, rfl⟩
    obtain ⟨x, hx, hs, ha⟩ := h.incident_of_offeredTo hd
    have hm : Moves x { x with state := .opened } :=
      ⟨rfl, rfl, rfl, fun _ => hs, fun hc => absurd (hs.symm.trans hc) (by decide), fun _ _ => ha⟩
    have back := h.takeBack hd hx hm rfl (fun y => { y with slot := none, lastWithdrawn := some o.incident }) rfl rfl
    have hx' : (b.updDesk d fun y => { y with slot := none, lastWithdrawn := some o.incident }).incident o.incident =
        some x := hx
    dsimp only
    rw [hx']
    cases cause with
    | none => exact back
    | some k => exact back.notify d _
  · exact h

/-! ## The arbiter: runs (R84, R85) -/

theorem Board.Arranged.run (c : Setup) (g : DeskId) : (b.run c g).Arranged := by
  have steps : ∀ (fuel : Nat) (b : Board), b.Arranged → (runSteps c g fuel b).Arranged := by
    intro fuel
    induction fuel with
    | zero => exact fun _ hb => hb
    | succ fuel ih =>
      intro b hb
      simp only [runSteps]
      split
      · next hn =>
        obtain ⟨hdesk, -, hx, hq⟩ := nextOffer_spec hn
        obtain ⟨x, hx', hs, -⟩ := (hb.queued g _).1 hq
        cases hx.symm.trans hx'
        exact ih _ (hb.makeOffer c hx hs (eligible_slot hdesk))
      · exact hb
  exact steps 6 b h

theorem Board.Arranged.runAll (c : Setup) : (b.runAll c).Arranged := h.foldl (fun _ g hc => hc.run c g) _

theorem Board.Arranged.runsAfter (c : Setup) (before : Board) : (Board.runsAfter c before b).Arranged :=
  h.foldl (fun _ g hc => hc.run c g) _

theorem Board.Arranged.beginLines : b.beginLines.Arranged := h.foldl (fun _ d hc => hc.updLink d _) _

/-! ## The arbiter: holding and giving up (R94 to R100) -/

omit h in
/-- R94: an incident that a desk holds is neither CLOSED nor OFFERED. -/
theorem Incident.states_of_heldBy {x : Incident} (hh : x.heldBy d) : x.state ≠ .closed ∧ x.state ≠ .offered := by
  rcases hh.2 with hs | hs <;> simp [hs]

/-- R95, R96: an incident that a desk holds loses its desk. -/
theorem Board.Arranged.giveUp {x y : Incident} (hx : b.incident i = some x) (hh : x.heldBy d)
    (hsubject : y.subject = x.subject) (hopened : y.openedAt = x.openedAt) (ha : y.assigned = none)
    (hy : y.state = .opened ∨ y.state = .restored) : ((b.commit .arbiter i y).lowerCount d).Arranged := by
  obtain ⟨xClosed, xOffered⟩ := Incident.states_of_heldBy hh
  have yClosed : y.state ≠ .closed := fun hc => by rcases hy with hy | hy <;> cases hy.symm.trans hc
  have yOffered : y.state ≠ .offered := fun hc => by rcases hy with hy | hy <;> cases hy.symm.trans hc
  refine .of_parts ?_ (h.slotted.congr (fun j => ?_) fun e => ?_) ?_
  · exact Board.Filed.congr (b := b.commit .arbiter i y)
      (h.filed.commit_listed .arbiter hx hsubject hopened (absurd · xClosed) fun _ => ha) rfl rfl
  · refine (Board.isOffered_commit ..).trans ?_
    split_ifs with hij
    · refine iff_of_false yOffered fun ho => ?_
      obtain ⟨z, hz, hzo⟩ := Board.isOffered_iff.1 (hij ▸ ho)
      cases hx.symm.trans hz
      exact xOffered hzo
    · exact Iff.rfl
  · rw [Board.lowerCount, Board.offeredTo_updDesk]
    split_ifs with hde
    · exact hde ▸ Board.offeredTo_commit_of_ne i y b (by decide) d
    · exact Board.offeredTo_commit_of_ne i y b (by decide) e
  · refine h.counted.update i (fun j hj => (Board.commit_incident ..).trans (if_neg hj.symm)) fun e => ?_
    have before : b.share e i = if d = e then 1 else 0 := by
      simp only [Board.share_of_incident hx, Incident.holder_eq_some.2 hh, Option.some.injEq]
    have after : ((b.commit .arbiter i y).lowerCount d).share e i = 0 := by
      refine (b.share_commit .arbiter i y e).trans (if_neg ?_)
      rw [Incident.holder, ha, ite_self]
      simp
    have le := h.counted.share_le e i
    have count := b.assigned_commit_of_live .arbiter i e yClosed
    rw [before] at le
    rw [before, after, Board.lowerCount, Board.getElem_updDesk]
    split_ifs at le ⊢ with hde
    · subst hde
      show ((b.commit .arbiter i y).desks[d]).assigned - 1 + 1 = _
      omega
    · exact congrArg (· + 0) count

theorem Board.Arranged.releaseOne {x : Incident} (hx : b.incident i = some x) (hh : x.heldBy d) :
    (b.releaseOne d i).Arranged := by
  unfold Board.releaseOne
  rw [hx]
  dsimp only [released]
  split_ifs with hs
  · exact h.giveUp hx hh rfl rfl rfl (.inl rfl)
  · exact h.giveUp hx hh rfl rfl rfl (.inr (hh.2.resolve_left hs))

theorem Board.Arranged.handOver {x : Incident} (g : DeskId) (hx : b.incident i = some x) (hh : x.heldBy d) :
    (b.handOver d g i).Arranged := by
  unfold Board.handOver
  rw [hx]
  exact h.giveUp hx hh rfl rfl rfl (.inl rfl)

end

/-- Of the other incidents, a release changes none; of the counts, it lowers that of the desk. -/
theorem Board.releaseOne_frame {d : DeskId} {i : IncidentId} {x : Incident} {b : Board} (hx : b.incident i = some x)
    (hh : x.heldBy d) : (∀ j, j ≠ i → (b.releaseOne d i).incident j = b.incident j) ∧
      ((b.releaseOne d i).desks[d]).assigned = (b.desks[d]).assigned - 1 := by
  have live : (released x).state ≠ .closed := released_state_ne_closed (Incident.states_of_heldBy hh).1
  unfold Board.releaseOne
  rw [hx]
  refine ⟨fun j hj => (Board.commit_incident ..).trans (if_neg hj.symm), ?_⟩
  dsimp only
  rw [Board.lowerCount, Board.getElem_updDesk, if_pos rfl]
  exact congrArg (· - 1) (b.assigned_commit_of_live .arbiter i d live)

section

variable {b : Board} (h : b.Arranged)
include h

/-- R98: incidents that a desk holds released one after another: each lowers the desk's count. -/
theorem Board.Arranged.foldl_releaseOne {d : DeskId} {l : List IncidentId} (hl : l.Nodup)
    (hh : ∀ i ∈ l, ∃ x, b.incident i = some x ∧ x.heldBy d) :
    (l.foldl (fun b i => b.releaseOne d i) b).Arranged ∧
      ((l.foldl (fun b i => b.releaseOne d i) b).desks[d]).assigned = (b.desks[d]).assigned - l.length := by
  induction l generalizing b with
  | nil => exact ⟨h, rfl⟩
  | cons i rest ih =>
    obtain ⟨hi, hrest⟩ := List.nodup_cons.1 hl
    obtain ⟨x, hx, hheld⟩ := hh i List.mem_cons_self
    obtain ⟨others, count⟩ := Board.releaseOne_frame hx hheld
    obtain ⟨arranged, total⟩ := ih (h.releaseOne hx hheld) hrest fun j hj => by
      rw [others j fun hji => hi (hji ▸ hj)]
      exact hh j (List.mem_cons_of_mem i hj)
    refine ⟨arranged, total.trans ?_⟩
    rw [count, List.length_cons]
    omega

theorem Board.Arranged.releaseAll (d : DeskId) : (b.releaseAll d).Arranged := by
  have nodup : (b.heldBy d).Nodup := (Board.heldBy_pairwise h.rising d).imp fun hij => hij.ne
  obtain ⟨arranged, count⟩ := h.foldl_releaseOne nodup fun i hi => Board.mem_heldBy.1 hi
  refine arranged.updDesk d _ ⟨rfl, ?_⟩
  rw [count, h.counts d, Nat.sub_self]

theorem Board.Arranged.expireAbsence (d : DeskId) : (b.expireAbsence d).Arranged :=
  ((h.releaseAll d).updDesk d _ ⟨rfl, rfl⟩).foldl (fun _ i hb => hb.notify d (.released i _)) _

theorem Board.Arranged.linkLost (c : Setup) (d : DeskId) : (b.linkLost c d).Arranged := by
  have withdrawn := ((h.updDesk d (fun x => { x with onDuty := false }) ⟨rfl, rfl⟩).withdrawSlot none d).updDesk d
    (fun x => { x with absence := some (c.time + c.active.params.absenceGrace) }) ⟨rfl, rfl⟩
  dsimp only [Board.linkLost]
  split_ifs
  · exact withdrawn.expireAbsence d
  · exact withdrawn

theorem Board.Arranged.signOff (d : DeskId) (all : Bool) : (b.signOff d all).2.Arranged := by
  have withdrawn := h.withdrawSlot (some .signedOff) d
  cases all with
  | false => exact withdrawn.updDesk d (fun x => { x with onDuty := false }) ⟨rfl, rfl⟩
  | true => exact (withdrawn.releaseAll d).updDesk d (fun x => { x with onDuty := false }) ⟨rfl, rfl⟩

/-! ## Adoption (R65, R77, R101) -/

theorem Board.Arranged.adoptIncidents (c : Setup) (old : Settings) : (b.adoptIncidents c old).Arranged := by
  refine h.foldl (fun b i hb => ?_) _
  split
  · next hx =>
    split_ifs
    · exact hb.commit hx (.adoptIncident ..)
    · exact hb
  · exact hb

theorem Board.Arranged.reschedule (c : Setup) (i : IncidentId) : (b.reschedule c i).Arranged := by
  unfold Board.reschedule
  split
  · split_ifs
    · exact h.setAging i _
    · exact h
  · exact h

theorem Board.Arranged.adoptUrgency (c : Setup) : (b.adoptUrgency c).Arranged :=
  h.foldl (fun _ i hb => (hb.recompute c i).reschedule c i) _

theorem Board.Arranged.adoptOffers (c : Setup) : (b.adoptOffers c).Arranged := by
  have formed : (b.formGroups c).Arranged := h.foldl (fun b g hb => by
    split_ifs
    · exact hb.congr rfl rfl fun _ => ⟨rfl, rfl⟩
    · exact hb) _
  refine formed.foldl (fun b d hb => ?_) _
  split
  · split
    · split_ifs
      · exact hb
      · exact hb.withdrawSlot _ d
    · exact hb
  · exact hb

end

end Sys2Proof.Machine
end

section
/-! SUPPORT. What the operations that the rows share keep of the board's arrangement: handoffs and records of the fault
table, the end of an operation, the modes and hold sets of stations, the chains, the trunks, and the resets. -/

namespace Sys2Proof.Machine

/-- The board of the state is arranged.  An operation that leaves the board as it is keeps this by definition. -/
def State.Arranged (s : State) : Prop := s.board.Arranged

/-- A board without incidents, with empty queues and slots and with counts of 0. -/
theorem Board.Arranged.of_empty {b : Board} (hi : b.incidents = {}) (hq : ∀ g : DeskId, b.queues[g] = [])
    (hd : ∀ d : DeskId, (b.desks[d]).slot = none ∧ (b.desks[d]).assigned = 0) : b.Arranged := by
  have hinc : ∀ i, b.incident i = none := fun i => by rw [Board.incident, Board.record, hi]; rfl
  refine .of_parts ⟨by rw [hi]; rfl, ?_, fun g i => ?_, fun g => ?_, fun g => ?_, ?_⟩ ⟨fun i => ?_, ?_⟩ fun d => ?_
  · simp [hinc]
  · simp [hinc, hq, -Fin.getElem_fin]
  · simp [hq, -Fin.getElem_fin]
  · simp [hq, -Fin.getElem_fin]
  · simp [hinc]
  · simp [Board.isOffered, Board.offeredTo, hinc, hd, -Fin.getElem_fin]
  · simp [Board.offeredTo, hd, -Fin.getElem_fin]
  · rw [(hd d).2, Board.heldSet]
    simp [hinc]

namespace State.Arranged

section

variable {s : State} (h : s.Arranged)
include h

theorem of_board {t : State} (hb : t.board = s.board) : t.Arranged := (congrArg Board.Arranged hb).mpr h

theorem onBoard {f : Setup → Board → Board} (hf : s.board.Arranged → (f s.setup s.board).Arranged) :
    (s.onBoard f).Arranged := hf h

theorem updStation (n : StationId) (g : Station → Station) : (s.updStation n g).Arranged := h

theorem updTrunk (t : TrunkId) (g : Trunk → Trunk) : (s.updTrunk t g).Arranged := h

theorem updChain (t : TrunkId) (g : Chain → Chain) : (s.updChain t g).Arranged := h

theorem hand (t : TrunkId) (f : DownFrame) : (s.hand t f).Arranged := h

theorem errorOn (t : TrunkId) (e : TrunkError) (p : Place) : (s.errorOn t e p).Arranged := h

theorem recordError (c : ErrorCode) (p : Place) : (s.recordError c p).Arranged := h

theorem updLink (d : DeskId) (g : Link → Link) : (s.updLink d g).Arranged := Board.Arranged.updLink h d g

theorem foldl {α : Type} {f : State → α → State} (hf : ∀ s x, s.Arranged → (f s x).Arranged) (l : List α) :
    (l.foldl f s).Arranged := by
  induction l generalizing s with
  | nil => exact h
  | cons x rest ih => exact ih (hf s x h)

/-! ### Handoffs and records (R25 to R31) -/

theorem joinRecord (r : FaultRecord) : (s.joinRecord r).Arranged := Board.Arranged.join h _ _ _

theorem leaveRecord (r : FaultRecord) : (s.leaveRecord r).Arranged := by
  unfold State.leaveRecord
  split
  · exact h.onBoard fun hb => hb.leave _ _ _
  · exact h

theorem conditionHandoff (r : FaultRecord) : (s.conditionHandoff r).Arranged := by
  unfold State.conditionHandoff
  split
  · exact h.onBoard fun hb => hb.changeCondition _ _ _ _
  · exact h

theorem marksHandoff (r : FaultRecord) : (s.marksHandoff r).Arranged := by
  unfold State.marksHandoff
  split
  · exact h.onBoard fun hb => hb.changeMarks _ _ _ _
  · exact h

theorem removeAndLeave (r : FaultRecord) : (s.removeAndLeave r).Arranged := leaveRecord (by exact h) r

theorem confirmRecord (r : FaultRecord) : (s.confirmRecord r).Arranged := h.joinRecord _

theorem beginRestore (r : FaultRecord) : (s.beginRestore r).Arranged := by
  dsimp only [State.beginRestore]
  split_ifs
  · exact h.removeAndLeave r
  · exact h

theorem settleSuspect (r : FaultRecord) : (s.settleSuspect r).Arranged := by
  unfold State.settleSuspect
  split_ifs
  · exact h.confirmRecord r
  · exact h

theorem writeWithChange (x y : FaultRecord) : (s.writeWithChange x y).Arranged := by
  dsimp only [State.writeWithChange]
  split_ifs
  · exact h
  · exact conditionHandoff (by exact h) y

theorem timerExpires (r : FaultRecord) : (s.timerExpires r).Arranged := by
  unfold State.timerExpires
  split
  · exact h.confirmRecord r
  · exact h.removeAndLeave r
  · exact h

/-! ### Reports (R22 to R33, R35) -/

theorem countReport (r : Report) : (s.countReport r).Arranged := by
  unfold State.countReport
  split_ifs
  · exact h
  · exact h.onBoard fun hb => hb.countDown _ _
  · exact h.onBoard fun hb => hb.countUp _ _ _

theorem reportOnNone (r : Report) : (s.reportOnNone r).Arranged := by
  unfold State.reportOnNone
  split_ifs
  · exact h.settleSuspect _
  · exact h.countReport r

theorem reportOnRecord (r : Report) (x : FaultRecord) : (s.reportOnRecord r x).Arranged := by
  dsimp only [State.reportOnRecord]
  split
  · exact h.settleSuspect _
  · exact h
  · exact h.writeWithChange ..
  · exact h.beginRestore _
  · exact h.writeWithChange ..
  · exact h

theorem applyReport (r : Report) : (s.applyReport r).Arranged := by
  have applied : (s.updStation r.station fun x => { x with applied := saturate 65535 x.applied }).Arranged := h
  dsimp only [State.applyReport]
  split_ifs
  · exact applied.countReport r
  · split
    · exact applied.reportOnNone r
    · exact applied.reportOnRecord r _

theorem takeReport (r : Report) : (s.takeReport r).Arranged := by
  unfold State.takeReport
  split_ifs
  · exact h
  · exact h.applyReport r

/-! ### Every record of a station, and marks (R34, R35, R37) -/

theorem eachRecord {g : FaultRecord → State → State} (hg : ∀ r s, s.Arranged → (g r s).Arranged) (n : StationId) :
    (s.eachRecord n g).Arranged := by
  refine h.foldl (fun s a hs => ?_) _
  split
  · exact hg _ s hs
  · exact hs

theorem suspendTimers (n : StationId) : (s.suspendTimers n).Arranged := by
  refine h.eachRecord (fun r s hs => ?_) n
  exact hs

theorem resumeTimers (n : StationId) : (s.resumeTimers n).Arranged := by
  refine h.eachRecord (fun r s hs => ?_) n
  unfold State.resumeTimer
  split
  · exact hs.timerExpires r
  · exact hs

theorem setStale (n : StationId) (stale : Bool) : (s.setStale n stale).Arranged := by
  refine h.eachRecord (fun r s hs => ?_) n
  split_ifs
  · exact hs
  · exact marksHandoff (by exact hs) _

theorem syncUnderOp (asset : Nat) : (s.syncUnderOp asset).Arranged := by
  unfold State.syncUnderOp
  split
  · dsimp only
    split_ifs
    · exact h
    · exact marksHandoff (by exact h) _
  · exact h

theorem markAsset (asset : Nat) : (s.markAsset asset).Arranged := syncUnderOp (by exact h) asset

theorem unmarkAsset (asset : Nat) : (s.unmarkAsset asset).Arranged := syncUnderOp (by exact h) asset

/-! ### Operation outcomes (R36) -/

theorem lockRemedy (asset : Nat) : (s.lockRemedy asset).Arranged := by
  unfold State.lockRemedy
  split
  · split_ifs
    · split
      · exact h.beginRestore _
      · exact h
      · exact h
    · exact h
  · exact h

theorem equipmentCheck (n : StationId) (k : Kind) (asset : Nat) (circuit : CircuitId) (fold : Bool) (c : Condition) :
    (s.equipmentCheck n k asset circuit fold c).Arranged := by
  unfold State.equipmentCheck
  split
  · split
    · exact h.confirmRecord _
    · exact h.writeWithChange ..
    · exact h.writeWithChange ..
  · split_ifs
    · exact h.onBoard fun hb => hb.countUp _ _ _
    · exact h.joinRecord _

theorem applyOutcome (n : StationId) (k : Kind) (asset : Nat) (a : OutcomeAct) : (s.applyOutcome n k asset a).Arranged := by
  cases a with
  | none => exact h
  | report c =>
    dsimp only [State.applyOutcome]
    split_ifs
    · exact h
    · exact h.applyReport _
  | lockRemedy =>
    dsimp only [State.applyOutcome]
    split_ifs
    · exact h
    · exact h.lockRemedy asset
  | equipment c =>
    dsimp only [State.applyOutcome]
    split_ifs
    · exact h
    · exact h.equipmentCheck ..

/-! ### Adoption (R38) -/

theorem dropRecord (r : FaultRecord) : (s.dropRecord r).Arranged := by
  unfold State.dropRecord
  split_ifs
  · exact h
  · exact h.removeAndLeave r

theorem thresholdAtAdoption (r : FaultRecord) : (s.thresholdAtAdoption r).Arranged := by
  unfold State.thresholdAtAdoption
  split_ifs
  · exact h.settleSuspect r
  · exact h

theorem reexamine (r : FaultRecord) : (s.reexamine r).Arranged := by
  have dropped := h.dropRecord r
  dsimp only [State.reexamine]
  split
  · exact dropped
  · split
    · exact dropped
    · split_ifs
      · exact dropped.onBoard fun hb => hb.countUp _ _ _
      · exact dropped
    · split_ifs
      · exact h.thresholdAtAdoption r
      · exact h.thresholdAtAdoption _
      · exact (h.leaveRecord r).joinRecord _

theorem reexamineAll : s.reexamineAll.Arranged := by
  refine h.foldl (fun s a hs => ?_) _
  split
  · exact hs.reexamine _
  · exact hs

/-! ### The end of an operation (R168 to R172) -/

theorem releaseMark (x : Op) : (s.releaseMark x).Arranged := by
  unfold State.releaseMark
  split_ifs
  · exact h.unmarkAsset x.asset
  · exact h

theorem notifyOpDone (o : OpId) (x : Op) (how : OpEnd) (outcome : OpOutcome) :
    (s.notifyOpDone o x how outcome).Arranged := by
  unfold State.notifyOpDone
  split
  · exact h.updLink _ _
  · exact h

theorem endOp (o : OpId) (how : OpEnd) (act : OutcomeAct) (outcome : OpOutcome) :
    (s.endOp o how act outcome).Arranged := by
  have rest : ∀ (x : Op) (s : State), s.Arranged →
      ((((s.releaseMark x).clearStationOp x).notifyOpDone o x how outcome).onField (Field.freeOp o)).Arranged :=
    fun x s hs => notifyOpDone (s := (s.releaseMark x).clearStationOp x) (hs.releaseMark x) o x how outcome
  unfold State.endOp
  split
  · next x _ =>
    have acted := h.applyOutcome x.station ((s.roster x.station).kind.getD .lamp) x.asset act
    dsimp only
    split_ifs
    · exact rest x _ acted
    · exact rest x _ acted
  · exact h

theorem loseOp (o : OpId) (how : OpEnd) : (s.loseOp o how).Arranged := h.endOp ..

theorem loseStationOp (n : StationId) (how : OpEnd) : (s.loseStationOp n how).Arranged := by
  unfold State.loseStationOp
  split
  · exact h.loseOp ..
  · exact h

theorem adoptOps : s.adoptOps.Arranged := by
  refine h.foldl (fun s o hs => ?_) _
  split
  · split_ifs
    · exact hs.loseOp ..
    · exact hs
  · exact hs

/-! ### Censuses (R152, R153, R155) -/

theorem startCensus (t : TrunkId) : (s.startCensus t).Arranged := by
  unfold State.startCensus
  split_ifs <;> exact h

theorem triggerCensus (t : TrunkId) : (s.triggerCensus t).Arranged := by
  unfold State.triggerCensus
  split_ifs
  · exact h
  · exact h
  · exact h.startCensus t

theorem chainFreed (t : TrunkId) : (s.chainFreed t).Arranged := by
  unfold State.chainFreed
  split_ifs
  · exact h.startCensus t
  · exact h

theorem failCensus (t : TrunkId) : (s.failCensus t).Arranged := chainFreed (by exact h) t

/-! ### Modes and hold sets (R107 to R120) -/

theorem nowActive (n : StationId) : (s.nowActive n).Arranged := (h.setStale n false).onBoard fun hb => hb.restoreOf _ _

theorem enterSilent (n : StationId) (trigger : Bool) : (s.enterSilent n trigger).Arranged := by
  have silenced : (s.enterSilent n false).Arranged :=
    loseStationOp (.onBoard (.setStale (by exact h) n true) fun hb => hb.faultOf _ _ _) n _
  cases trigger with
  | false => exact silenced
  | true => exact silenced.triggerCensus _

theorem enterPending (n : StationId) : (s.enterPending n).Arranged := by
  have pending : (s.updStation n fun x => { x with mode := .pending, nextExpiry := none }).Arranged := h
  dsimp only [State.enterPending]
  split_ifs
  · exact (pending.setStale n true).loseStationOp n _
  · exact pending.loseStationOp n _
  · exact pending.setStale n true
  · exact pending

theorem enterUnreached (n : StationId) : (s.enterUnreached n).Arranged :=
  loseStationOp (.setStale (by exact h) n true) n _

theorem hear (n : StationId) : (s.hear n).Arranged := by
  dsimp only [State.hear]
  split_ifs
  · exact nowActive (by exact h) n
  · exact h

theorem afterHoldChange (n : StationId) (wasHeld : Bool) : (s.afterHoldChange n wasHeld).Arranged := by
  dsimp only [State.afterHoldChange]
  split_ifs
  · exact loseStationOp (by exact h.suspendTimers n) n _
  · exact h.resumeTimers n
  · exact h

theorem changeHold (n : StationId) (g : HoldSet → HoldSet) : (s.changeHold n g).Arranged :=
  afterHoldChange (by exact h) n _

theorem foundActive (n : StationId) (g : HoldSet → HoldSet) : (s.foundActive n g).Arranged := by
  dsimp only [State.foundActive]
  split_ifs
  · exact afterHoldChange (by exact h) n _
  · exact afterHoldChange (nowActive (by exact h) n) n _

theorem applyCensusOutcome (n : StationId) (o : CensusOutcome) : (s.applyCensusOutcome n o).Arranged := by
  have silent : (if (s.station n).mode = .silent then s else s.enterSilent n false).Arranged := by
    split_ifs
    · exact h
    · exact h.enterSilent n false
  cases o with
  | full => exact h.foundActive n _
  | bypass => exact h.foundActive n _
  | unlabelled => exact h.enterPending n
  | otherLabel => exact silent
  | notFound => exact silent

theorem labelled (n : StationId) (i : Identity) : (s.labelled n i).Arranged := foundActive (by exact h) n id

theorem adoptStations (old : Settings) : (s.adoptStations old).Arranged := by
  unfold State.adoptStations
  exact h.foldl (fun _ n hs => hs.updStation n _) _

theorem resetStations : s.resetStations.Arranged := by
  unfold State.resetStations
  exact h.foldl (fun _ n hs => hs.updStation n _) _

/-! ### Chains (R146 to R150, R154) -/

theorem noAnswer (t : TrunkId) (p : Position) : (s.noAnswer t p).Arranged := by
  dsimp only [State.noAnswer]
  split_ifs
  · exact h
  · exact h.enterPending _

theorem labelFails (t : TrunkId) (p : Position) : (s.labelFails t p).Arranged := noAnswer (by exact h) t p

theorem startLabelling (t : TrunkId) : (s.startLabelling t).Arranged := by
  have steps : ∀ (fuel : Nat) (s : State), s.Arranged → (startLabellingSteps t fuel s).Arranged := by
    intro fuel
    induction fuel with
    | zero => exact fun _ hs => hs
    | succ fuel ih =>
      intro s hs
      unfold startLabellingSteps
      split
      · dsimp only
        split_ifs
        · exact hs
        · exact ih _ (labelFails (by exact hs) t _)
      · exact hs
  exact steps _ s h

theorem labellingEnds (t : TrunkId) : (s.labellingEnds t).Arranged := chainFreed (startLabelling (by exact h) t) t

theorem takeLabelAck (t : TrunkId) (label kind f1 f0 c1 c0 : Byte) :
    (s.takeLabelAck t label kind f1 f0 c1 c0).Arranged := by
  unfold State.takeLabelAck
  split
  · dsimp only
    split_ifs
    · exact h.labellingEnds t
    · exact (h.labelled _ _).labellingEnds t
    · exact ((h.labelled _ _).errorOn _ _ _).labellingEnds t
    · exact h
  · exact h

theorem comparePosition (t : TrunkId) (entries : List CensusEntry) (p : Position) :
    (s.comparePosition t entries p).Arranged := by
  dsimp only [State.comparePosition]
  split_ifs
  · exact h
  · exact h
  · exact ((h.errorOn _ _ _).updChain _ _).applyCensusOutcome _ _
  · exact (h.updChain _ _).applyCensusOutcome _ _
  · exact (h.errorOn _ _ _).applyCensusOutcome _ _
  · exact h.applyCensusOutcome _ _

theorem afterCensus (t : TrunkId) : (s.afterCensus t).Arranged := by
  unfold State.afterCensus
  split_ifs
  · exact h.chainFreed t
  · exact (h.startLabelling t).chainFreed t

theorem takeCensusReturn (t : TrunkId) (count : Byte) (rest : List Byte) : (s.takeCensusReturn t count rest).Arranged := by
  have compared : ∀ (entries : List CensusEntry) (u : State), u.Arranged →
      (((fins 24).foldl (State.comparePosition t entries) u).afterCensus t).Arranged := fun entries u hu =>
    (hu.foldl (fun _ p hs => hs.comparePosition t entries p) _).afterCensus t
  unfold State.takeCensusReturn
  split
  · split
    · exact h.failCensus t
    · dsimp only
      split_ifs
      · exact compared _ _ h
      · exact compared _ _ h
  · exact h

theorem adoptChains : s.adoptChains.Arranged := h.foldl (fun _ t hs => hs.updChain t _) _

theorem opNoTaker (t : TrunkId) (label : Byte) (k : ReturnedType) (index : Byte) :
    (s.opNoTaker t label k index).Arranged := by
  unfold State.opNoTaker
  split
  · split
    · split_ifs
      · exact h.endOp ..
      · exact h
    · exact h
  · exact h

theorem takeNoTaker (t : TrunkId) (label returned index : Byte) : (s.takeNoTaker t label returned index).Arranged := by
  unfold State.takeNoTaker
  split
  · dsimp only
    split
    · split_ifs
      · exact labellingEnds (noAnswer (by exact h) t _) t
      · exact h
    · exact h
  · exact opNoTaker (by exact h) ..

theorem relabel (t : TrunkId) : (s.relabel t).Arranged := by
  have forgotten : (s.forgetLabels t).Arranged :=
    State.Arranged.foldl (by exact h) (fun _ p hs => hs.enterPending (stationAt t p)) _
  exact (forgotten.startLabelling t).chainFreed t

/-! ### Trunks (R127 to R139) -/

theorem graceExpires (t : TrunkId) : (s.graceExpires t).Arranged := by
  have expired : (s.updTrunk t fun x => { x with graceDeadline := none }).Arranged := h
  unfold State.graceExpires
  dsimp only
  split_ifs
  · exact expired
  · exact expired.onBoard fun hb => hb.faultOf _ _ _

theorem graceIfZero (t : TrunkId) : (s.graceIfZero t).Arranged := by
  unfold State.graceIfZero
  split_ifs
  · exact h.graceExpires t
  · exact h

theorem trunkErrorNotices (t : TrunkId) (e : TrunkError) : (s.trunkErrorNotices t e).Arranged :=
  h.foldl (f := fun s d => s.onBoard fun c b => b.notify d (.trunkError t e c.time)) (fun _ _ hs => hs.updLink _ _) _

theorem leaveRunning (t : TrunkId) : (s.leaveRunning t).Arranged :=
  State.Arranged.foldl (f := State.enterUnreached) (s := s.updTrunk t Trunk.flush) h (fun _ n hs => hs.enterUnreached n) _

theorem faultTrunk (t : TrunkId) (e : TrunkError) : (s.faultTrunk t e).Arranged :=
  ((((h.updTrunk t _).leaveRunning t).errorOn t e _).trunkErrorNotices t e).graceIfZero t

theorem trunkRuns (t : TrunkId) : (s.trunkRuns t).Arranged :=
  (triggerCensus (by exact h) t).onBoard fun hb => hb.restoreOf _ _

theorem startFails (t : TrunkId) : (s.startFails t).Arranged := by
  have noticed : ∀ s : State, s.Arranged →
      ((s.recordError (.trunk .startTimeout) (.trunk t)).trunkErrorNotices t .startTimeout).Arranged :=
    fun s hs => trunkErrorNotices (by exact hs) t _
  dsimp only [State.startFails]
  cases (s.trunk t).startCause <;> simp only [reduceCtorEq, if_true, if_false]
  case fromOff => exact (noticed _ ((h.updTrunk t _).updTrunk t _)).graceIfZero t
  case commandFromFaulted => exact noticed _ (h.updTrunk t _)
  case retry => exact h

theorem stopTrunk (t : TrunkId) : (s.stopTrunk t).Arranged := by
  dsimp only [State.stopTrunk]
  split_ifs
  · exact (leaveRunning (by exact h) t).onBoard fun hb => hb.restoreOf _ _
  · exact onBoard (by exact h) fun hb => hb.restoreOf _ _

theorem upstreamEnd (t : TrunkId) : (s.upstreamEnd t).Arranged := by
  unfold State.upstreamEnd State.closeFrame
  dsimp only
  split_ifs
  · exact h
  · exact h.faultTrunk t _
  · split <;> exact h

theorem upstreamGrant (t : TrunkId) : (s.upstreamGrant t).Arranged := by
  unfold State.upstreamGrant
  split_ifs
  · exact h
  · exact h.faultTrunk t _
  · exact h

/-! ### Operations (R159 to R167) -/

theorem startOp (o : OpId) (k : OpKind) (d : DeskId) (n : StationId) (asset : Nat) :
    (s.startOp o k d n asset).Arranged := by
  dsimp only [State.startOp]
  split_ifs
  · exact markAsset (by exact h) asset
  · exact h

theorem sendStep (o : OpId) (y : Op) (p : Payload) : (s.sendStep o y p).Arranged := by
  dsimp only [State.sendStep]
  split_ifs
  · exact h
  · exact h.endOp ..

theorem takeSample (o : OpId) (x : Op) (level : Nat) (detects : Bool) : (s.takeSample o x level detects).Arranged := by
  have taken : (s.setOp o (stepped x detects)).Arranged := h
  dsimp only [State.takeSample]
  split
  · exact taken.sendStep ..
  · exact taken.endOp ..
  · exact taken.sendStep ..

theorem badReply (o : OpId) (x : Op) : (s.badReply o x).Arranged := endOp (by exact h) ..

theorem takeReading (o : OpId) (x : Op) (c : Option Condition) : (s.takeReading o x c).Arranged := by
  unfold State.takeReading
  split
  · split_ifs
    · exact h.endOp ..
    · exact h.badReply ..
  · exact h.badReply ..

theorem actOnReply (o : OpId) (x : Op) (r : Reply) : (s.actOnReply o x r).Arranged := by
  cases r with
  | probeReading c => exact h.takeReading o x c
  | cycleOff => exact h
  | cycleFinal c => exact h.takeReading o x c
  | sample level detects =>
    dsimp only [State.actOnReply]
    split_ifs
    · exact h
    · exact h.takeSample ..
  | confirmation level =>
    dsimp only [State.actOnReply]
    split_ifs
    · exact h.endOp ..
    · exact h
  | rejected => exact h.endOp ..

theorem takeReply (n : StationId) (index a1 a0 kind v1 v2 : Byte) :
    (s.takeReply n index a1 a0 kind v1 v2).Arranged := by
  unfold State.takeReply
  split
  · exact h.actOnReply ..
  · exact h

theorem stepExpires (o : OpId) (x : Op) : (s.stepExpires o x).Arranged := by
  dsimp only [State.stepExpires]
  split_ifs
  · exact h.endOp ..
  · exact h.sendStep ..
  · exact h.sendStep ..

/-! ### Resets (R185, R186) -/

theorem reset1 (d : DeskId) : (s.reset1 d).Arranged :=
  (h.updLink d _).onBoard fun hb => (hb.withdrawSlot none d).updDesk d _ ⟨rfl, rfl⟩

end

end State.Arranged

/-- R104: the pointers at their start desks change nothing else. -/
theorem Board.resetPointers_eq (c : Setup) (b : Board) :
    b.resetPointers c = { b with pointers := (b.resetPointers c).pointers } := by
  have all : ∀ (l : List DeskId) (b : Board),
      ∃ pointers, l.foldl (fun b g => if startsGroup c.active g then { b with pointers := b.pointers.set g g } else b) b =
        { b with pointers } := by
    intro l
    induction l with
    | nil => exact fun b => ⟨b.pointers, rfl⟩
    | cons g rest ih =>
      intro b
      rw [List.foldl_cons]
      split_ifs
      · exact ih _
      · exact ih b
  obtain ⟨pointers, hp⟩ := all allDesks b
  have : b.resetPointers c = { b with pointers } := hp
  rw [this]

theorem Board.Arranged.empty (c : Setup) (b : Board) : (b.empty c).Arranged := by
  have cleared : ({ b with
      incidents := {}, aging := {}, queues := Vector.replicate 6 [], desks := b.desks.map resetDesk } : Board).Arranged := by
    refine .of_empty rfl (fun g => ?_) fun d => ?_
    · exact Vector.getElem_replicate g.isLt
    · show ((b.desks.map resetDesk)[d]).slot = none ∧ ((b.desks.map resetDesk)[d]).assigned = 0
      rw [Fin.getElem_fin, Vector.getElem_map]
      exact ⟨rfl, rfl⟩
  rw [Board.empty, Board.resetPointers_eq]
  exact cleared.withPointers _

theorem Board.Arranged.resetNotices {b : Board} (h : b.Arranged) (level : Nat) : (b.resetNotices level).Arranged :=
  h.foldl (f := fun b d => b.updLink d fun l => l.clearNotices.take (.reset level)) (fun _ d hb => hb.updLink d _) _

/-- R1, R187: a board with nothing but its links. -/
theorem Board.Arranged.of_links (links : Vector Link 6) : ({ links } : Board).Arranged := by
  refine .of_empty rfl (fun g => Vector.getElem_replicate g.isLt) fun d => ?_
  have : ({ links } : Board).desks[d] = {} := Vector.getElem_replicate d.isLt
  rw [this]
  exact ⟨rfl, rfl⟩

end Sys2Proof.Machine
end

section
/-! SUPPORT. What the ends of events, the desk links, the commands and their owners keep of the board's arrangement. -/

namespace Sys2Proof.Machine

namespace State.Arranged

section

variable {s : State} (h : s.Arranged)
include h

theorem onSetup (f : Setup → Setup) : (s.onSetup f).Arranged := h

/-! ### Events and answers (R85, R178, R179) -/

omit h in
/-- R85, R178: the runs and the lines at the end of an event rest on the board after its effects. -/
theorem conclude {u : State} (hu : u.Arranged) (s : State) : (s.conclude u).Arranged :=
  hu.onBoard fun hb => (hb.runsAfter _ _).beginLines

theorem event {f : State → State} (hf : s.Arranged → (f s).Arranged) : (s.event f).Arranged := (hf h).conclude s

/-- An event that takes place only under a condition. -/
theorem eventIf {f : State → State} (p : Prop) [Decidable p] (hf : s.Arranged → (f s).Arranged) :
    (if p then s.event f else s).Arranged := by
  split_ifs
  · exact h.event hf
  · exact h

theorem answer (d : DeskId) (code : Byte) (own : Bool) (v : Verdict) : (s.answer d code own v).Arranged :=
  (h.updLink d _).onBoard fun hb => hb.updDesk d _ ⟨rfl, rfl⟩

/-! ### Command frames and bytes (R177, R179, R180, R185, R186) -/

omit h in
theorem emptied (s : State) : ((s.onBoard fun c b => b.empty c).onBoard fun _ b => b.resetNotices 2).Arranged :=
  (Board.Arranged.empty s.setup s.board).resetNotices 2

omit h in
theorem reset2 (d : DeskId) (s : State) : (s.reset2 d).Arranged := by
  unfold State.reset2
  exact emptied _

omit h in
theorem reset3 (s : State) : s.reset3.Arranged := (Board.Arranged.of_links _).resetNotices 3

omit h in
theorem powerOn (lines : DeskSet) (s : State) : (s.powerOn lines).Arranged := Board.Arranged.of_links _

theorem carryReset (level : Nat) (d : DeskId) : (s.carryReset level d).1.Arranged := by
  unfold State.carryReset
  split
  · exact h.reset1 d
  · split_ifs
    · exact reset2 d s
    · exact h
  · split_ifs
    · exact reset3 s
    · exact h
  · exact h

theorem carryAbort (d : DeskId) : (s.carryAbort d).1.Arranged := by
  unfold State.carryAbort
  dsimp only
  split_ifs
  · exact h.updLink d _
  · exact h

theorem frameVerdict {d : DeskId} {body : List Byte} {a : State × Verdict} (ha : s.frameVerdict d body = some a) :
    a.1.Arranged := by
  unfold State.frameVerdict at ha
  split at ha
  · cases ha
    exact h
  · split_ifs at ha <;> cases ha
    · exact h
    · exact h
    · exact h.carryAbort d
    · exact h.carryReset _ d
    · exact h

theorem takeFrame (d : DeskId) (body : List Byte) : (s.takeFrame d body).Arranged := by
  have hunting := h.updLink d fun l => { l with receiver := none }
  dsimp only [State.takeFrame]
  split_ifs
  · exact hunting
  · unfold State.acceptFrame
    split
    · next ha => exact (hunting.frameVerdict ha).answer ..
    · exact hunting.updLink d _

theorem commandEvent (d : DeskId) (body : List Byte) : (s.commandEvent d body).Arranged :=
  h.eventIf _ fun hs => hs.takeFrame d body

theorem frameFails (d : DeskId) (e : FrameError) : (s.frameFails d e).Arranged := (h.updLink d _).recordError _ _

theorem errorEvent (d : DeskId) (e : FrameError) : (s.errorEvent d e).Arranged :=
  h.eventIf _ fun hs => hs.frameFails d e

theorem receive (d : DeskId) (b : Byte) : (s.receive d b).Arranged := by
  unfold State.receive
  split
  · split_ifs
    · exact h.updLink d _
    · exact h
  · unfold State.frameByte
    split
    · exact h
    · split_ifs
      · exact h.frameFails ..
      · exact h.updLink d _
      · split
        · exact h.frameFails ..
        · exact h.takeFrame ..

/-! ### CLOSE, SET-PERIOD and ADOPT (R20, R62, R76) -/

/-- R62: an incident that is not OFFERED closed on a desk's word. -/
theorem closeIncident {i : IncidentId} {x : Incident} (hx : s.board.incident i = some x) (ho : x.state ≠ .offered)
    (forget : Bool) : (s.closeIncident i x forget).Arranged := by
  have moved : Moves x (closeNow s.setup (if forget then forgotten x else x)) := by
    split_ifs
    · exact (Moves.forgotten x).trans (.closeNow ..)
    · exact .closeNow ..
  have closed := Board.Arranged.commit_command h hx moved fun hs => absurd hs ho
  unfold State.closeIncident
  dsimp only
  generalize (if forget = true then forgotten x else x) = y at closed ⊢
  split_ifs <;> exact closed

theorem changePeriod (p : Period) : (s.changePeriod p).Arranged := by
  unfold State.changePeriod
  exact (h.onSetup _).onBoard fun hb => hb.foldl (fun _ i hc => hc.recompute _ i) _

theorem adoption (old : Settings) : (s.adoption old).Arranged := by
  have examined := (h.adoptStations old).adoptChains.reexamineAll
  have incidents := examined.onBoard (f := fun c b => b.adoptIncidents c old) fun hb => hb.adoptIncidents _ old
  have urgencies := incidents.onBoard (f := fun c b => b.adoptUrgency c) fun hb => hb.adoptUrgency _
  have offers := urgencies.onBoard (f := fun c b => b.adoptOffers c) fun hb => hb.adoptOffers _
  exact offers.adoptOps

theorem withIndex {g : IncidentId → State × Verdict} (hg : ∀ i, (g i).1.Arranged) (hi lo : Byte) :
    (withIndex hi lo s g).1.Arranged := by
  unfold Machine.withIndex
  split
  · exact hg _
  · exact h

theorem withTrunk {g : TrunkId → State × Verdict} (hg : ∀ t, (g t).1.Arranged) (trunk : Byte) :
    (withTrunk trunk s g).1.Arranged := by
  unfold Machine.withTrunk
  split
  · exact hg _
  · exact h

end

end State.Arranged

/-! ## The owners of the commands -/

/-- What an owner makes of the state keeps the board's arrangement. -/
def OwnerArranges (op : Owner) : Prop := ∀ args d s, s.Arranged → (op args d s).1.Arranged

theorem State.Arranged.carryOut {s : State} (h : s.Arranged) {op : Owner} {after : State → State} (ho : OwnerArranges op)
    (ha : ∀ u, u.Arranged → (after u).Arranged) (code : Byte) (d : DeskId) (args : List Byte) :
    (s.carryOut code d args op after).Arranged :=
  (ha _ (((ho args d s h).updLink d _).answer d code true _)).conclude s

theorem OwnerArranges.serve {op : Owner} (ho : OwnerArranges op) (code : Byte) (d : DeskId) {s : State} (h : s.Arranged) :
    (s.serve code d op).Arranged := by
  unfold State.serve
  split
  · exact h.carryOut ho (fun _ hu => hu) ..
  · exact h

/-- R81: the desk's slot holds the incident that it answers for. -/
theorem Board.offeredTo_of_offers {b : Board} {d : DeskId} {i : IncidentId} (h : (b.desks[d]).offers i = true) :
    b.offeredTo d = some i := of_decide_eq_true h

/-- R62: an incident that CLOSE does not refuse is not OFFERED. -/
theorem closeRefusal_ne_none {x : Incident} (hx : x.state = .offered) (d : DeskId) (onDuty forget : Bool) :
    closeRefusal x d onDuty forget ≠ none := by
  simp [closeRefusal, hx]

namespace OwnerArranges

/-- An owner that leaves the board as it is. -/
theorem of_board {op : Owner} (hb : ∀ args d s, (op args d s).1.board = s.board) : OwnerArranges op :=
  fun args d s h => h.of_board (hb args d s)

theorem listQueue : OwnerArranges listQueue := .of_board fun args d s => by
  unfold Machine.listQueue
  repeat' split
  all_goals rfl

theorem readIncidentRecord : OwnerArranges readIncidentRecord := .of_board fun args d s => by
  unfold Machine.readIncidentRecord Machine.withIndex
  repeat' split
  all_goals rfl

theorem readFaultRecord : OwnerArranges readFaultRecord := .of_board fun args d s => by
  unfold Machine.readFaultRecord
  split <;> rfl

theorem readStationRecord : OwnerArranges readStationRecord := .of_board fun args d s => by
  unfold Machine.readStationRecord
  repeat' split
  all_goals rfl

theorem readTrunkRecord : OwnerArranges readTrunkRecord := .of_board fun args d s => by
  unfold Machine.readTrunkRecord Machine.withTrunk
  repeat' split
  all_goals rfl

theorem readShadow : OwnerArranges readShadow := .of_board fun args d s => by
  unfold Machine.readShadow
  repeat' split
  all_goals rfl

theorem writeShadow (e : Edit) : OwnerArranges (writeShadow e) := .of_board fun args d s => by
  unfold Machine.writeShadow
  repeat' split
  all_goals rfl

theorem beginEdit : OwnerArranges beginEdit := .of_board fun args d s => by
  unfold Machine.beginEdit
  repeat' split
  all_goals rfl

theorem discardEdit : OwnerArranges discardEdit := .of_board fun args d s => by
  unfold Machine.discardEdit
  split <;> rfl

/-- An answer after an operation. -/
theorem made {u : State} {v : Verdict} (h : u.Arranged) : (u, v).1.Arranged := h

/-! ### Desks, offers and incidents -/

theorem signOffDesk : OwnerArranges signOffDesk := by
  intro args d s h
  unfold Machine.signOffDesk
  split
  · split
    · exact h
    · split_ifs
      · exact h
      · exact h.onBoard fun hb => hb.signOff d _
  · exact h

theorem acceptIncident : OwnerArranges acceptIncident := by
  intro args d s h
  unfold Machine.acceptIncident
  split
  · refine h.withIndex (fun i => ?_) ..
    dsimp only
    split_ifs with ho
    · exact h.onBoard fun hb => hb.acceptOffer (Board.offeredTo_of_offers ho)
    · exact h
    · exact h
  · exact h

theorem declineIncident : OwnerArranges declineIncident := by
  intro args d s h
  unfold Machine.declineIncident
  split
  · refine h.withIndex (fun i => ?_) ..
    dsimp only
    split_ifs with ho
    · exact h.onBoard fun hb => hb.declineOffer _ (Board.offeredTo_of_offers ho)
    · exact h
    · exact h
  · exact h

/-- R83, R94: a desk holds an incident that is assigned to it and is not CLOSED. -/
theorem heldBy_of_assigned {x : Incident} {d : DeskId} (hf : x.Free) (hc : x.state ≠ .closed) (ha : x.assigned = some d) :
    x.heldBy d := Incident.holder_eq_some.1 ((hf.holder_eq hc).trans ha)

theorem releaseIncident : OwnerArranges releaseIncident := by
  intro args d s h
  unfold Machine.releaseIncident
  split
  · refine h.withIndex (fun i => ?_) ..
    split
    · exact h
    · next x hx =>
      split_ifs with hc ha
      · exact h
      · exact h
      · exact h.onBoard fun hb => hb.releaseOne hx (heldBy_of_assigned (hb.free i x hx) hc (not_not.1 ha))
  · exact h

theorem handOverIncident : OwnerArranges handOverIncident := by
  intro args d s h
  unfold Machine.handOverIncident
  split
  · refine h.withIndex (fun i => ?_) ..
    split
    · exact h
    · split
      · exact h
      · next x hx =>
        split_ifs with hc ha
        · exact h
        · exact h
        · exact h
        · exact h.onBoard fun hb => hb.handOver _ hx (heldBy_of_assigned (hb.free i x hx) hc (not_not.1 ha))
  · exact h

theorem closeCommand : OwnerArranges closeCommand := by
  intro args d s h
  unfold Machine.closeCommand
  split
  · refine h.withIndex (fun i => ?_) ..
    split
    · exact h
    · split
      · exact h
      · next hx =>
        split
        · exact h
        · next hr => exact h.closeIncident hx (fun ho => closeRefusal_ne_none ho _ _ _ hr) _
  · exact h

theorem tagCommand : OwnerArranges tagCommand := by
  intro args d s h
  unfold Machine.tagCommand
  split
  · refine h.withIndex (fun i => ?_) ..
    split
    · exact h
    · split
      · exact h
      · next hx =>
        split_ifs
        · exact h
        · exact h
        · exact h
        · exact h.onBoard fun hb => hb.commit_command hx (.of_frame rfl rfl rfl rfl) id
  · exact h

theorem setPeriodCommand : OwnerArranges setPeriodCommand := by
  intro args d s h
  unfold Machine.setPeriodCommand
  split
  · split
    · exact h
    · split_ifs
      · exact h
      · exact h
      · exact h.changePeriod _
  · exact h

/-! ### Stations, trunks and chains -/

theorem holdStation : OwnerArranges holdStation := by
  intro args d s h
  unfold Machine.holdStation
  split
  · split
    · exact h
    · split_ifs
      · exact h
      · exact h
      · exact made (h.changeHold ..)
  · exact h

theorem unholdStation : OwnerArranges unholdStation := by
  intro args d s h
  unfold Machine.unholdStation
  split
  · split
    · exact h
    · split_ifs
      · exact h
      · exact h
      · exact h
      · exact made (h.changeHold ..)
  · exact h

theorem startTrunkCommand : OwnerArranges startTrunkCommand := by
  intro args d s h
  unfold Machine.startTrunkCommand
  split
  · refine h.withTrunk (fun t => ?_) _
    split <;> exact h
  · exact h

theorem stopTrunkCommand : OwnerArranges stopTrunkCommand := by
  intro args d s h
  unfold Machine.stopTrunkCommand
  split
  · refine h.withTrunk (fun t => ?_) _
    split_ifs
    · exact h
    · exact made (h.stopTrunk t)
  · exact h

theorem censusCommand : OwnerArranges censusCommand := by
  intro args d s h
  unfold Machine.censusCommand
  split
  · refine h.withTrunk (fun t => ?_) _
    split_ifs
    · exact h
    · exact h
    · exact h
    · exact made (h.startCensus t)
  · exact h

theorem labelChainCommand : OwnerArranges labelChainCommand := by
  intro args d s h
  unfold Machine.labelChainCommand
  split
  · refine h.withTrunk (fun t => ?_) _
    split_ifs
    · exact h
    · exact h
    · exact h
    · exact made (h.relabel t)
  · exact h

/-! ### Operations and adoption -/

theorem requestOp (k : OpKind) : OwnerArranges (requestOp k) := by
  intro args d s h
  unfold Machine.requestOp
  split
  · split
    · exact h
    iterate 6
      split
      · exact h
    split
    · exact h
    · split
      · exact h
      · exact made (h.startOp ..)
  · exact h

theorem abortOperation : OwnerArranges abortOperation := by
  intro args d s h
  unfold Machine.abortOperation
  split
  · split
    · exact h
    · split_ifs
      · exact h
      · split
        · exact h
        · exact made (h.loseOp ..)
  · exact h

theorem adoptEdit : OwnerArranges adoptEdit := by
  intro args d s h
  unfold Machine.adoptEdit
  split_ifs
  · exact made ((h.onSetup _).adoption _)
  · exact h

end OwnerArranges

end Sys2Proof.Machine
end

section
/-! PROOFS. Every row keeps the board's arrangement, and so does every step (R44, R74, R81, R83, R94). -/

namespace Sys2Proof.Machine

namespace State.Arranged

section

variable {s : State} (h : s.Arranged)
include h

/-! ### Frames taken from a buffer (R132, R145) -/

theorem takeOldest {f : List Byte → State → State} (hf : ∀ frame s, s.Arranged → (f frame s).Arranged) (t : TrunkId)
    (k : UpType) : (s.takeOldest t k f).Arranged := by
  unfold State.takeOldest
  split
  · exact h.event fun hs => hf _ _ (hs.updTrunk t _)
  · exact h

theorem screened {f : StationId → Bool → State → State} (hf : ∀ n moved s, s.Arranged → (f n moved s).Arranged)
    (t : TrunkId) (frame : List Byte) : (s.screened t frame f).Arranged := by
  unfold State.screened
  split
  · split
    · exact hf _ _ _ (h.hear _)
    · exact h.errorOn ..
  · exact h

/-- A frame taken, screened by its label and heard, and then acted on. -/
theorem takeScreened {f : List Byte → StationId → Bool → State → State}
    (hf : ∀ frame n moved s, s.Arranged → (f frame n moved s).Arranged) (t : TrunkId) (k : UpType) :
    (s.takeOldest t k fun frame s => s.screened t frame (f frame)).Arranged :=
  h.takeOldest (fun frame _ hs => hs.screened (hf frame) t frame) t k

theorem creditCheckIn (n : StationId) (moved : Bool) : (s.creditCheckIn n moved).Arranged := by
  dsimp only [State.creditCheckIn]
  split_ifs
  · exact h.updStation n _
  · exact h

theorem judgeSleep (n : StationId) (span : Nat) : (s.judgeSleep n span).Arranged := by
  dsimp only [State.judgeSleep]
  split
  · exact h.hand ..
  · split_ifs
    · exact (h.hand ..).updStation n _
    · exact h

theorem classify (t : TrunkId) (x : Checked) : (s.classify t x).Arranged := by
  dsimp only [State.classify]
  split_ifs
  · exact h.errorOn ..
  · exact h.takeReport _

theorem takeChecked (t : TrunkId) (x : Checked) : (s.takeChecked t x).Arranged := by
  dsimp only [State.takeChecked]
  split_ifs
  · exact (h.hear _).updStation _ _
  · exact (h.hear _).classify t x

/-! ### Symbols, stations and record timers (R25, R28, R110, R113, R125) -/

theorem onRunning (t : TrunkId) (g : Trunk → Trunk) : (s.onRunning t g).Arranged :=
  h.eventIf _ fun hs => hs.updTrunk t g

theorem fillEvent (t : TrunkId) : (s.fillEvent t).Arranged := by
  unfold State.fillEvent
  split
  · exact h.event fun hs => hs.trunkRuns t
  · exact h.onRunning ..
  · exact h

theorem intervalExpires (n : StationId) : (s.intervalExpires n).Arranged := by
  unfold State.intervalExpires
  split
  · split_ifs
    · exact h
    · unfold State.debit
      split_ifs
      · exact h.updStation n _
      · exact h.enterSilent n _
  · dsimp only [State.countSleep]
    split_ifs
    · exact (h.updStation n _).nowActive n
    · exact h.updStation n _
  · exact h

theorem recordTimer (asset : Nat) (k : TimerKind) : (s.recordTimer asset k).Arranged := by
  unfold State.recordTimer
  split
  · exact h.event fun hs => hs.timerExpires _
  · exact h

end

end State.Arranged

/-! ## The rows -/

/-- If the row answers a next state, its board is arranged. -/
def RowArranges (a : Answer) : Prop := ∀ t, a = .next t → t.Arranged

theorem RowArranges.next {u : State} (h : u.Arranged) : RowArranges (.next u) := fun _ ht => by
  cases ht
  exact h

theorem RowArranges.guarded {u : State} {p : Prop} [Decidable p] {f : Fault} (h : u.Arranged) :
    RowArranges (if p then .next u else .fault f) := by
  split_ifs
  · exact .next h
  · exact fun _ ht => by cases ht

section

variable {s : State} (h : s.Arranged)
include h

/-- R8, R99, R174: a line that goes. -/
theorem State.Arranged.linkDown (d : DeskId) : (s.linkDown d).Arranged :=
  ((h.updLink d _).onSetup _).onBoard fun hb => hb.linkLost _ d

/-- R100, R175: a line that appears. -/
theorem State.Arranged.linkUp (d : DeskId) : (s.linkUp d).Arranged :=
  (h.updLink d _).onBoard fun hb => hb.updDesk d _ ⟨rfl, rfl⟩

theorem exec_arranged (i : Instr) : RowArranges (exec i s) := by
  cases i with
  | powerOn lines => exact .next (State.Arranged.powerOn lines s)
  | linkDown d => exact .next (h.eventIf _ fun hs => hs.linkDown d)
  | linkUp d =>
    refine .next ?_
    split_ifs
    · exact h
    · exact h.event fun hs => hs.linkUp d
  | commandFrame d body => exact .guarded (h.commandEvent d body)
  | badCrc d => exact .next (h.errorEvent d .badCrc)
  | badKind d => exact .next (h.errorEvent d .badKind)
  | badFrame d => exact .next (h.errorEvent d .badFrame)
  | byteTimeout d =>
    refine .next ?_
    split_ifs
    · exact h.errorEvent d .badFrame
    · exact h
  | resultSent d => exact .next (h.eventIf _ fun hs => hs.updLink d _)
  | noticeSent d => exact .next (h.eventIf _ fun hs => hs.updLink d _)
  | identify d => exact .next (OwnerArranges.serve (.of_board fun _ _ _ => rfl) _ d h)
  | sense d =>
    refine .next ?_
    split
    · exact h.carryOut (.of_board fun _ _ _ => rfl) (fun _ hu => hu.updLink d Link.sensed) ..
    · exact h
  | signOn d =>
    exact .next (OwnerArranges.serve (fun _ e _ hs => hs.onBoard fun hb => hb.updDesk e _ ⟨rfl, rfl⟩) _ d h)
  | signOff d => exact .next (OwnerArranges.signOffDesk.serve _ d h)
  | abort d => exact .next (h.commandEvent ..)
  | resetLevel1 d => exact .next (h.commandEvent ..)
  | resetLevel2 d => exact .next (h.commandEvent ..)
  | resetLevel3 d => exact .next (h.commandEvent ..)
  | listPending d => exact .next (OwnerArranges.listQueue.serve _ d h)
  | readIncident d => exact .next (OwnerArranges.readIncidentRecord.serve _ d h)
  | readFault d => exact .next (OwnerArranges.readFaultRecord.serve _ d h)
  | readStation d => exact .next (OwnerArranges.readStationRecord.serve _ d h)
  | readTrunk d => exact .next (OwnerArranges.readTrunkRecord.serve _ d h)
  | readError d => exact .next (OwnerArranges.serve (.of_board fun _ _ _ => rfl) _ d h)
  | accept d => exact .next (OwnerArranges.acceptIncident.serve _ d h)
  | decline d => exact .next (OwnerArranges.declineIncident.serve _ d h)
  | release d => exact .next (OwnerArranges.releaseIncident.serve _ d h)
  | handover d => exact .next (OwnerArranges.handOverIncident.serve _ d h)
  | close d => exact .next (OwnerArranges.closeCommand.serve _ d h)
  | tag d => exact .next (OwnerArranges.tagCommand.serve _ d h)
  | hold d => exact .next (OwnerArranges.holdStation.serve _ d h)
  | unhold d => exact .next (OwnerArranges.unholdStation.serve _ d h)
  | probe d => exact .next ((OwnerArranges.requestOp .probe).serve _ d h)
  | cycle d => exact .next ((OwnerArranges.requestOp .cycle).serve _ d h)
  | sweep d => exact .next ((OwnerArranges.requestOp .sweep).serve _ d h)
  | abortOp d => exact .next (OwnerArranges.abortOperation.serve _ d h)
  | trunkStart d => exact .next (OwnerArranges.startTrunkCommand.serve _ d h)
  | trunkStop d => exact .next (OwnerArranges.stopTrunkCommand.serve _ d h)
  | census d => exact .next (OwnerArranges.censusCommand.serve _ d h)
  | labelChain d => exact .next (OwnerArranges.labelChainCommand.serve _ d h)
  | setPeriod d => exact .next (OwnerArranges.setPeriodCommand.serve _ d h)
  | editBegin d => exact .next (OwnerArranges.beginEdit.serve _ d h)
  | writeCircuit d => exact .next ((OwnerArranges.writeShadow editCircuit).serve _ d h)
  | writeStation d => exact .next ((OwnerArranges.writeShadow editStation).serve _ d h)
  | writeDesk d => exact .next ((OwnerArranges.writeShadow editDesk).serve _ d h)
  | writeParam d => exact .next ((OwnerArranges.writeShadow editParam).serve _ d h)
  | writeScale d => exact .next ((OwnerArranges.writeShadow editScale).serve _ d h)
  | readShadow d => exact .next (OwnerArranges.readShadow.serve _ d h)
  | adopt d =>
    refine .next ?_
    split
    · refine h.carryOut OwnerArranges.adoptEdit (fun u hu => ?_) ..
      split_ifs
      · exact hu.onBoard fun hb => hb.runAll _
      · exact hu
    · exact h
  | discard d => exact .next (OwnerArranges.discardEdit.serve _ d h)
  | confirmWindowExpiry asset => exact .guarded (h.recordTimer ..)
  | restoreHoldExpiry asset => exact .guarded (h.recordTimer ..)
  | closeDelayExpiry n =>
    refine .next ?_
    split
    · next hx => exact h.eventIf _ fun hs => hs.onBoard fun hb => hb.commit hx (.closeNow ..)
    · exact h
  | agingBoundary n =>
    refine .next ?_
    split
    · exact h.eventIf _ fun hs => hs.onBoard fun hb => hb.ageBoundary _ n _
    · exact h
  | offerExpiry d =>
    refine .next ?_
    split
    · next o ho =>
      exact h.eventIf _ fun hs => hs.onBoard fun hb => hb.expireOffer _ (Board.offeredTo_eq_some.2 ⟨o, ho, rfl⟩)
    · exact h
  | absenceExpiry d => exact .next (h.eventIf _ fun hs => hs.onBoard fun hb => hb.expireAbsence d)
  | intervalExpiry n => exact .next (h.eventIf _ fun hs => hs.intervalExpires n)
  | checkIn t => exact .next (h.takeScreened (fun _ n moved _ hs => hs.creditCheckIn n moved) t .checkIn)
  | sleep t =>
    refine .next (h.takeScreened (fun frame n _ s hs => ?_) t .sleep)
    split
    · exact hs.judgeSleep ..
    · exact hs
  | bypassOn t => exact .next (h.takeScreened (fun _ n _ _ hs => hs.changeHold n _) t .bypassOn)
  | bypassOff t => exact .next (h.takeScreened (fun _ n _ _ hs => hs.changeHold n _) t .bypassOff)
  | assetState t =>
    refine .next (h.takeOldest (fun frame s hs => ?_) t .assetState)
    split
    · split
      · exact hs.errorOn ..
      · exact hs.takeChecked ..
    · exact hs
  | chainValidFill t => exact .next (h.fillEvent t)
  | frameEnd t => exact .next (h.eventIf _ fun hs => hs.upstreamEnd t)
  | abortSymbol t => exact .next (h.onRunning ..)
  | grant t => exact .next (h.eventIf _ fun hs => hs.upstreamGrant t)
  | parity t => exact .next (h.eventIf _ fun hs => hs.faultTrunk t .parity)
  | disconnect t => exact .next (h.eventIf _ fun hs => hs.faultTrunk t .disconnect)
  | downstreamFrameSent t => exact .next (h.eventIf _ fun hs => hs.updTrunk t _)
  | startDeadline t => exact .next (h.eventIf _ fun hs => hs.startFails t)
  | retryDeadline t => exact .next (h.eventIf _ fun hs => hs.updTrunk t _)
  | graceDeadline t => exact .next (h.eventIf _ fun hs => hs.graceExpires t)
  | labelAck t =>
    refine .next (h.takeOldest (fun frame s hs => ?_) t .labelAck)
    split
    · exact hs.takeLabelAck ..
    · exact hs
  | labelDeadline t =>
    refine .next ?_
    split
    · exact h.eventIf _ fun hs => (hs.labelFails t _).labellingEnds t
    · exact h
  | censusReturn t =>
    refine .next (h.takeOldest (fun frame s hs => ?_) t .censusReturn)
    split
    · exact hs.takeCensusReturn ..
    · exact hs
  | censusDeadline t => exact .next (h.eventIf _ fun hs => hs.failCensus t)
  | noTaker t =>
    refine .next (h.takeOldest (fun frame s hs => ?_) t .noTaker)
    split
    · exact hs.takeNoTaker ..
    · exact hs
  | opReply t =>
    refine .next (h.takeScreened (fun frame n _ s hs => ?_) t .opReply)
    split
    · exact hs.takeReply ..
    · exact hs
  | probeDeadline o =>
    refine .next ?_
    split
    · exact h.event fun hs => hs.endOp ..
    · exact h
  | cycleDeadline o =>
    refine .next ?_
    split
    · exact h.event fun hs => hs.endOp ..
    · exact h
  | stepDeadline o =>
    refine .next ?_
    split
    · exact h.event fun hs => hs.stepExpires ..
    · exact h
  | dataSymbol t b => exact .next (h.onRunning ..)
  | fill t => exact .next (h.fillEvent t)
  | deskByte d b => exact .next (h.eventIf _ fun hs => hs.receive d b)

end

/-- Settles O59: each part of the board's arrangement (the incident table with its queues, the slots, the counts) is kept by
every event on an incident, these by every operation of the board, and the operations by every row. -/
theorem queuesAndOffersKept : Obligations.QueuesAndOffersKept := by
  intro s t h hs
  unfold step at hs
  split at hs
  · cases hs
    exact State.Arranged.of_board h (by rw [State.tick_board])
  · exact exec_arranged (by exact h) _ t hs

end Sys2Proof.Machine
end

section
/-! PROOFS. The period and the urgencies computed in it (R69, R70, R76): what SET-PERIOD answers, how an urgency is read from
the record, and what the new period makes of each record. -/

namespace Sys2Proof.Machine

/-! ## SET-PERIOD (R76) -/

theorem periodOf_of_lt {code : Byte} (h : 3 < code.toNat) : periodOf code = none := by
  unfold periodOf
  split
  · omega
  · omega
  · omega
  · omega
  · rfl

theorem periodOf_of_code {code : Byte} {p : Period} (h : code.toNat = p.code) : periodOf code = some p := by
  unfold periodOf
  rw [h]
  cases p <;> rfl

theorem setPeriodCommand_of_lt {code : Byte} (h : 3 < code.toNat) (d : DeskId) (s : State) :
    setPeriodCommand [code] d s = (s, .invalid) := by simp only [setPeriodCommand, periodOf_of_lt h]

section

variable {code : Byte} {p : Period} (h : code.toNat = p.code) {d : DeskId} {s : State}
include h

theorem setPeriodCommand_of_offDuty (hd : (s.board.desks[d]).onDuty = false) :
    setPeriodCommand [code] d s = (s, .refused .offDuty) := by
  simp only [setPeriodCommand, periodOf_of_code h, if_pos hd]

variable (hd : (s.board.desks[d]).onDuty = true)
include hd

theorem setPeriodCommand_of_same (hp : p = s.setup.period) : setPeriodCommand [code] d s = (s, .done (.period p p)) := by
  have hoff : ¬(s.board.desks[d]).onDuty = false := ne_false_of_eq_true hd
  simp only [setPeriodCommand, periodOf_of_code h, if_neg hoff, if_pos hp]

theorem setPeriodCommand_of_ne (hp : p ≠ s.setup.period) :
    setPeriodCommand [code] d s = (s.changePeriod p, .done (.period p s.setup.period)) := by
  have hoff : ¬(s.board.desks[d]).onDuty = false := ne_false_of_eq_true hd
  simp only [setPeriodCommand, periodOf_of_code h, if_neg hoff, if_neg hp]

end

/-! ## The inputs of an urgency (R69) -/

section

variable {c : Setup} {x : Incident}

/-- The condition weight of a circuit incident without members is 16. -/
theorem urgencyInputs_of_no_members {k : CircuitId} (h : x.subject = .circuit k) (hm : x.members = []) :
    urgencyInputs c x =
      { weight := (c.active.circuit k).weight, k := 16, n := x.members.length + x.unrecorded
        q := (c.active.scales.of c.period).of x.cls, age := ageOf c x, tau := (c.active.circuit k).tau
        rounds := x.rounds, tripped := x.tripped } := by
  simp only [urgencyInputs, h, hm, List.isEmpty_nil, if_true]

theorem urgencyInputs_of_worst {k : CircuitId} {w : Condition} (h : x.subject = .circuit k) (hm : x.members ≠ [])
    (hw : x.worst = some w) : urgencyInputs c x =
      { weight := (c.active.circuit k).weight, k := w.weight, n := x.members.length + x.unrecorded
        q := (c.active.scales.of c.period).of x.cls, age := ageOf c x, tau := (c.active.circuit k).tau
        rounds := x.rounds, tripped := x.tripped } := by
  have hlisted : ¬x.members.isEmpty = true := fun he => hm (List.isEmpty_iff.1 he)
  simp only [urgencyInputs, h, hw, if_neg hlisted, Option.map_some, Option.getD_some]

theorem urgencyInputs_of_station {n : StationId} (h : x.subject = .station n) : urgencyInputs c x =
    { weight := (c.active.station n).weight, k := 80, n := 1, q := (c.active.scales.of c.period).infra
      age := ageOf c x, tau := 10, rounds := x.rounds, tripped := false } := by simp only [urgencyInputs, h]

theorem urgencyInputs_of_trunk {t : TrunkId} (h : x.subject = .trunk t) : urgencyInputs c x =
    { weight := c.active.params.trunkWeight, k := 120, n := occupied c.active t
      q := (c.active.scales.of c.period).infra, age := ageOf c x, tau := 10, rounds := x.rounds, tripped := false } := by
  simp only [urgencyInputs, h]

end

theorem occupied_eq (a : Settings) (t : TrunkId) :
    occupied a t = ((fins 24).filter fun p => decide ((a.station (stationAt t p)).count ≠ 0)).length := by
  simp only [occupied, Roster.vacant, decide_not, ne_eq]

/-! ## One incident computed (R71, R72) -/

theorem reweigh_eq_self {c : Setup} {x : Incident} : reweigh c x = x ↔ urgencyOf (urgencyInputs c x) = x.urgency := by
  refine ⟨fun h => congrArg Incident.urgency h, fun h => ?_⟩
  rw [reweigh, h]

/-- An urgency does not enter its own inputs. -/
theorem urgencyInputs_reweigh (c : Setup) (x : Incident) : urgencyInputs c (reweigh c x) = urgencyInputs c x := rfl

/-- What a computation on its own account makes of a record: the urgency, and the change number when the urgency moves. -/
def IncidentRecord.reweighed (c : Setup) (r : IncidentRecord) : IncidentRecord :=
  match r.body with
  | none => r
  | some x =>
    if x.state = .closed ∨ urgencyOf (urgencyInputs c x) = x.urgency then r
    else ⟨(r.change + 1) % 65536, some (reweigh c x)⟩

section

variable {c : Setup} {r : IncidentRecord}

theorem IncidentRecord.reweighed_of_free (h : r.body = none) : r.reweighed c = r := by
  simp only [IncidentRecord.reweighed, h]

theorem IncidentRecord.reweighed_of_kept {x : Incident} (h : r.body = some x)
    (hx : x.state = .closed ∨ urgencyOf (urgencyInputs c x) = x.urgency) : r.reweighed c = r := by
  simp only [IncidentRecord.reweighed, h, if_pos hx]

theorem IncidentRecord.reweighed_of_moved {x : Incident} (h : r.body = some x) (hs : x.state ≠ .closed)
    (hu : urgencyOf (urgencyInputs c x) ≠ x.urgency) :
    r.reweighed c = ⟨(r.change + 1) % 65536, some (reweigh c x)⟩ := by
  simp only [IncidentRecord.reweighed, h, if_neg (not_or.2 ⟨hs, hu⟩)]

/-- An incident computed twice is as it was computed once. -/
theorem IncidentRecord.reweighed_reweighed (c : Setup) (r : IncidentRecord) :
    (r.reweighed c).reweighed c = r.reweighed c := by
  cases hb : r.body with
  | none => rw [reweighed_of_free hb, reweighed_of_free hb]
  | some x =>
    by_cases hx : x.state = .closed ∨ urgencyOf (urgencyInputs c x) = x.urgency
    · rw [reweighed_of_kept hb hx, reweighed_of_kept hb hx]
    · obtain ⟨hs, hu⟩ := not_or.1 hx
      rw [reweighed_of_moved hb hs hu]
      exact reweighed_of_kept rfl (.inr (congrArg urgencyOf (urgencyInputs_reweigh c x)))

end

section

variable {c : Setup} {b : Board} {i : IncidentId}

theorem Board.recompute_of_free (h : b.incident i = none) : b.recompute c i = b := by
  simp only [Board.recompute, h]

theorem Board.recompute_of_closed {x : Incident} (h : b.incident i = some x) (hs : x.state = .closed) :
    b.recompute c i = b := by
  have hl : ¬x.live = true := fun hl => Incident.live_iff.1 hl hs
  simp only [Board.recompute, h, if_neg hl]

/-- R72: a computation that moves no urgency leaves the board as it is. -/
theorem Board.recompute_of_kept {x : Incident} (h : b.incident i = some x)
    (hx : x.state = .closed ∨ urgencyOf (urgencyInputs c x) = x.urgency) : b.recompute c i = b := by
  by_cases hs : x.state = .closed
  · exact Board.recompute_of_closed h hs
  · have hu := reweigh_eq_self.2 (hx.resolve_left hs)
    rw [Board.recompute_of_live h (Incident.live_iff.2 hs), hu, Board.commit_of_same h]

/-- R72: a computation that moves the urgency is one event on the incident. -/
theorem Board.recompute_of_moved {x : Incident} (h : b.incident i = some x) (hs : x.state ≠ .closed)
    (hu : urgencyOf (urgencyInputs c x) ≠ x.urgency) :
    b.incident i ≠ some (reweigh c x) ∧ b.recompute c i = b.commit .table i (reweigh c x) := by
  refine ⟨fun heq => hu (reweigh_eq_self.1 ?_), Board.recompute_of_live h (Incident.live_iff.2 hs)⟩
  exact (Option.some.inj (h.symm.trans heq)).symm

/-- A computation leaves the board as it is, or it is one event on an incident that is not CLOSED. -/
theorem Board.recompute_cases (c : Setup) (b : Board) (i : IncidentId) :
    ((b.record i).reweighed c = b.record i ∧ b.recompute c i = b) ∨
      ∃ x, b.incident i = some x ∧ x.state ≠ .closed ∧ b.incident i ≠ some (reweigh c x) ∧
        (b.record i).reweighed c = ⟨(b.change i + 1) % 65536, some (reweigh c x)⟩ ∧
        b.recompute c i = b.commit .table i (reweigh c x) := by
  cases h : b.incident i with
  | none => exact .inl ⟨IncidentRecord.reweighed_of_free h, Board.recompute_of_free h⟩
  | some x =>
    by_cases hx : x.state = .closed ∨ urgencyOf (urgencyInputs c x) = x.urgency
    · exact .inl ⟨IncidentRecord.reweighed_of_kept h hx, Board.recompute_of_kept h hx⟩
    · obtain ⟨hs, hu⟩ := not_or.1 hx
      obtain ⟨hne, hcommit⟩ := Board.recompute_of_moved h hs hu
      exact .inr ⟨x, rfl, hs, h ▸ hne, IncidentRecord.reweighed_of_moved h hs hu, hcommit⟩

theorem Board.recompute_record (c : Setup) (b : Board) (i j : IncidentId) :
    (b.recompute c i).record j = if i = j then (b.record j).reweighed c else b.record j := by
  rcases b.recompute_cases c i with ⟨hrec, hb⟩ | ⟨x, -, -, hne, hrec, hb⟩
  · rw [hb]
    split_ifs with hij
    · rw [← hij, hrec]
    · rfl
  · rw [hb, Board.commit_record .table hne, ← hrec]
    split_ifs with hij
    · rw [hij]
    · rfl

/-- R75: a computation closes nothing, so that the aging schedules stay. -/
theorem Board.recompute_aging (c : Setup) (b : Board) (i : IncidentId) : (b.recompute c i).aging = b.aging := by
  rcases b.recompute_cases c i with ⟨-, hb⟩ | ⟨x, -, hs, hne, -, hb⟩
  · rw [hb]
  · rw [hb, Board.commit_aging .table hne, if_neg fun h => hs h.1]

/-- R92, R94: a computation moves no incident to another state, so that no desk loses an offer or an incident. -/
theorem Board.recompute_desks (c : Setup) (b : Board) (i : IncidentId) : (b.recompute c i).desks = b.desks := by
  rcases b.recompute_cases c i with ⟨-, hb⟩ | ⟨x, hx, hs, hne, -, hb⟩
  · rw [hb]
  · rw [hb]
    refine Vector.ext fun k hk => ?_
    have hlowers : b.lowers i (reweigh c x) ⟨k, hk⟩ = false := decide_eq_false fun h => hs h.1
    have hloses : b.loses .table i (reweigh c x) ⟨k, hk⟩ = false := decide_eq_false fun ⟨_, hwas, hnow, _⟩ => by
      rw [hx, Option.map_some] at hwas
      exact hnow (Option.some.inj hwas)
    have hdesk := (Board.getElem_commit .table hne ⟨k, hk⟩).1
    rwa [hloses, if_neg Bool.false_ne_true, Board.loweredDesk, hlowers, if_neg Bool.false_ne_true] at hdesk

end

/-! ## Every incident computed (R76) -/

/-- What the computation of some of the incidents leaves of a board: their records computed, each once. -/
structure Reweighs (c : Setup) (l : List IncidentId) (b u : Board) : Prop where
  records : ∀ j, u.record j = if j ∈ l then (b.record j).reweighed c else b.record j
  desks   : u.desks = b.desks
  aging   : u.aging = b.aging

theorem Reweighs.refl (c : Setup) (b : Board) : Reweighs c [] b b := ⟨fun _ => rfl, rfl, rfl⟩

/-- One incident more computed; one that the list has already is not changed again. -/
theorem Reweighs.recompute {c : Setup} {l : List IncidentId} {b u : Board} (h : Reweighs c l b u) (i : IncidentId) :
    Reweighs c (l ++ [i]) b (u.recompute c i) := by
  refine ⟨fun j => ?_, (u.recompute_desks c i).trans h.desks, (u.recompute_aging c i).trans h.aging⟩
  rw [Board.recompute_record, h.records]
  by_cases hij : i = j
  · subst hij
    rw [if_pos rfl, if_pos (List.mem_append_right l (List.mem_singleton_self i))]
    split_ifs
    · exact IncidentRecord.reweighed_reweighed c _
    · rfl
  · have hmem : j ∈ l ++ [i] ↔ j ∈ l := by simp [Ne.symm hij]
    simp only [if_neg hij, hmem]

theorem Reweighs.foldl (c : Setup) (b : Board) (l : List IncidentId) :
    Reweighs c l b (l.foldl (fun b i => b.recompute c i) b) := by
  induction l using List.reverseRecOn with
  | nil => exact .refl c b
  | append_singleton l i ih =>
    rw [List.foldl_append]
    exact ih.recompute i

theorem Board.mem_allIncidents_of_incident {b : Board} {i : IncidentId} {x : Incident} (h : b.incident i = some x) :
    i ∈ b.allIncidents := by
  obtain ⟨r, -, hr⟩ := Board.mem_of_incident h
  exact List.mem_map.2 ⟨(i, r), hr, rfl⟩

/-- R76: a change of period computes every incident of the table. -/
theorem State.changePeriod_reweighs (p : Period) (s : State) :
    Reweighs { s.setup with period := p } s.board.allIncidents s.board (s.changePeriod p).board := .foldl ..

/-- R76: each record in the new period; that of a FREE index, listed or not, stays as it is. -/
theorem State.changePeriod_record (p : Period) (s : State) (i : IncidentId) :
    (s.changePeriod p).board.record i = (s.board.record i).reweighed { s.setup with period := p } := by
  rw [(s.changePeriod_reweighs p).records]
  split_ifs with hi
  · rfl
  · refine (IncidentRecord.reweighed_of_free ?_).symm
    cases h : s.board.incident i with
    | none => exact h
    | some x => exact absurd (Board.mem_allIncidents_of_incident h) hi

/-- Settles O30: the owner's lines, the inputs by the kind of subject, and the records of `Reweighs`. -/
theorem setPeriodReweighsIncidents : Obligations.SetPeriodReweighsIncidents := by
  refine ⟨fun d code s hw => ⟨fun h => ?_, fun p hp => ⟨fun hd => ?_, fun hd he => ?_, fun hd hne => ?_⟩⟩,
    fun c x => ⟨rfl, fun k hk => ⟨?_, fun hm => ?_, fun w hm hworst => ?_⟩, fun n hn => ⟨?_, ?_⟩,
      fun t ht => ⟨?_, occupied_eq .., ?_⟩⟩,
    fun p s => ⟨rfl, rfl, rfl, rfl, (s.changePeriod_reweighs p).desks, (s.changePeriod_reweighs p).aging, fun i =>
      ⟨fun h => ?_, fun x h => ⟨fun hx => ?_, fun hs hu => ?_⟩⟩⟩⟩
  · exact answers_of_waits setPeriodCommand rfl hw (setPeriodCommand_of_lt h d s)
  · exact answers_of_waits setPeriodCommand rfl hw (setPeriodCommand_of_offDuty hp hd)
  · exact answers_of_waits setPeriodCommand rfl hw (setPeriodCommand_of_same hp hd he)
  · have := does_of_waits (i := .setPeriod d) setPeriodCommand rfl hw
    rw [setPeriodCommand_of_ne hp hd hne] at this
    exact this
  · rw [hk]; rfl
  · rw [urgencyInputs_of_no_members hk hm]; rfl
  · rw [urgencyInputs_of_worst hk hm hworst]; rfl
  · rw [hn]; rfl
  · rw [urgencyInputs_of_station hn]; rfl
  · rw [ht]; rfl
  · rw [urgencyInputs_of_trunk ht, occupied_eq]; rfl
  · rw [State.changePeriod_record, IncidentRecord.reweighed_of_free h]
  · rw [State.changePeriod_record, IncidentRecord.reweighed_of_kept h hx]
  · rw [State.changePeriod_record, IncidentRecord.reweighed_of_moved h hs hu]; rfl

end Sys2Proof.Machine
end

section
/-! SUPPORT. A command whose owner's answer is known (R179), the desk groups (R80, R90), and the changes of one incident
that the arbiter makes (R86 to R96). -/

namespace Sys2Proof.Machine

/-- A command that a desk has WAITING, by what its owner makes of the state and answers (R179). -/
theorem does_of_answer {s u : State} {d : DeskId} {code : Byte} {args : List Byte} {i : Instr} {v : Verdict} (op : Owner)
    (hi : exec i s = .next (s.serve code d op)) (h : s.waits d (code :: args)) (hop : op args d s = (u, v)) :
    Does i s (u.answered d code v) := by simpa only [hop] using does_of_waits op hi h

/-! ## Desk groups (R80) -/

theorem allDesks_pairwise : allDesks.Pairwise (· < ·) := by decide

theorem startsGroup_iff {a : Settings} {d : DeskId} :
    startsGroup a d = true ↔ d = 0 ∨ (a.desks[d]).continues = false := by
  simp only [startsGroup, Bool.or_eq_true, decide_eq_true_eq, Bool.not_eq_true']

/-- The last entry of a rising list is its greatest. -/
theorem le_of_getLast? {l : List DeskId} (hl : l.Pairwise (· < ·)) {g h : DeskId} (hg : l.getLast? = some g)
    (hh : h ∈ l) : h ≤ g := by
  obtain ⟨front, rfl⟩ := List.getLast?_eq_some_iff.1 hg
  rcases List.mem_append.1 hh with hh | hh
  · exact le_of_lt ((List.pairwise_append.1 hl).2.2 h hh g (List.mem_singleton_self g))
  · exact le_of_eq (List.mem_singleton.1 hh)

/-- R80: the start desk of a desk's group starts a group, and of those that do not stand above the desk it is the last. -/
theorem groupStart_spec (a : Settings) (d : DeskId) : startsGroup a (groupStart a d) = true ∧ groupStart a d ≤ d ∧
    ∀ h, startsGroup a h = true → h ≤ d → h ≤ groupStart a d := by
  have mem : ∀ h, h ∈ allDesks.filter (fun g => decide (g ≤ d) && startsGroup a g) ↔ h ≤ d ∧ startsGroup a h = true := by
    simp [mem_allDesks]
  have hzero := (mem 0).2 ⟨Fin.zero_le d, startsGroup_iff.2 (.inl rfl)⟩
  obtain ⟨g, hg⟩ := Option.ne_none_iff_exists'.1 (mt List.getLast?_eq_none_iff.1 (List.ne_nil_of_mem hzero))
  have hstart : groupStart a d = g := by rw [groupStart, hg, Option.getD_some]
  obtain ⟨hle, hs⟩ := (mem g).1 (List.mem_of_getLast? hg)
  rw [hstart]
  exact ⟨hs, hle, fun h hh hd => le_of_getLast? (allDesks_pairwise.filter _) hg ((mem h).2 ⟨hd, hh⟩)⟩

theorem groupStart_eq_iff {a : Settings} {g d : DeskId} : groupStart a d = g ↔
    startsGroup a g = true ∧ g ≤ d ∧ ∀ h, startsGroup a h = true → h ≤ d → h ≤ g := by
  obtain ⟨hs, hle, hlast⟩ := groupStart_spec a d
  constructor
  · rintro rfl
    exact ⟨hs, hle, hlast⟩
  · rintro ⟨hgs, hgle, hglast⟩
    exact le_antisymm (hglast _ hs hle) (hlast g hgs hgle)

theorem inGroup_iff {a : Settings} {g d : DeskId} : inGroup a g d = true ↔ groupStart a d = g := decide_eq_true_iff

theorem mem_groupDesks {a : Settings} {g d : DeskId} : d ∈ groupDesks a g ↔ inGroup a g d = true := by
  simp only [groupDesks, List.mem_filter, mem_allDesks, true_and]

theorem getLsbD_deskBit (d e : DeskId) : (deskBit e).getLsbD d.val = decide (d = e) := by
  revert d e
  decide

theorem getLsbD_foldl_deskBit (d : DeskId) (l : List DeskId) (set : DeskSet) :
    (l.foldl (fun acc e => acc ||| deskBit e) set).getLsbD d.val = (set.getLsbD d.val || decide (d ∈ l)) := by
  induction l generalizing set with
  | nil => simp
  | cons e rest ih =>
    rw [List.foldl_cons, ih, BitVec.getLsbD_or, getLsbD_deskBit, Bool.or_assoc, ← Bool.decide_or]
    simp only [List.mem_cons]

/-- R189: the set of a group holds the desks of the group. -/
theorem getLsbD_groupSet (a : Settings) (g d : DeskId) : (groupSet a g).getLsbD d.val = inGroup a g d := by
  rw [groupSet, getLsbD_foldl_deskBit]
  simp [mem_groupDesks]

/-! ## One incident changed by the arbiter (R86 to R96) -/

section

variable {i : IncidentId} {new : Incident} (b : Board) (h : new.state ≠ .closed)
include h

theorem Board.commit_arbiter_desks : (b.commit .arbiter i new).desks = b.desks := by
  rw [Board.commit_arbiter _ _ _ h]
  split <;> simp

theorem Board.commit_arbiter_links : (b.commit .arbiter i new).links = b.links := by
  rw [Board.commit_arbiter _ _ _ h]
  split <;> simp

theorem Board.commit_arbiter_aging : (b.commit .arbiter i new).aging = b.aging := by
  rw [Board.commit_arbiter _ _ _ h]
  split <;> simp

end

/-- A change of the arbiter to an incident that does not become OPEN runs no group (R85). -/
theorem Board.commit_arbiter_stirs {i : IncidentId} {new : Incident} {b : Board} (hne : b.incident i ≠ some new)
    (h : new.state ≠ .opened) : (b.commit .arbiter i new).stirs = b.stirs :=
  Vector.ext fun k hk => Board.commit_stirs_of_unstirred .arbiter hne (g := ⟨k, hk⟩) (.inl h)

/-- A change of the arbiter that leaves an incident standing in the queues as it stood writes the record alone. -/
theorem Board.commit_arbiter_of_standing {i : IncidentId} {new : Incident} {b : Board} (hne : b.incident i ≠ some new)
    (hs : (b.incident i).bind Incident.standing = new.standing) (hc : new.state ≠ .closed) :
    b.commit .arbiter i new =
      { b with incidents := b.incidents.put i ⟨(b.change i + 1) % 65536, some new⟩ } := by
  rw [Board.commit_of_standing (by decide) hne hs, Board.closeOut_of_not_closing fun h => hc h.1]
  refine (if_neg hne).trans ?_
  rw [Table.store, if_neg (by simp)]
  rfl

/-- A new state makes a new incident. -/
theorem Board.incident_ne_of_state {b : Board} {i : IncidentId} {x y : Incident} (hx : b.incident i = some x)
    (hs : x.state ≠ y.state) : b.incident i ≠ some y := by
  rw [hx]
  exact fun h => hs (congrArg Incident.state (Option.some.inj h))

end Sys2Proof.Machine
end

section
/-! PROOFS. Offers and runs (R82 to R86): the turns of a group's desks, the offer that a run makes next, and that a run goes
on until it can make none. -/

namespace Sys2Proof.Machine

/-! ## The next offer (R82, R84) -/

theorem eligible_iff {a : Settings} {b : Board} {d : DeskId} : eligible a b d = true ↔
    (b.links[d]).up = true ∧ (b.desks[d]).onDuty = true ∧ (b.desks[d]).unresponsive = false ∧
      (b.desks[d]).slot = none ∧ (b.desks[d]).assigned < (a.desks[d]).limit := by
  simp only [eligible, Bool.and_eq_true, Bool.not_eq_true', Option.isNone_iff_eq_none, decide_eq_true_eq, and_assoc]

/-- R82: the incident is offerable to the desk. -/
def Board.Offerable (b : Board) (d : DeskId) (i : IncidentId) : Prop :=
  ∃ x, b.incident i = some x ∧ x.declined.getLsbD d.val = false

/-- R84: the desk is of the group and eligible, and an incident of the group's queue is offerable to it. -/
def Board.Ready (a : Settings) (b : Board) (g d : DeskId) : Prop :=
  inGroup a g d = true ∧ eligible a b d = true ∧ ∃ i ∈ b.queues[g], b.Offerable d i

/-- R84: the turn of a desk from the pointer on: the desk after the pointer first, the pointer desk last. -/
def turnOf (pointer d : DeskId) : Nat := (d.val + 5 - pointer.val) % 6

theorem mem_roundRobin {a : Settings} {b : Board} {g d : DeskId} : d ∈ roundRobin a b g ↔ inGroup a g d = true := by
  simp only [roundRobin, List.mem_append, List.mem_filter, mem_groupDesks, decide_eq_true_eq, ← and_or_left,
    lt_or_ge, and_true]

/-- R84: the desks of a group stand in the order of their turns. -/
theorem roundRobin_pairwise (a : Settings) (b : Board) (g : DeskId) :
    (roundRobin a b g).Pairwise fun d e => turnOf b.pointers[g] d ≤ turnOf b.pointers[g] e := by
  have rising : (groupDesks a g).Pairwise (· < ·) := allDesks_pairwise.filter _
  generalize hp : b.pointers[g] = p
  simp only [roundRobin, hp]
  refine List.pairwise_append.2 ⟨?_, ?_, fun d hd e he => ?_⟩
  · refine (rising.filter _).imp_of_mem fun {d e} hd he hde => ?_
    simp only [List.mem_filter, decide_eq_true_eq, Fin.lt_def] at hd he hde
    unfold turnOf
    omega
  · refine (rising.filter _).imp_of_mem fun {d e} hd he hde => ?_
    simp only [List.mem_filter, decide_eq_true_eq, Fin.le_def, Fin.lt_def] at hd he hde
    unfold turnOf
    omega
  · simp only [List.mem_filter, decide_eq_true_eq, Fin.le_def, Fin.lt_def] at hd he
    unfold turnOf
    omega

/-- R82: what an offer to the desk makes of one place of a queue. -/
def Board.offerAt (b : Board) (d : DeskId) (i : IncidentId) : Option (IncidentId × Incident) :=
  match b.incident i with
  | some x => if inSet d x.declined then none else some (i, x)
  | none => none

theorem offerableTo_eq (b : Board) (g d : DeskId) : offerableTo b g d = (b.queues[g]).findSome? (b.offerAt d) := rfl

theorem Board.offerAt_eq_some {b : Board} {d : DeskId} {i j : IncidentId} {x : Incident} :
    b.offerAt d j = some (i, x) ↔ j = i ∧ b.incident i = some x ∧ x.declined.getLsbD d.val = false := by
  unfold Board.offerAt inSet
  constructor
  · split
    · next y hy =>
      split_ifs with hd
      · simp
      · rintro ⟨rfl, rfl⟩
        exact ⟨rfl, hy, Bool.eq_false_iff.2 hd⟩
    · simp
  · rintro ⟨rfl, hx, hd⟩
    simp only [hx, hd, Bool.false_eq_true, if_false]

theorem Board.offerAt_eq_none {b : Board} {d : DeskId} {i : IncidentId} : b.offerAt d i = none ↔ ¬b.Offerable d i := by
  rw [Option.eq_none_iff_forall_ne_some]
  constructor
  · rintro h ⟨x, hx⟩
    exact h (i, x) (Board.offerAt_eq_some.2 ⟨rfl, hx⟩)
  · rintro h ⟨j, x⟩ hj
    obtain ⟨rfl, hx⟩ := Board.offerAt_eq_some.1 hj
    exact h ⟨x, hx⟩

theorem offerableTo_eq_none {b : Board} {g d : DeskId} :
    offerableTo b g d = none ↔ ¬∃ i ∈ b.queues[g], b.Offerable d i := by
  simp only [offerableTo_eq, List.findSome?_eq_none_iff, Board.offerAt_eq_none, not_exists, not_and]

/-- R82: the incident offered is the first of the queue that is offerable to the desk. -/
theorem offerableTo_first {b : Board} {g d : DeskId} {i : IncidentId} {x : Incident}
    (h : offerableTo b g d = some (i, x)) : b.incident i = some x ∧ x.declined.getLsbD d.val = false ∧
      ∃ front rest, b.queues[g] = front ++ i :: rest ∧ ∀ j ∈ front, ¬b.Offerable d j := by
  obtain ⟨front, j, rest, hq, hj, hfront⟩ := List.findSome?_eq_some_iff.1 ((offerableTo_eq b g d).symm.trans h)
  obtain ⟨rfl, hx, hd⟩ := Board.offerAt_eq_some.1 hj
  exact ⟨hx, hd, front, rest, hq, fun k hk => Board.offerAt_eq_none.1 (hfront k hk)⟩

/-- R84: the offer that a run makes when the turn is the desk's. -/
def Board.offerTo (a : Settings) (b : Board) (g d : DeskId) : Option (DeskId × IncidentId × Incident) :=
  if eligible a b d then (offerableTo b g d).map fun p => (d, p.1, p.2) else none

theorem nextOffer_eq (a : Settings) (b : Board) (g : DeskId) :
    nextOffer a b g = (roundRobin a b g).findSome? (b.offerTo a g) := rfl

theorem Board.offerTo_eq_some {a : Settings} {b : Board} {g d e : DeskId} {i : IncidentId} {x : Incident} :
    b.offerTo a g e = some (d, i, x) ↔ e = d ∧ eligible a b d = true ∧ offerableTo b g d = some (i, x) := by
  unfold Board.offerTo
  split_ifs with he
  · simp only [Option.map_eq_some_iff, Prod.exists, Prod.mk.injEq]
    constructor
    · rintro ⟨j, y, hj, rfl, rfl, rfl⟩
      exact ⟨rfl, he, hj⟩
    · rintro ⟨rfl, -, hi⟩
      exact ⟨i, x, hi, rfl, rfl, rfl⟩
  · simp only [false_iff]
    rintro ⟨rfl, he', -⟩
    exact he he'

theorem Board.offerTo_eq_none {a : Settings} {b : Board} {g d : DeskId} (hg : inGroup a g d = true) :
    b.offerTo a g d = none ↔ ¬b.Ready a g d := by
  unfold Board.offerTo Board.Ready
  by_cases he : eligible a b d = true
  · rw [if_pos he, Option.map_eq_none_iff, offerableTo_eq_none]
    simp only [hg, he, true_and]
  · simp only [he, false_and, and_false, not_false_eq_true, if_false, Bool.false_eq_true]

/-- R84: a run ends when no desk of the group is ready. -/
theorem nextOffer_eq_none {a : Settings} {b : Board} {g : DeskId} : nextOffer a b g = none ↔ ∀ d, ¬b.Ready a g d := by
  simp only [nextOffer_eq, List.findSome?_eq_none_iff, mem_roundRobin]
  exact ⟨fun h d hd => (Board.offerTo_eq_none hd.1).1 (h d hd.1) hd, fun h d hg => (Board.offerTo_eq_none hg).2 (h d)⟩

/-- R84: the next offer goes to the ready desk whose turn is first. -/
theorem nextOffer_first {a : Settings} {b : Board} {g d : DeskId} {i : IncidentId} {x : Incident}
    (h : nextOffer a b g = some (d, i, x)) : b.Ready a g d ∧ offerableTo b g d = some (i, x) ∧
      ∀ e, b.Ready a g e → turnOf b.pointers[g] d ≤ turnOf b.pointers[g] e := by
  obtain ⟨front, d', rest, hl, hd', hfront⟩ := List.findSome?_eq_some_iff.1 ((nextOffer_eq a b g).symm.trans h)
  obtain ⟨rfl, he, ho⟩ := Board.offerTo_eq_some.1 hd'
  have hg : inGroup a g d' = true := mem_roundRobin.1 (hl ▸ List.mem_append_right front List.mem_cons_self)
  have turns := roundRobin_pairwise a b g
  rw [hl] at turns
  obtain ⟨-, turns, -⟩ := List.pairwise_append.1 turns
  refine ⟨⟨hg, he, not_not.1 fun hn => ?_⟩, ho, fun e hready => ?_⟩
  · cases (offerableTo_eq_none.2 hn).symm.trans ho
  · have hmem : e ∈ front ++ d' :: rest := hl ▸ mem_roundRobin.2 hready.1
    rcases List.mem_append.1 hmem with hf | hr
    · exact absurd hready ((Board.offerTo_eq_none hready.1).1 (hfront e hf))
    · rcases List.mem_cons.1 hr with rfl | hr
      · exact le_rfl
      · exact List.rel_of_pairwise_cons turns hr

/-! ## One offer (R86) -/

section

variable (c : Setup) (g d : DeskId) {i : IncidentId} {x : Incident} (b : Board)

theorem Board.makeOffer_desks : (b.makeOffer c g d i x).desks =
    b.desks.set d { b.desks[d] with slot := some ⟨i, c.time + b.timeouts[g]⟩ } := by
  have h := b.commit_arbiter_desks (i := i) (new := { x with state := .offered }) (by simp)
  show (b.commit .arbiter i { x with state := .offered }).desks.set d
    { (b.commit .arbiter i { x with state := .offered }).desks[d] with slot := some ⟨i, c.time + b.timeouts[g]⟩ } = _
  rw [h]

theorem Board.makeOffer_pointers : (b.makeOffer c g d i x).pointers = b.pointers.set g d :=
  congrArg (fun v : Vector DeskId 6 => v.set g d) (b.commit_pointers .arbiter i { x with state := .offered })

theorem Board.makeOffer_aging : (b.makeOffer c g d i x).aging = b.aging := b.commit_arbiter_aging (by simp)

theorem Board.makeOffer_timeouts : (b.makeOffer c g d i x).timeouts = b.timeouts := b.commit_timeouts ..

variable {b} (hne : b.incident i ≠ some { x with state := .offered })
include hne

theorem Board.makeOffer_stirs : (b.makeOffer c g d i x).stirs = b.stirs := Board.commit_arbiter_stirs hne (by simp)

theorem Board.makeOffer_links : (b.makeOffer c g d i x).links = b.links.set d ((b.links[d]).take
    (.offer i ((b.change i + 1) % 65536) x.urgency (c.time + b.timeouts[g]))) := by
  have h := b.commit_arbiter_links (i := i) (new := { x with state := .offered }) (by simp)
  show (b.commit .arbiter i { x with state := .offered }).links.set d
    (((b.commit .arbiter i { x with state := .offered }).links[d]).take (.offer i
      ((b.commit .arbiter i { x with state := .offered }).change i) x.urgency (c.time + b.timeouts[g]))) = _
  rw [h, Board.commit_change .arbiter hne]

end

/-! ## A run (R84) -/

/-- The desks whose offer slot is empty. -/
def Board.openSlots (b : Board) : Finset DeskId := Finset.univ.filter fun d => (b.desks[d]).slot = none

theorem Board.mem_openSlots {b : Board} {d : DeskId} : d ∈ b.openSlots ↔ (b.desks[d]).slot = none := by
  simp only [Board.openSlots, Finset.mem_filter, Finset.mem_univ, true_and]

/-- An offer to a desk with an empty slot fills it. -/
theorem Board.openSlots_makeOffer (c : Setup) {g d : DeskId} {i : IncidentId} {x : Incident} {b : Board} :
    (b.makeOffer c g d i x).openSlots = b.openSlots.erase d := by
  ext e
  rw [Finset.mem_erase, Board.mem_openSlots, Board.mem_openSlots, Board.makeOffer_desks, Vector.getElem_set_fin]
  split_ifs with hde
  · simp [hde]
  · simp [Ne.symm hde]

section

variable {c : Setup} {g : DeskId} {b : Board}

theorem mem_openSlots_of_nextOffer {d : DeskId} {i : IncidentId} {x : Incident}
    (h : nextOffer c.active b g = some (d, i, x)) : d ∈ b.openSlots :=
  Board.mem_openSlots.2 (eligible_slot (nextOffer_spec h).1)

theorem card_openSlots_makeOffer {d : DeskId} {i : IncidentId} {x : Incident}
    (h : nextOffer c.active b g = some (d, i, x)) :
    (b.makeOffer c g d i x).openSlots.card + 1 = b.openSlots.card := by
  rw [Board.openSlots_makeOffer, Finset.card_erase_add_one (mem_openSlots_of_nextOffer h)]

theorem runSteps_of_none (h : nextOffer c.active b g = none) (fuel : Nat) : runSteps c g fuel b = b := by
  cases fuel with
  | zero => rfl
  | succ fuel => simp only [runSteps, h]

theorem runSteps_of_some {d : DeskId} {i : IncidentId} {x : Incident} (h : nextOffer c.active b g = some (d, i, x))
    (fuel : Nat) : runSteps c g (fuel + 1) b = runSteps c g fuel (b.makeOffer c g d i x) := by
  simp only [runSteps, h]

/-- R84: a run with a step for each empty slot ends with no offer to make, and further steps make none. -/
theorem runSteps_settles {fuel : Nat} (h : b.openSlots.card ≤ fuel) :
    nextOffer c.active (runSteps c g fuel b) g = none ∧ runSteps c g (fuel + 1) b = runSteps c g fuel b := by
  induction fuel generalizing b with
  | zero =>
    have hn : nextOffer c.active b g = none := Option.eq_none_iff_forall_ne_some.2 fun ⟨d, i, x⟩ hs => by
      have := mem_openSlots_of_nextOffer hs
      rw [Finset.card_eq_zero.1 (Nat.le_zero.1 h)] at this
      exact absurd this (Finset.notMem_empty d)
    exact ⟨hn, runSteps_of_none hn 1⟩
  | succ fuel ih =>
    cases hn : nextOffer c.active b g with
    | none => simp only [runSteps_of_none hn, hn, and_self]
    | some offer =>
      obtain ⟨d, i, x⟩ := offer
      have card := card_openSlots_makeOffer hn
      rw [runSteps_of_some hn, runSteps_of_some hn]
      exact ih (by omega)

theorem Board.card_openSlots_le (b : Board) : b.openSlots.card ≤ 6 := b.openSlots.card_le_univ

/-- R84: a run goes on until the group can make no offer. -/
theorem nextOffer_run (c : Setup) (g : DeskId) (b : Board) : nextOffer c.active (b.run c g) g = none :=
  (runSteps_settles b.card_openSlots_le).1

/-- R84: a run is its next offer and the run from there. -/
theorem Board.run_of_some {d : DeskId} {i : IncidentId} {x : Incident} (h : nextOffer c.active b g = some (d, i, x)) :
    b.run c g = (b.makeOffer c g d i x).run c g := by
  have card := card_openSlots_makeOffer h
  have le := b.card_openSlots_le
  exact (runSteps_of_some h 5).trans (runSteps_settles (by omega)).2.symm

end

/-! ## The runs of an event (R85) -/

theorem deskFreed_iff {before after : Board} {d : DeskId} : deskFreed before after d = true ↔
    ((before.desks[d]).slot ≠ none ∧ (after.desks[d]).slot = none) ∨
      (after.desks[d]).assigned < (before.desks[d]).assigned ∨
      ((before.desks[d]).onDuty = false ∧ (after.desks[d]).onDuty = true) ∨
      ((before.desks[d]).unresponsive = true ∧ (after.desks[d]).unresponsive = false) := by
  simp only [deskFreed, Bool.or_eq_true, Bool.and_eq_true, Bool.not_eq_true', decide_eq_true_eq,
    Option.isNone_iff_eq_none, Option.isSome_iff_ne_none, or_assoc, and_comm (a := (after.desks[d]).onDuty = true)]

theorem runDue_iff {c : Setup} {before after : Board} {g : DeskId} : runDue c before after g = true ↔
    startsGroup c.active g = true ∧ (before.stirs[g] < after.stirs[g] ∨
      ∃ d, inGroup c.active g d = true ∧ deskFreed before after d = true) := by
  simp only [runDue, queueStirred, Bool.and_eq_true, Bool.or_eq_true, decide_eq_true_eq, List.any_eq_true, mem_groupDesks]

/-- A board on which fewer desks are eligible and fewer places of queues are offerable has no offer where there was none. -/
theorem nextOffer_none_of_le {a : Settings} {b c : Board} {g : DeskId} (h : nextOffer a b g = none)
    (hdesk : ∀ d, eligible a c d = true → eligible a b d = true)
    (hplace : ∀ i d, i ∈ c.queues[g] → c.Offerable d i → i ∈ b.queues[g] ∧ b.Offerable d i) :
    nextOffer a c g = none := by
  refine nextOffer_eq_none.2 fun d ⟨hg, he, i, hi, ho⟩ => ?_
  obtain ⟨hi', ho'⟩ := hplace i d hi ho
  exact nextOffer_eq_none.1 h d ⟨hg, hdesk d he, i, hi', ho'⟩

/-- An offer leaves the decline set as it is (R82). -/
theorem RecordEnd.offerable {b c : Board} {i : IncidentId} {d : DeskId} (h : RecordEnd (b.record i) (c.record i))
    (ho : c.Offerable d i) : b.Offerable d i := by
  obtain ⟨y, hy, hd⟩ := ho
  rcases h with heq | ⟨x, hx, -, hr⟩
  · exact ⟨y, by rw [Board.incident, ← heq]; exact hy, hd⟩
  · have hxy : y = { x with state := .offered } := by
      rw [Board.incident, hr] at hy
      exact (Option.some.inj hy).symm
    exact ⟨x, hx, by rw [hxy] at hd; exact hd⟩

/-- A desk that runs leave eligible was eligible. -/
theorem RunKept.eligible {a : Settings} {b c : Board} (h : RunKept a b c) {d : DeskId}
    (he : eligible a c d = true) : Machine.eligible a b d = true := by
  rcases h.desks d with ⟨hd, hl⟩ | ⟨hb, -⟩
  · rwa [eligible_congr a (by rw [hl]) hd] at he
  · exact hb

/-- A group that has no offer to make has none after the runs of others. -/
theorem RunKept.nextOffer_none {a : Settings} {b c : Board} {g : DeskId} (h : RunKept a b c)
    (hn : nextOffer a b g = none) : nextOffer a c g = none :=
  nextOffer_none_of_le hn (fun _ => h.eligible) fun i _ hi ho => ⟨(h.queues g).1.subset hi, (h.records i).offerable ho⟩

/-- R85: of the groups run one after another, each is left with no offer to make. -/
theorem nextOffer_foldl_run (c : Setup) {g : DeskId} {l : List DeskId} (hg : g ∈ l) (b : Board) :
    nextOffer c.active (l.foldl (fun b h => b.run c h) b) g = none := by
  induction l generalizing b with
  | nil => cases hg
  | cons h rest ih =>
    rcases List.mem_cons.1 hg with rfl | hg
    · exact (RunKept.foldl (fun b h => b.run c h) (fun b h => .run c h b) rest _).nextOffer_none (nextOffer_run c g b)
    · exact ih hg _

theorem Link.begin_up (l : Link) : l.begin.up = l.up := by
  unfold Link.begin
  split_ifs
  · split <;> rfl
  · rfl

theorem nextOffer_beginLines {a : Settings} {b : Board} {g : DeskId} (h : nextOffer a b g = none) :
    nextOffer a b.beginLines g = none := by
  refine nextOffer_none_of_le h (fun d hd => ?_) fun i d hi ho => ?_
  · have hlink : (b.beginLines.links[d]).up = (b.links[d]).up := by rw [Board.beginLines_links, Link.begin_up]
    rwa [eligible_congr a hlink (by rw [Board.beginLines_desks])] at hd
  · rw [Board.beginLines_queues] at hi
    exact ⟨hi, RecordEnd.offerable (.inl (b.beginLines_record i)) ho⟩

/-- R84, R85: at the end of an event no group that it has run has an offer to make. -/
theorem nextOffer_conclude {s u : State} {g : DeskId} (h : runDue u.setup s.board u.board g = true) :
    nextOffer u.setup.active (s.conclude u).board g = none :=
  nextOffer_beginLines (nextOffer_foldl_run u.setup (List.mem_filter.2 ⟨mem_allDesks g, h⟩) u.board)

/-- Settles O42: the parts of an offer from the laws of one event, the next offer by the turns of the desks, and the runs by
the count of empty slots, which each offer lowers. -/
theorem offersAndRuns : Obligations.OffersAndRuns := by
  refine ⟨fun a b d => eligible_iff, fun c g d i x b hx hs => ?_, fun a b g => ⟨nextOffer_eq_none, fun d i x h => ?_⟩,
    fun c b g => ⟨Board.run_of_none, fun d i x => Board.run_of_some, nextOffer_run c g b⟩, fun c before after g => ?_,
    fun s u g => ⟨nextOffer_conclude, (eventEnd_conclude s u).quiet g⟩⟩
  · have hne : b.incident i ≠ some { x with state := .offered } := Board.incident_ne_of_state hx (by simp [hs])
    exact ⟨(Board.commit_record .arbiter hne i).trans (if_pos rfl),
      fun j hj => (Board.commit_record .arbiter hne j).trans (if_neg hj.symm),
      Board.not_mem_commit_queue .arbiter hne hx hs (by simp),
      fun g' j hj => Board.mem_commit_queue_of_ne .arbiter hne hj g', b.makeOffer_desks c g d,
      b.makeOffer_pointers c g d, b.makeOffer_aging c g d, b.makeOffer_timeouts c g d, Board.makeOffer_stirs c g d hne,
      Board.makeOffer_links c g d hne⟩
  · obtain ⟨hready, ho, hturn⟩ := nextOffer_first h
    obtain ⟨hx, hd, hfirst⟩ := offerableTo_first ho
    exact ⟨hready, hturn, hx, hd, hfirst⟩
  · simp only [runDue_iff, deskFreed_iff]

end Sys2Proof.Machine
end

section
/-! PROOFS. Duty (R97, R98): SIGN-ON with the run it calls for, and SIGN-OFF with the withdrawal and the releases. -/

namespace Sys2Proof.Machine

/-! ## SIGN_ON (R97) -/

/-- R93: of the desks, an answer clears the unresponsive flag of the one answered. -/
theorem State.answered_desks (d : DeskId) (code : Byte) (v : Verdict) (s : State) : (s.answered d code v).board.desks =
    s.board.desks.set d { s.board.desks[d] with unresponsive := false } := rfl

/-- R85, R97: a desk that comes on duty has its group run. -/
theorem runDue_of_signOn {d : DeskId} {code : Byte} {v : Verdict} {s : State}
    (h : (s.board.desks[d]).onDuty = false) :
    let u := (s.updDesk d fun x => { x with onDuty := true }).answered d code v
    runDue u.setup s.board u.board (groupStart u.setup.active d) = true := by
  refine runDue_iff.2 ⟨(groupStart_spec ..).1, .inr ⟨d, inGroup_iff.2 rfl, ?_⟩⟩
  refine deskFreed_iff.2 (.inr (.inr (.inl ⟨h, ?_⟩)))
  rw [State.answered_desks, Vector.getElem_set_fin, if_pos rfl, State.updDesk_board, Board.updDesk_desks_self]

/-- Settles O23: the desk's duty is what calls for the run, and a run leaves no offer to make. -/
theorem signOnPutsOnDuty : Obligations.SignOnPutsOnDuty := by
  intro d s hw
  have served := serve_of_waits signOnDesk hw
  have ended := eventEnd_conclude s ((signOnDesk [] d s).1.answered d 0x03#8 (signOnDesk [] d s).2)
  refine ⟨_, congrArg Host.Outcome.next served, ended, fun hoff => ?_⟩
  rw [ended.setup]
  exact nextOffer_conclude (runDue_of_signOn hoff)

/-! ## The offer withdrawn (R92) -/

/-- R92: an incident whose offer is withdrawn returns to OPEN. -/
def Board.returnOffered (i : IncidentId) (b : Board) : Board :=
  match b.incident i with
  | some x => b.commit .arbiter i { x with state := .opened }
  | none => b

theorem Board.returnOffered_of_incident {i : IncidentId} {x : Incident} {b : Board} (hx : b.incident i = some x) :
    b.returnOffered i = b.commit .arbiter i { x with state := .opened } := by simp only [Board.returnOffered, hx]

theorem Board.returnOffered_of_free {i : IncidentId} {b : Board} (h : b.incident i = none) :
    b.returnOffered i = b := by simp only [Board.returnOffered, h]

/-- The return of an incident changes neither desks nor links nor another incident. -/
theorem Board.returnOffered_frame (i : IncidentId) (b : Board) : (b.returnOffered i).desks = b.desks ∧
    (b.returnOffered i).links = b.links ∧ ∀ j, j ≠ i → (b.returnOffered i).incident j = b.incident j := by
  cases hx : b.incident i with
  | none =>
    rw [Board.returnOffered_of_free hx]
    exact ⟨rfl, rfl, fun _ _ => rfl⟩
  | some x =>
    rw [Board.returnOffered_of_incident hx]
    exact ⟨b.commit_arbiter_desks (by simp), b.commit_arbiter_links (by simp), fun j hj =>
      (Board.commit_incident ..).trans (if_neg hj.symm)⟩

theorem Board.withdrawSlot_of_none {cause : Option WithdrawCause} {d : DeskId} {b : Board}
    (h : (b.desks[d]).slot = none) : b.withdrawSlot cause d = b := by simp only [Board.withdrawSlot, h]

section

variable {k : WithdrawCause} {d : DeskId} {o : Offer} {b : Board} (h : (b.desks[d]).slot = some o)
include h

theorem Board.withdrawSlot_of_some : b.withdrawSlot (some k) d =
    let c := (b.updDesk d (Desk.lose o.incident)).returnOffered o.incident
    c.notify d (.withdrawn o.incident (c.change o.incident) k) := by
  simp only [Board.withdrawSlot, h]
  rfl

theorem Board.withdrawSlot_incident {j : IncidentId} (hj : j ≠ o.incident) :
    (b.withdrawSlot (some k) d).incident j = b.incident j := by
  rw [Board.withdrawSlot_of_some h]
  exact ((b.updDesk d (Desk.lose o.incident)).returnOffered_frame o.incident).2.2 j hj

/-- R92: the desk loses its offer, and no other desk changes. -/
theorem Board.withdrawSlot_desks :
    (b.withdrawSlot (some k) d).desks = b.desks.set d ((b.desks[d]).lose o.incident) := by
  rw [Board.withdrawSlot_of_some h]
  exact ((b.updDesk d (Desk.lose o.incident)).returnOffered_frame o.incident).1

variable {y : Incident} (hy : b.incident o.incident = some y) (hs : y.state = .offered)
include hy hs

/-- R92: the incident is OPEN again with its next change number, in its queue, and its desk is told. -/
theorem Board.withdrawSlot_returns :
    (b.withdrawSlot (some k) d).record o.incident =
      ⟨(b.change o.incident + 1) % 65536, some { y with state := .opened }⟩ ∧
    o.incident ∈ (b.withdrawSlot (some k) d).queues[y.group] ∧
    (b.withdrawSlot (some k) d).links =
      b.links.set d ((b.links[d]).take (.withdrawn o.incident ((b.change o.incident + 1) % 65536) k)) := by
  have hy' : (b.updDesk d (Desk.lose o.incident)).incident o.incident = some y := hy
  have hne := Board.incident_ne_of_state (y := { y with state := .opened }) hy' (by simp [hs])
  have links := (b.updDesk d (Desk.lose o.incident)).commit_arbiter_links (i := o.incident)
    (new := { y with state := .opened }) (by simp)
  rw [Board.withdrawSlot_of_some h, Board.returnOffered_of_incident hy']
  dsimp only
  rw [Board.commit_change .arbiter hne, Board.notify_links, links]
  exact ⟨(Board.commit_record .arbiter hne _).trans (if_pos rfl),
    Board.mem_commit_queue_of_opened .arbiter hne (by simp [hy, hs]) rfl rfl, rfl⟩

end

/-- R92: a withdrawal reaches no other desk and leaves what the desk holds. -/
theorem Board.withdrawSlot_frame (k : WithdrawCause) (d : DeskId) (b : Board) :
    (∀ e : DeskId, e ≠ d →
      (b.withdrawSlot (some k) d).desks[e] = b.desks[e] ∧ (b.withdrawSlot (some k) d).links[e] = b.links[e]) ∧
    ((b.withdrawSlot (some k) d).desks[d]).assigned = (b.desks[d]).assigned := by
  cases h : (b.desks[d]).slot with
  | none =>
    rw [Board.withdrawSlot_of_none h]
    exact ⟨fun _ _ => ⟨rfl, rfl⟩, rfl⟩
  | some o =>
    refine ⟨fun e he => ⟨?_, ?_⟩, ?_⟩
    · rw [Board.withdrawSlot_desks h, Vector.getElem_set_fin, if_neg he.symm]
    · rw [Board.withdrawSlot_of_some h]
      refine (Board.getElem_updLink ..).trans ((if_neg he.symm).trans ?_)
      rw [((b.updDesk d (Desk.lose o.incident)).returnOffered_frame o.incident).2.1, Board.updDesk_links]
    · rw [Board.withdrawSlot_desks h, Vector.getElem_set_fin, if_pos rfl]
      rfl

/-! ## Releases with RELEASE-ALL (R98) -/

/-- R98 step 2: with RELEASE-ALL the desk's incidents are released. -/
def Board.releaseIf (all : Bool) (d : DeskId) (b : Board) : Board := if all then b.releaseAll d else b

section

variable (all : Bool) (d : DeskId) (b : Board)

theorem Board.releaseIf_false : b.releaseIf false d = b := rfl
theorem Board.releaseIf_true : b.releaseIf true d = b.releaseAll d := rfl

theorem Board.releaseIf_releases : Releases d (if all then b.heldBy d else []) b (b.releaseIf all d) := by
  cases all with
  | false => exact .refl d b
  | true => exact b.releaseAll_releases d

theorem Board.releaseIf_desk :
    (b.releaseIf all d).desks[d] = { b.desks[d] with assigned := if all = true then 0 else (b.desks[d]).assigned } := by
  cases all with
  | false => rfl
  | true => exact b.releaseAll_desk d

theorem Board.releaseIf_incident {i : IncidentId} {y : Incident} (hy : b.incident i = some y) :
    (b.releaseIf all d).incident i = some (
      if all = true ∧ y.assigned = some d ∧ y.state = .assigned then { y with state := .opened, assigned := none }
      else if all = true ∧ y.assigned = some d ∧ y.state = .restored then { y with assigned := none }
      else y) := by
  cases all with
  | false => simpa only [Board.releaseIf_false, Bool.false_eq_true, false_and, if_false] using hy
  | true =>
    have hr : (b.releaseAll d).incident i = (b.expireAbsence d).incident i :=
      congrArg IncidentRecord.body (b.expireAbsence_record d i).symm
    simpa only [Board.releaseIf_true, true_and] using hr.trans (b.expireAbsence_incident d hy)

/-- R83, R95: the release of other incidents leaves an incident its place in a queue. -/
theorem Board.mem_foldl_releaseOne {j : IncidentId} {g : DeskId} {l : List IncidentId} (hj : j ∉ l) :
    j ∈ (l.foldl (fun b i => b.releaseOne d i) b).queues[g] ↔ j ∈ b.queues[g] := by
  induction l generalizing b with
  | nil => exact Iff.rfl
  | cons i rest ih =>
    obtain ⟨hji, hrest⟩ := not_or.1 (List.mem_cons.not.1 hj)
    refine (ih (b.releaseOne d i) hrest).trans ?_
    unfold Board.releaseOne
    split
    · next x _ =>
      by_cases hne : b.incident i = some (released x)
      · rw [Board.commit_of_same hne]
        rfl
      · exact Board.mem_commit_queue_of_ne .arbiter hne hji g
    · exact Iff.rfl

/-- R98: an incident that the desk does not hold is as it was, and in its queue. -/
theorem Board.releaseIf_of_not_held {j : IncidentId} (hj : j ∉ b.heldBy d) (g : DeskId) :
    (b.releaseIf all d).record j = b.record j ∧ (j ∈ (b.releaseIf all d).queues[g] ↔ j ∈ b.queues[g]) := by
  cases all with
  | false => exact ⟨rfl, Iff.rfl⟩
  | true => exact ⟨((b.releaseAll_releases d).records j).trans (if_neg hj), b.mem_foldl_releaseOne d hj⟩

end

/-! ## SIGN_OFF (R98) -/

section

variable (d : DeskId) (all : Bool) (b : Board)

theorem Board.signOff_board : (b.signOff d all).2 =
    ((b.withdrawSlot (some .signedOff) d).releaseIf all d).updDesk d fun x => { x with onDuty := false } := rfl

theorem Board.signOff_count : (b.signOff d true).1 = ((b.withdrawSlot (some .signedOff) d).heldBy d).length := rfl

theorem Board.signOff_links :
    (b.signOff d all).2.links = (b.withdrawSlot (some .signedOff) d).links := by
  rw [Board.signOff_board, Board.updDesk_links, (Board.releaseIf_releases all d _).links]

theorem Board.signOff_desk : (b.signOff d all).2.desks[d] =
    { (b.withdrawSlot (some .signedOff) d).desks[d] with
      onDuty := false, assigned := if all = true then 0 else (b.desks[d]).assigned } := by
  rw [Board.signOff_board, Board.updDesk_desks_self, Board.releaseIf_desk, (b.withdrawSlot_frame .signedOff d).2]

theorem Board.signOff_other {e : DeskId} (he : e ≠ d) :
    (b.signOff d all).2.desks[e] = b.desks[e] ∧ (b.signOff d all).2.links[e] = b.links[e] := by
  obtain ⟨hdesk, hlink⟩ := (b.withdrawSlot_frame .signedOff d).1 e he
  refine ⟨?_, by rw [Board.signOff_links, hlink]⟩
  rw [Board.signOff_board, Board.getElem_updDesk, if_neg he.symm, (Board.releaseIf_releases all d _).others e he, hdesk]

/-- R92, R98: the incident of the withdrawn offer is not among those released. -/
theorem Board.signOff_returns {o : Offer} {y : Incident} (h : (b.desks[d]).slot = some o)
    (hy : b.incident o.incident = some y) (hs : y.state = .offered) :
    (b.signOff d all).2.record o.incident =
      ⟨(b.change o.incident + 1) % 65536, some { y with state := .opened }⟩ ∧
    o.incident ∈ (b.signOff d all).2.queues[y.group] ∧
    (b.signOff d all).2.links[d] =
      (b.links[d]).take (.withdrawn o.incident ((b.change o.incident + 1) % 65536) .signedOff) := by
  obtain ⟨hrec, hqueue, hlinks⟩ := Board.withdrawSlot_returns (k := .signedOff) h hy hs
  have hfree : o.incident ∉ (b.withdrawSlot (some .signedOff) d).heldBy d := by
    simp [Board.mem_heldBy, Board.incident, hrec]
  obtain ⟨hrec', hqueue'⟩ := Board.releaseIf_of_not_held all d _ hfree y.group
  exact ⟨hrec'.trans hrec, hqueue'.2 hqueue, by rw [Board.signOff_links, hlinks, Vector.getElem_set_fin, if_pos rfl]⟩

/-- R98: of the other incidents, RELEASE-ALL changes those that the desk holds. -/
theorem Board.signOff_incident {i : IncidentId} {y : Incident} (hy : b.incident i = some y)
    (hi : (b.desks[d]).slot.map (·.incident) ≠ some i) :
    (b.signOff d all).2.incident i = some (
      if all = true ∧ y.assigned = some d ∧ y.state = .assigned then { y with state := .opened, assigned := none }
      else if all = true ∧ y.assigned = some d ∧ y.state = .restored then { y with assigned := none }
      else y) := by
  refine Board.releaseIf_incident all d (b.withdrawSlot (some .signedOff) d) ?_
  cases h : (b.desks[d]).slot with
  | none => rw [Board.withdrawSlot_of_none h, hy]
  | some o =>
    have hne : i ≠ o.incident := fun hio => hi (by rw [h, hio]; rfl)
    rw [Board.withdrawSlot_incident h hne, hy]

end

/-- R94, R98: the number released is the desk's assigned count. -/
theorem Board.Arranged.signOff_count {b : Board} (h : b.Arranged) (d : DeskId) :
    (b.signOff d true).1 = (b.desks[d]).assigned := by
  rw [Board.signOff_count, ← (h.withdrawSlot (some .signedOff) d).counts d, (b.withdrawSlot_frame .signedOff d).2]

theorem signOffDesk_of_lt {option : Byte} (h : 1 < option.toNat) (d : DeskId) (s : State) :
    signOffDesk [option] d s = (s, .invalid) := by simp only [signOffDesk, optionOf_of_lt h]

theorem signOffDesk_of_holding {d : DeskId} {s : State} (h : 0 < (s.board.desks[d]).assigned) :
    signOffDesk [0#8] d s = (s, .refused .holdsIncidents) := if_pos ⟨h, rfl⟩

theorem signOffDesk_of_idle {d : DeskId} {s : State} (h : (s.board.desks[d]).assigned = 0) :
    signOffDesk [0#8] d s = (s.onBoard fun _ b => (b.signOff d false).2, .done (.count 0)) :=
  if_neg fun hc => absurd hc.1 (by omega)

theorem signOffDesk_of_all (d : DeskId) (s : State) : signOffDesk [1#8] d s =
    (s.onBoard fun _ b => (b.signOff d true).2, .done (.count (s.board.signOff d true).1)) :=
  if_neg fun hc => Bool.false_ne_true hc.2.symm

/-- Settles O24: the owner's lines by the option, and on the board the withdrawal and then the releases. -/
theorem signOffTakesOffDuty : Obligations.SignOffTakesOffDuty := by
  refine ⟨fun d option s hw => ?_, fun d all b => ⟨?_, fun e he => b.signOff_other d all he, fun h => ?_,
    fun o y h hy hs => b.signOff_returns d all h hy hs,
    fun h => ⟨h.signOff_count d, b.heldBy d, (h.signOff_count d).trans (h.counts d),
      (Board.heldBy_pairwise h.rising d).imp fun hij => hij.ne, fun i => Board.mem_heldBy⟩,
    fun i y hy hi => b.signOff_incident d all hy hi⟩⟩
  · refine ⟨fun hbad => answers_of_waits signOffDesk rfl hw (signOffDesk_of_lt hbad d s), ?_, ?_, ?_⟩
    · rintro rfl h
      exact answers_of_waits signOffDesk rfl hw (signOffDesk_of_holding h)
    · rintro rfl h
      exact does_of_answer signOffDesk rfl hw (signOffDesk_of_idle h)
    · rintro rfl
      exact does_of_answer signOffDesk rfl hw (signOffDesk_of_all d s)
  · rw [Board.signOff_desk]
    cases h : (b.desks[d]).slot with
    | none => simp only [Board.withdrawSlot_of_none h, h]
    | some o => rw [Board.withdrawSlot_desks h, Vector.getElem_set_fin, if_pos rfl]; rfl
  · rw [Board.signOff_links, Board.withdrawSlot_of_none h]

end Sys2Proof.Machine
end

section
/-! PROOFS. Answers to offers (R87, R88, R90): ACCEPT and DECLINE. -/

namespace Sys2Proof.Machine

/-! ## The owner's lines -/

theorem Desk.offers_iff {x : Desk} {i : IncidentId} : x.offers i = true ↔ ∃ o, x.slot = some o ∧ o.incident = i := by
  simp only [Desk.offers, decide_eq_true_eq, Option.map_eq_some_iff]

/-- R87, R88: the answer to an offer, which is taken where the desk's slot holds the incident; the first line that applies
decides. -/
def offerAnswer (d : DeskId) (i : IncidentId) (s : State) (taken : State × Verdict) : State × Verdict :=
  if (s.board.desks[d]).offers i then taken
  else if (s.board.desks[d]).lastWithdrawn = some i then (s, .tooLate)
  else (s, .refused .notOffered)

section

variable {d : DeskId} {i : IncidentId} {s : State}

theorem acceptIncident_eq {hi lo : Byte} (h : half hi lo = i.val) : acceptIncident [hi, lo] d s =
    let u := s.onBoard fun _ b => b.acceptOffer d i
    offerAnswer d i s (u, .done (.accepted i (u.board.change i) (u.board.desks[d]).assigned)) := withIndex_of_eq h ..

theorem declineIncident_eq {hi lo : Byte} (h : half hi lo = i.val) : declineIncident [hi, lo] d s =
    let u := s.onBoard fun c b => b.declineOffer c d i
    offerAnswer d i s (u, .done (.incident i (u.board.change i))) := withIndex_of_eq h ..

theorem offerAnswer_of_offered {o : Offer} (ho : (s.board.desks[d]).slot = some o) (hi : o.incident = i)
    (taken : State × Verdict) : offerAnswer d i s taken = taken := if_pos (Desk.offers_iff.2 ⟨o, ho, hi⟩)

variable (h : ∀ o, (s.board.desks[d]).slot = some o → o.incident ≠ i) (taken : State × Verdict)
include h

theorem offerAnswer_of_late (hl : (s.board.desks[d]).lastWithdrawn = some i) :
    offerAnswer d i s taken = (s, .tooLate) :=
  (if_neg fun hc => let ⟨o, ho, hi⟩ := Desk.offers_iff.1 hc; h o ho hi).trans (if_pos hl)

theorem offerAnswer_of_other (hl : (s.board.desks[d]).lastWithdrawn ≠ some i) :
    offerAnswer d i s taken = (s, .refused .notOffered) :=
  (if_neg fun hc => let ⟨o, ho, hi⟩ := Desk.offers_iff.1 hc; h o ho hi).trans (if_neg hl)

end

/-! ## ACCEPT (R87) -/

section

variable {d : DeskId} {i : IncidentId} {x : Incident} (hs : x.state = .offered)
include hs

/-- R87: the record ASSIGNED to the desk, its slot emptied and its count up by 1. -/
theorem Board.acceptOffer_of_offered {b : Board} (hx : b.incident i = some x) : b.acceptOffer d i = { b with
      incidents := b.incidents.put i
        ⟨(b.change i + 1) % 65536, some { x with state := .assigned, assigned := some d }⟩
      desks := b.desks.set d { b.desks[d] with slot := none, assigned := (b.desks[d]).assigned + 1 } } := by
  have hne := Board.incident_ne_of_state (y := { x with state := .assigned, assigned := some d }) hx (by simp [hs])
  have hstand : (b.incident i).bind Incident.standing =
      ({ x with state := .assigned, assigned := some d } : Incident).standing := by
    rw [hx, Option.bind_some, Incident.standing_of_ne (by simp [hs]), Incident.standing_of_ne (by simp)]
  simp only [Board.acceptOffer, hx, Board.commit_arbiter_of_standing hne hstand (by simp)]
  simp [Board.emptySlot, Board.updDesk]

theorem acceptIncident_of_offered {hi lo : Byte} {o : Offer} {s : State} (hv : half hi lo = i.val)
    (ho : (s.board.desks[d]).slot = some o) (hoi : o.incident = i) (hx : s.board.incident i = some x) :
    acceptIncident [hi, lo] d s = ({ s with board := { s.board with
        incidents := s.board.incidents.put i
          ⟨(s.board.change i + 1) % 65536, some { x with state := .assigned, assigned := some d }⟩
        desks := s.board.desks.set d
          { s.board.desks[d] with slot := none, assigned := (s.board.desks[d]).assigned + 1 } } },
      .done (.accepted i ((s.board.change i + 1) % 65536) ((s.board.desks[d]).assigned + 1))) := by
  rw [acceptIncident_eq hv, offerAnswer_of_offered ho hoi]
  dsimp only [State.onBoard]
  rw [Board.acceptOffer_of_offered hs hx]
  simp [Board.change, Board.record, Table.get]

end

/-- Settles O25: the owner's lines, and the board of an accepted offer written out. -/
theorem acceptAssignsOffer : Obligations.AcceptAssignsOffer := by
  intro d hi lo s hw
  have answers : ∀ {v}, acceptIncident [hi, lo] d s = (s, v) → Answers (.accept d) d 0x20#8 v s :=
    answers_of_waits acceptIncident rfl hw
  refine ⟨fun hle => answers (withIndex_of_le hle ..), fun i hv => ⟨fun o x ho hoi hx hs => ?_, fun h => ⟨fun hl => ?_,
    fun hl => ?_⟩⟩⟩
  · exact does_of_answer acceptIncident rfl hw (acceptIncident_of_offered hs hv ho hoi hx)
  · exact answers ((acceptIncident_eq hv).trans (offerAnswer_of_late h _ hl))
  · exact answers ((acceptIncident_eq hv).trans (offerAnswer_of_other h _ hl))

/-! ## DECLINE (R88, R90) -/

theorem roundComplete_iff {a : Settings} {g : DeskId} {declined : DeskSet} :
    roundComplete a g declined = true ↔ declined &&& groupSet a g = groupSet a g := decide_eq_true_iff

section

variable {c : Setup} {d : DeskId} {x : Incident}

theorem declinedBy_group : (declinedBy c d x).group = x.group := by
  dsimp only [declinedBy]
  split_ifs <;> rfl

theorem declinedBy_of_round_open
    (h : roundComplete c.active (groupStart c.active x.group) (x.declined ||| deskBit d) ≠ true) :
    declinedBy c d x = { x with state := .opened, declined := x.declined ||| deskBit d } := if_neg h

variable (h : roundComplete c.active (groupStart c.active x.group) (x.declined ||| deskBit d) = true)
include h

theorem declinedBy_of_last_round (hr : 3 ≤ x.rounds) :
    declinedBy c d x = { x with state := .opened, declined := 0 } := (if_pos h).trans (if_neg (Nat.not_lt.2 hr))

theorem declinedBy_of_round (hr : x.rounds < 3) : declinedBy c d x =
    reweigh c { x with state := .opened, declined := 0, rounds := x.rounds + 1 } := (if_pos h).trans (if_pos hr)

end

theorem Board.declineOffer_of_incident {c : Setup} {d : DeskId} {i : IncidentId} {x : Incident} {b : Board}
    (hx : b.incident i = some x) :
    b.declineOffer c d i = (b.emptySlot d).commit .arbiter i (declinedBy c d x) := by simp only [Board.declineOffer, hx]

theorem declineIncident_of_offered {hi lo : Byte} {d : DeskId} {i : IncidentId} {o : Offer} {x : Incident} {s : State}
    (hv : half hi lo = i.val) (ho : (s.board.desks[d]).slot = some o) (hoi : o.incident = i)
    (hx : s.board.incident i = some x) (hs : x.state = .offered) : declineIncident [hi, lo] d s =
      (s.onBoard fun c b => b.declineOffer c d i, .done (.incident i ((s.board.change i + 1) % 65536))) := by
  rw [declineIncident_eq hv, offerAnswer_of_offered ho hoi]
  dsimp only [State.onBoard]
  rw [Board.declineOffer_change hx hs]

/-- Settles O26: the owner's lines, the groups by their start desks, and the declined incident as one event of the arbiter. -/
theorem declineReturnsIncident : Obligations.DeclineReturnsIncident := by
  refine ⟨fun d hi lo s hw => ?_,
    fun a g d => ⟨getLsbD_groupSet a g d, inGroup_iff, groupStart_eq_iff, startsGroup_iff⟩,
    fun c d i x b hx hs => ⟨?_, fun hr => declinedBy_of_round_open (mt roundComplete_iff.1 hr),
      fun hr => declinedBy_of_last_round (roundComplete_iff.2 hr),
      fun hr => declinedBy_of_round (roundComplete_iff.2 hr)⟩⟩
  · have answers : ∀ {v}, declineIncident [hi, lo] d s = (s, v) → Answers (.decline d) d 0x21#8 v s :=
      answers_of_waits declineIncident rfl hw
    refine ⟨fun hle => answers (withIndex_of_le hle ..), fun i hv => ⟨fun o x ho hoi hx hs => ?_, fun h => ⟨fun hl => ?_,
      fun hl => ?_⟩⟩⟩
    · exact does_of_answer declineIncident rfl hw (declineIncident_of_offered hv ho hoi hx hs)
    · exact answers ((declineIncident_eq hv).trans (offerAnswer_of_late h _ hl))
    · exact answers ((declineIncident_eq hv).trans (offerAnswer_of_other h _ hl))
  · have hx' : (b.emptySlot d).incident i = some x := hx
    have hne := Board.incident_ne_of_state hx' (y := declinedBy c d x) (by simp [hs, declinedBy_state])
    have hopen := declinedBy_state c d x
    have hlive : (declinedBy c d x).state ≠ .closed := by simp [hopen]
    dsimp only
    rw [Board.declineOffer_of_incident hx]
    exact ⟨(Board.commit_record .arbiter hne i).trans (if_pos rfl),
      Board.mem_commit_queue_of_opened .arbiter hne (by simp [hx, hs]) hopen declinedBy_group,
      fun j hj => (Board.commit_record .arbiter hne j).trans (if_neg hj.symm), Board.commit_arbiter_links _ hlive,
      Board.commit_arbiter_aging _ hlive, Board.commit_arbiter_desks _ hlive⟩

end Sys2Proof.Machine
end

section
/-! PROOFS. Incidents given up (R95, R96): RELEASE and HANDOVER. -/

namespace Sys2Proof.Machine

/-! ## The owner's lines -/

/-- R95, R96: what a desk that gives up an incident is answered; the first line that applies decides. -/
def holderAnswer (d : DeskId) (i : IncidentId) (s : State) (taken : Incident → State × Verdict) : State × Verdict :=
  match s.board.incident i with
  | none => (s, .refused .closed)
  | some x =>
    if x.state = .closed then (s, .refused .closed)
    else if x.assigned ≠ some d then (s, .refused .notHolder)
    else taken x

section

variable {d : DeskId} {i : IncidentId} {s : State}

theorem releaseIncident_eq {hi lo : Byte} (h : half hi lo = i.val) : releaseIncident [hi, lo] d s =
    holderAnswer d i s fun _ =>
      let u := s.onBoard fun _ b => b.releaseOne d i
      (u, .done (.incident i (u.board.change i))) := (withIndex_of_eq h ..).trans rfl

theorem handOverIncident_eq {hi lo desk : Byte} {e : DeskId} (h : half hi lo = i.val) (he : desk.toNat = e.val) :
    handOverIncident [hi, lo, desk] d s = holderAnswer d i s fun x =>
      if x.state = .restored then (s, .refused .restored)
      else
        let start := groupStart s.setup.active e
        let u := s.onBoard fun _ b => b.handOver d start i
        (u, .done (.handedOver i (u.board.change i) start)) := by
  refine (withIndex_of_eq h ..).trans ?_
  rw [he, finOf_val]
  rfl

theorem handOverIncident_of_le {hi lo desk : Byte} (h : 640 ≤ half hi lo ∨ 6 ≤ desk.toNat) :
    handOverIncident [hi, lo, desk] d s = (s, .invalid) := by
  rcases h with hle | hle
  · exact withIndex_of_le hle ..
  · exact withIndex_of_forall fun i => by rw [finOf_of_le hle]

variable (taken : Incident → State × Verdict)

theorem holderAnswer_of_free (h : s.board.incident i = none) :
    holderAnswer d i s taken = (s, .refused .closed) := by simp only [holderAnswer, h]

variable {x : Incident} (h : s.board.incident i = some x)
include h

theorem holderAnswer_of_incident : holderAnswer d i s taken =
    if x.state = .closed then (s, .refused .closed)
    else if x.assigned ≠ some d then (s, .refused .notHolder)
    else taken x := by simp only [holderAnswer, h]

theorem holderAnswer_of_closed (hc : x.state = .closed) : holderAnswer d i s taken = (s, .refused .closed) :=
  (holderAnswer_of_incident taken h).trans (if_pos hc)

theorem holderAnswer_of_other (hc : x.state ≠ .closed) (ha : x.assigned ≠ some d) :
    holderAnswer d i s taken = (s, .refused .notHolder) :=
  (holderAnswer_of_incident taken h).trans ((if_neg hc).trans (if_pos ha))

theorem holderAnswer_of_holder (hc : x.state ≠ .closed) (ha : x.assigned = some d) : holderAnswer d i s taken = taken x :=
  (holderAnswer_of_incident taken h).trans ((if_neg hc).trans (if_neg (not_not.2 ha)))

end

/-! ## The board -/

section

variable {d : DeskId} {i : IncidentId} {y : Incident} {b : Board} (hne : b.incident i ≠ some y)
include hne

theorem Board.giveUp_change : ((b.commit .arbiter i y).lowerCount d).change i = (b.change i + 1) % 65536 :=
  Board.commit_change .arbiter hne

/-- R95, R96: an incident given up changes its own record and the desk's count. -/
theorem Board.giveUp_frame (hy : y.state ≠ .closed) :
    let b' := (b.commit .arbiter i y).lowerCount d
    b'.record i = ⟨(b.change i + 1) % 65536, some y⟩ ∧ (∀ j, j ≠ i → b'.record j = b.record j) ∧
      b'.links = b.links ∧ b'.aging = b.aging ∧
      b'.desks = b.desks.set d { b.desks[d] with assigned := (b.desks[d]).assigned - 1 } := by
  refine ⟨(Board.commit_record .arbiter hne i).trans (if_pos rfl),
    fun j hj => (Board.commit_record .arbiter hne j).trans (if_neg hj.symm), b.commit_arbiter_links hy,
    b.commit_arbiter_aging hy, ?_⟩
  rw [Board.lowerCount, Board.updDesk_desks, b.commit_arbiter_desks hy]

end

/-- R96: an incident handed over: OPEN in the group, its decline set cleared and its rounds kept. -/
def handedTo (g : DeskId) (x : Incident) : Incident :=
  { x with state := .opened, assigned := none, group := g, declined := 0 }

theorem handedTo_ne {g : DeskId} {i : IncidentId} {x : Incident} {b : Board} (hx : b.incident i = some x)
    (hs : x.state = .assigned) : b.incident i ≠ some (handedTo g x) :=
  Board.incident_ne_of_state hx (by simp [hs, handedTo])

theorem live_of_held {x : Incident} (hs : x.state = .assigned ∨ x.state = .restored) : x.state ≠ .closed := by
  rcases hs with hs | hs <;> simp [hs]

theorem released_of_held {x : Incident} (hs : x.state = .assigned ∨ x.state = .restored) : released x =
    { x with state := if x.state = .assigned then .opened else .restored, assigned := none } := by
  rcases hs with hs | hs <;> simp [released, hs]

section

variable {d : DeskId} {i : IncidentId} {x : Incident} {b : Board} (hx : b.incident i = some x)
include hx

theorem Board.releaseOne_of_incident : b.releaseOne d i = (b.commit .arbiter i (released x)).lowerCount d := by
  simp only [Board.releaseOne, hx]

theorem Board.handOver_of_incident (g : DeskId) : b.handOver d g i =
    (b.commit .arbiter i (handedTo g x)).lowerCount d := by
  simp only [Board.handOver, hx]
  rfl

theorem Board.incident_ne_released (ha : x.assigned = some d) : b.incident i ≠ some (released x) := by
  rw [hx]
  exact fun heq => released_ne ha (Option.some.inj heq).symm

/-- R95: the record of a RESTORED incident loses its desk, and no queue changes. -/
theorem Board.releaseOne_queues (ha : x.assigned = some d) (hs : x.state = .restored) :
    (b.releaseOne d i).queues = b.queues := by
  have hr : released x = { x with assigned := none } := if_neg (by simp [hs])
  have hstand : (b.incident i).bind Incident.standing = (released x).standing := by
    rw [hx, hr, Option.bind_some, Incident.standing_of_ne (by simp [hs]), Incident.standing_of_ne (by simp [hs])]
  rw [Board.releaseOne_of_incident hx,
    Board.commit_arbiter_of_standing (Board.incident_ne_released hx ha) hstand (by simp [hr, hs])]
  rfl

end

theorem releaseIncident_of_holder {hi lo : Byte} {d : DeskId} {i : IncidentId} {x : Incident} {s : State}
    (hv : half hi lo = i.val) (h : s.board.incident i = some x) (hc : x.state ≠ .closed) (ha : x.assigned = some d) :
    releaseIncident [hi, lo] d s =
      (s.onBoard fun _ b => b.releaseOne d i, .done (.incident i ((s.board.change i + 1) % 65536))) := by
  rw [releaseIncident_eq hv, holderAnswer_of_holder _ h hc ha]
  dsimp only [State.onBoard]
  rw [Board.releaseOne_of_incident h, Board.giveUp_change (Board.incident_ne_released h ha)]

theorem handOverIncident_of_holder {hi lo desk : Byte} {d e : DeskId} {i : IncidentId} {x : Incident} {s : State}
    (hv : half hi lo = i.val) (he : desk.toNat = e.val) (h : s.board.incident i = some x) (hs : x.state = .assigned)
    (ha : x.assigned = some d) : handOverIncident [hi, lo, desk] d s =
      (s.onBoard fun _ b => b.handOver d (groupStart s.setup.active e) i,
        .done (.handedOver i ((s.board.change i + 1) % 65536) (groupStart s.setup.active e))) := by
  rw [handOverIncident_eq hv he, holderAnswer_of_holder _ h (by simp [hs]) ha, if_neg (by simp [hs])]
  dsimp only [State.onBoard]
  rw [Board.handOver_of_incident h, Board.giveUp_change (handedTo_ne h hs)]

/-- Settles O27: the owner's lines, and an incident given up as one event of the arbiter that lowers the desk's count. -/
theorem releaseAndHandoverGiveUp : Obligations.ReleaseAndHandoverGiveUp := by
  refine ⟨⟨fun d hi lo s hw => ?_, fun d i x b hx ha hs => ?_⟩, fun d hi lo desk s hw => ?_, fun d g i x b hx hs => ?_⟩
  · have answers : ∀ {v}, releaseIncident [hi, lo] d s = (s, v) → Answers (.release d) d 0x22#8 v s :=
      answers_of_waits releaseIncident rfl hw
    refine ⟨fun hle => answers (withIndex_of_le hle ..), fun i hv => ?_⟩
    have lines := releaseIncident_eq (d := d) (s := s) hv
    refine ⟨fun h => answers (lines.trans (holderAnswer_of_free _ h)), fun x h =>
      ⟨fun hc => answers (lines.trans (holderAnswer_of_closed _ h hc)),
        fun hc ha => answers (lines.trans (holderAnswer_of_other _ h hc ha)), fun hs ha => ?_⟩⟩
    exact does_of_answer releaseIncident rfl hw (releaseIncident_of_holder hv h (live_of_held hs) ha)
  · have hne := Board.incident_ne_released hx ha
    have hlive := released_state_ne_closed (live_of_held hs)
    obtain ⟨hrec, hothers, hlinks, haging, hdesks⟩ := Board.giveUp_frame (d := d) hne hlive
    rw [← Board.releaseOne_of_incident hx] at hrec hothers hlinks haging hdesks
    rw [released_of_held hs] at hrec
    refine ⟨hrec, hothers, fun hs' => ?_, Board.releaseOne_queues hx ha, hlinks, haging, hdesks⟩
    have hr : released x = { x with state := .opened, assigned := none } := if_pos hs'
    rw [Board.releaseOne_of_incident hx]
    exact Board.mem_commit_queue_of_opened .arbiter hne (by simp [hx, hs']) (by rw [hr]) (by rw [hr])
  · have answers : ∀ {v}, handOverIncident [hi, lo, desk] d s = (s, v) → Answers (.handover d) d 0x23#8 v s :=
      answers_of_waits handOverIncident rfl hw
    refine ⟨fun hle => answers (handOverIncident_of_le hle), fun i e hv he => ?_⟩
    have lines := handOverIncident_eq (d := d) (s := s) hv he
    refine ⟨fun h => answers (lines.trans (holderAnswer_of_free _ h)), fun x h =>
      ⟨fun hc => answers (lines.trans (holderAnswer_of_closed _ h hc)),
        fun hc ha => answers (lines.trans (holderAnswer_of_other _ h hc ha)), fun hs ha => ?_, fun hs ha => ?_⟩⟩
    · exact answers (lines.trans ((holderAnswer_of_holder _ h (by simp [hs]) ha).trans (if_pos hs)))
    · exact does_of_answer handOverIncident rfl hw (handOverIncident_of_holder hv he h hs ha)
  · have hne : b.incident i ≠ some (handedTo g x) := handedTo_ne hx hs
    obtain ⟨hrec, hothers, hlinks, haging, hdesks⟩ := Board.giveUp_frame (d := d) hne (by simp [handedTo])
    dsimp only
    rw [Board.handOver_of_incident hx]
    exact ⟨hrec, hothers, Board.mem_commit_queue_of_opened .arbiter hne (by simp [hx, hs]) rfl rfl, hlinks, haging,
      hdesks⟩

end Sys2Proof.Machine
end

section
/-! PROOFS. LIST_PENDING (R102), and the bytes of the two paged results (R192). -/

namespace Sys2Proof.Machine

/-! ## The page (R102) -/

theorem pendingEntry_eq_some {b : Board} {i : IncidentId} {y : PendingEntry} : pendingEntry b i = some y ↔
    ∃ x, b.incident i = some x ∧ y =
      { index := i, subject := x.subject, cls := x.cls, urgency := x.urgency, openedAt := x.openedAt
        rounds := x.rounds, declined := x.declined, change := b.change i } := by
  rw [pendingEntry, Option.map_eq_some_iff]
  exact exists_congr fun x => and_congr_right fun _ => eq_comm

/-- R102: where every place of the queue holds an incident, the entries stand for those places in their order. -/
theorem map_index_filterMap_pendingEntry {b : Board} {l : List IncidentId} (h : ∀ i ∈ l, b.incident i ≠ none) :
    (l.filterMap (pendingEntry b)).map (·.index) = l := by
  induction l with
  | nil => rfl
  | cons i rest ih =>
    obtain ⟨hi, hrest⟩ := List.forall_mem_cons.1 h
    obtain ⟨x, hx⟩ := Option.ne_none_iff_exists'.1 hi
    rw [List.filterMap_cons_some (pendingEntry_eq_some.2 ⟨x, hx, rfl⟩), List.map_cons, ih hrest]

theorem listQueue_of_le {desk o1 o0 : Byte} (h : 6 ≤ desk.toNat) (d : DeskId) (s : State) :
    listQueue [desk, o1, o0] d s = (s, .invalid) := by simp only [listQueue, finOf_of_le h]

theorem listQueue_of_eq {desk o1 o0 : Byte} {e : DeskId} (h : desk.toNat = e.val) (d : DeskId) (s : State) :
    listQueue [desk, o1, o0] d s =
      let g := groupStart s.setup.active e
      (s, .done (.pendingPage
        { group := g, desks := groupSet s.setup.active g, timeout := s.board.timeouts[g]
          pointer := s.board.pointers[g], total := (s.board.queues[g]).length, offset := half o1 o0
          entries := (((s.board.queues[g]).drop (half o1 o0)).take 15).filterMap (pendingEntry s.board) })) := by
  simp only [listQueue, h, finOf_val]

/-! ## The bytes (R188, R189, R192) -/

@[simp] theorem length_one (n : Nat) : (one n).length = 1 := rfl
@[simp] theorem length_two (n : Nat) : (two n).length = 2 := rfl
@[simp] theorem length_four (n : Nat) : (four n).length = 4 := rfl
@[simp] theorem length_timeOrNone (t : Option Nat) : (timeOrNone t).length = 4 := rfl
@[simp] theorem length_smallOrNone (x : Option Nat) : (smallOrNone x).length = 1 := rfl
@[simp] theorem length_flags (l : List Bool) : (flags l).length = 1 := rfl
@[simp] theorem length_setByte (x : DeskSet) : (setByte x).length = 1 := rfl
@[simp] theorem length_conditionOrNone (c : Option Condition) : (conditionOrNone c).length = 1 := rfl
@[simp] theorem Subject.length_bytes (x : Subject) : x.bytes.length = 3 := by cases x <;> rfl
@[simp] theorem PendingEntry.length_bytes (x : PendingEntry) : x.bytes.length = 16 := by simp [PendingEntry.bytes]
@[simp] theorem Member.length_bytes (m : Member) : m.bytes.length = 9 := by simp [Member.bytes]
@[simp] theorem Incident.length_bytes (x : Incident) : x.bytes.length = 31 := by simp [Incident.bytes]
@[simp] theorem length_freeIncidentBytes : freeIncidentBytes.length = 31 := by simp [freeIncidentBytes]

theorem length_tagBytes {tag : Option (List Byte)} (h : ∀ text, tag = some text → text.length ≤ 16) :
    (tagBytes tag).length = 17 := by
  have hlen : (tag.getD []).length ≤ 16 := by
    cases tag with
    | none => simp
    | some text => exact h text rfl
  simp only [tagBytes, List.length_append, length_one, List.length_replicate]
  omega

/-- Rows of equal length. -/
theorem length_flatMap_of_forall {α : Type} {f : α → List Byte} {k : Nat} (h : ∀ a, (f a).length = k) (l : List α) :
    (l.flatMap f).length = k * l.length := by
  simp [List.length_flatMap, h, Nat.mul_comm]

theorem PendingPage.length_bytes (p : PendingPage) : p.bytes.length = 8 + 16 * p.entries.length := by
  simp only [PendingPage.bytes, List.length_append, length_one, length_two, length_setByte,
    length_flatMap_of_forall PendingEntry.length_bytes]

theorem IncidentPage.length_bytes {p : IncidentPage}
    (h : ∀ x text, p.body = some x → x.tag = some text → text.length ≤ 16) :
    p.bytes.length = 55 + 9 * p.members.length := by
  have hbody : ((p.body.map Incident.bytes).getD freeIncidentBytes).length = 31 := by
    cases p.body <;> simp
  have htag : (tagBytes (p.body.bind (·.tag))).length = 17 := length_tagBytes fun text ht => by
    obtain ⟨x, hx, hxt⟩ := Option.bind_eq_some_iff.1 ht
    exact h x text hx hxt
  simp only [IncidentPage.bytes, List.length_append, hbody, htag, length_two, length_one,
    length_flatMap_of_forall Member.length_bytes]

/-- R66: the fields of a FREE record as they are sent (log entries 6 and 42). -/
theorem IncidentPage.bytes_of_free {p : IncidentPage} (h : p.body = none) : p.bytes =
    two p.index.val ++ freeIncidentBytes ++ two p.change ++ tagBytes none ++ two p.total ++ one p.members.length ++
      p.members.flatMap Member.bytes := by
  simp only [IncidentPage.bytes, h, Option.map_none, Option.getD_none, Option.bind_none]

/-- Settles O22: the owner answers with a page of the queue, and each layout is read off its definition. -/
theorem listPendingShowsPage : Obligations.ListPendingShowsPage := by
  refine ⟨fun d desk o1 o0 s hw => ⟨fun hle => answers_of_waits listQueue rfl hw (listQueue_of_le hle d s),
      fun e he => ⟨_, answers_of_waits listQueue rfl hw (listQueue_of_eq he d s), fun h => ?_, fun y hy => ?_⟩⟩,
    getLsbD_groupSet, fun p => ?_, PendingPage.length_bytes, fun p x worst text hb hworst htext => ?_,
    fun p h => ⟨IncidentPage.length_bytes h, fun hb =>
      ⟨[Config.emptySubjectByte 0, Config.emptySubjectByte 1, Config.emptySubjectByte 2],
        List.replicate 16 Config.tagPadding, Config.emptyClassCode, Config.noConditionCode, rfl, rfl,
        (IncidentPage.bytes_of_free hb).trans rfl⟩⟩⟩
  · exact map_index_filterMap_pendingEntry fun i hi => h i (List.mem_of_mem_drop (List.mem_of_mem_take hi))
  · obtain ⟨i, -, hi⟩ := List.mem_filterMap.1 hy
    obtain ⟨x, hx, rfl⟩ := pendingEntry_eq_some.1 hi
    exact ⟨x, hx, rfl⟩
  · refine congrArg₂ (· ++ ·) rfl (congrArg (fun f => p.entries.flatMap f) (funext fun y => ?_))
    obtain ⟨index, subject, cls, urgency, openedAt, rounds, declined, change⟩ := y
    cases subject <;> rfl
  · refine congrArg₂ (· ++ ·) ?_ rfl
    simp only [hb, Option.map_some, Option.getD_some, Option.bind_some, Incident.bytes, tagBytes, htext, hworst,
      conditionOrNone, one, List.append_assoc]
    cases x.subject <;> rfl

end Sys2Proof.Machine
end

section
/-! PROOFS. READ_STATION (R123) and READ_SHADOW (R13): the stations and items that the arguments name, what the owners answer,
and how the answers are laid out (R188, R189, R192). -/

namespace Sys2Proof.Machine

/-! ## Stations, positions and circuits by their numbers (R188, R191) -/

theorem positionOf_of_eq {k : Nat} {p : Position} (h : k = p.val + 1) : positionOf k = some p := by
  rw [positionOf, if_neg (by omega), h, Nat.add_sub_cancel, finOf_val]

theorem positionOf_of_out {k : Nat} (h : k = 0 ∨ 24 < k) : positionOf k = none := by
  unfold positionOf
  split_ifs with h0
  · rfl
  · exact finOf_of_le (by omega)

theorem circuitOf_of_eq {k : Nat} {c : CircuitId} (h : k = c.val + 1) : circuitOf k = some c := by
  rw [circuitOf, if_neg (by omega), h, Nat.add_sub_cancel, finOf_val]

theorem circuitOf_of_out {k : Nat} (h : k = 0 ∨ 128 < k) : circuitOf k = none := by
  unfold circuitOf
  split_ifs with h0
  · rfl
  · exact finOf_of_le (by omega)

@[simp] theorem stationTrunk_stationAt (t : TrunkId) (p : Position) : stationTrunk (stationAt t p) = t :=
  Fin.ext (show (t.val * 24 + p.val) / 24 = t.val by omega)

@[simp] theorem stationPosition_stationAt (t : TrunkId) (p : Position) : stationPosition (stationAt t p) = p :=
  Fin.ext (show (t.val * 24 + p.val) % 24 = p.val by omega)

theorem stationOf_of_eq {trunk position : Byte} {t : TrunkId} {p : Position} (ht : trunk.toNat = t.val)
    (hp : position.toNat = p.val + 1) : stationOf trunk position = some (stationAt t p) := by
  simp only [stationOf, ht, finOf_val, positionOf_of_eq hp]

theorem stationOf_of_out {trunk position : Byte} (h : 16 ≤ trunk.toNat ∨ position.toNat = 0 ∨ 24 < position.toNat) :
    stationOf trunk position = none := by
  unfold stationOf
  rcases h with ht | hp
  · rw [finOf_of_le ht]
  · rw [positionOf_of_out hp]
    cases finOf 16 trunk.toNat <;> rfl

/-! ## READ_STATION (R123) -/

/-- R148: a reported identity agrees where it names the roster's kind and its range of assets. -/
theorem identityAgrees_iff {r : Roster} {i : Identity} : identityAgrees r i = true ↔
    kindOf i.kind = r.kind ∧ (kindOf i.kind).isSome ∧ i.first = r.first ∧ i.count = r.count := by
  simp only [identityAgrees, Bool.and_eq_true, decide_eq_true_eq, and_assoc]
  exact and_congr_right fun hk => by rw [hk]

theorem reportedAgrees_iff {r : Roster} {x : Option Identity} : (x.map (identityAgrees r)).getD false = true ↔
    ∃ i, x = some i ∧ kindOf i.kind = r.kind ∧ (kindOf i.kind).isSome ∧ i.first = r.first ∧ i.count = r.count := by
  cases x with
  | none => simp
  | some i => simp [identityAgrees_iff]

theorem readStationRecord_of_out {trunk position : Byte} (h : stationOf trunk position = none) (d : DeskId) (s : State) :
    readStationRecord [trunk, position] d s = (s, .invalid) := by simp only [readStationRecord, h]

theorem readStationRecord_of_eq {trunk position : Byte} {n : StationId} (h : stationOf trunk position = some n)
    (d : DeskId) (s : State) : readStationRecord [trunk, position] d s = (s, .done (.stationView
      { roster := s.roster n, live := s.station n, trunk := (s.trunk (stationTrunk n)).state
        agrees := ((s.station n).identity.map (identityAgrees (s.roster n))).getD false })) := by
  simp only [readStationRecord, h]

/-! ## READ_SHADOW (R13) -/

theorem readShadow_of_some {item x y : Byte} {s : State} {i : ShadowItem}
    (h : shadowItem s.setup.shadow item x y = some i) (d : DeskId) :
    readShadow [item, x, y] d s = (s, .done (.shadow i s.setup.claim)) := by simp only [readShadow, h]

theorem readShadow_of_none {item x y : Byte} {s : State} (h : shadowItem s.setup.shadow item x y = none) (d : DeskId) :
    readShadow [item, x, y] d s = (s, .invalid) := by simp only [readShadow, h]

section

variable (a : Settings) (x : Byte)

theorem shadowItem_station (y : Byte) :
    shadowItem a 2#8 x y = (stationOf x y).map fun n => .station (a.station n) := rfl

theorem shadowItem_circuit : shadowItem a 1#8 x 0#8 = (circuitOf x.toNat).map fun c => .circuit (a.circuit c) := rfl

theorem shadowItem_desk : shadowItem a 3#8 x 0#8 = (finOf 6 x.toNat).map fun (d : DeskId) => .desk a.desks[d] := rfl

theorem shadowItem_param : shadowItem a 4#8 x 0#8 = (a.params.read x.toNat).map .param := rfl

theorem shadowItem_scales : shadowItem a 5#8 x 0#8 = (periodOf x).map fun p => .scales (a.scales.of p) := rfl

/-- Log entry 23: a second selector is 0 for every item but a station. -/
theorem shadowItem_of_second {item y : Byte} (hi : item ≠ 2#8) (hy : y ≠ 0#8) : shadowItem a item x y = none :=
  (if_neg hi).trans (if_pos hy)

end

theorem shadowItem_of_unnamed {a : Settings} {item x y : Byte} (h : item = 0#8 ∨ 5 < item.toNat) :
    shadowItem a item x y = none := by
  have hn : item.toNat = 0 ∨ 5 < item.toNat := h.imp_left fun h0 => by rw [h0]; rfl
  have h2 : item ≠ 2#8 := by
    rintro rfl
    simp at hn
  by_cases hy : y = 0#8
  · refine (if_neg h2).trans ((if_neg (not_not.2 hy)).trans ?_)
    split
    · omega
    · omega
    · omega
    · omega
    · rfl
  · exact shadowItem_of_second a x h2 hy

theorem Params.read_of_out {p : Params} {k : Nat} (h : k = 0 ∨ 13 < k) : p.read k = none := by
  unfold Params.read
  split
  case h_14 => rfl
  all_goals omega

/-- R13: the selectors that name no item. -/
theorem shadowItem_of_out {a : Settings} {item x y : Byte}
    (h : item = 0#8 ∨ 5 < item.toNat ∨ (item = 1#8 ∧ (x = 0#8 ∨ 128 < x.toNat)) ∨
      (item = 2#8 ∧ (16 ≤ x.toNat ∨ y = 0#8 ∨ 24 < y.toNat)) ∨ (item = 3#8 ∧ 6 ≤ x.toNat) ∨
      (item = 4#8 ∧ (x = 0#8 ∨ 13 < x.toNat)) ∨ (item = 5#8 ∧ 4 ≤ x.toNat)) : shadowItem a item x y = none := by
  have zero : ∀ {b : Byte}, b = 0#8 → b.toNat = 0 := fun h => by rw [h]; rfl
  have first : ∀ {k : Byte}, k ≠ 2#8 → shadowItem a k x 0#8 = none → shadowItem a k x y = none := fun hk h0 => by
    by_cases hy : y = 0#8
    · exact hy ▸ h0
    · exact shadowItem_of_second a x hk hy
  rcases h with h | h | ⟨rfl, h⟩ | ⟨rfl, h⟩ | ⟨rfl, h⟩ | ⟨rfl, h⟩ | ⟨rfl, h⟩
  · exact shadowItem_of_unnamed (.inl h)
  · exact shadowItem_of_unnamed (.inr h)
  · exact first (by decide) (by rw [shadowItem_circuit, circuitOf_of_out (h.imp_left zero)]; rfl)
  · rw [shadowItem_station, stationOf_of_out (h.imp_right (Or.imp_left zero))]
    rfl
  · exact first (by decide) (by rw [shadowItem_desk, finOf_of_le h]; rfl)
  · exact first (by decide) (by rw [shadowItem_param, Params.read_of_out (h.imp_left zero)]; rfl)
  · exact first (by decide) (by rw [shadowItem_scales, periodOf_of_lt h]; rfl)

/-! ## The bytes (R188, R189, R192) -/

theorem Roster.bytes_of_kind {r : Roster} {k : Kind} (h : r.kind = some k) : r.bytes =
    BitVec.ofNat 8 k.code :: two r.first ++ two r.count ++ two r.interval ++
      [BitVec.ofNat 8 r.allowance, BitVec.ofNat 8 r.sleepLimit, BitVec.ofNat 8 r.weight] := by
  rw [Roster.bytes, h]
  rfl

theorem Station.bytes_of_stated {x : Station} {span : Nat} {i : Identity} (hs : x.span = some span)
    (hi : x.identity = some i) (hb : 0 ≤ x.balance) : x.bytes =
    [BitVec.ofNat 8 x.mode.code] ++ flags [x.hold.desk, x.hold.cabinet] ++ [BitVec.ofNat 8 x.balance.toNat] ++
      timeOrNone x.nextExpiry ++ yesNo x.wakeExtra ++ [BitVec.ofNat 8 x.sleepCount, BitVec.ofNat 8 span] ++
      (i.kind :: two i.first ++ two i.count) ++ timeOrNone x.lastHeard ++ two x.applied ++ two x.droppedHeld ++
      two x.transients ++ smallOrNone (x.op.map fun o => o.val) := by
  rw [Station.bytes, hs, hi, balanceByte, if_neg (not_lt.2 hb)]
  rfl

/-- Settles O20: the owners answer with the record that the arguments name, and each layout is read off its definition. -/
theorem readsOfStationsAndShadow : Obligations.ReadsOfStationsAndShadow := by
  refine ⟨fun d s => ⟨fun trunk position hw => ⟨fun hout => ?_, fun t p ht hp => ⟨_, ?_, reportedAgrees_iff⟩⟩,
    fun item x y hw => ?_⟩, fun r k => Roster.bytes_of_kind, fun v span i hs hi hb => ?_, fun item holder => ?_⟩
  · exact answers_of_waits readStationRecord rfl hw (readStationRecord_of_out (stationOf_of_out hout) d s)
  · have answer := readStationRecord_of_eq (stationOf_of_eq ht hp) d s
    rw [stationTrunk_stationAt] at answer
    exact answers_of_waits readStationRecord rfl hw answer
  · have shown : ∀ {i}, shadowItem s.setup.shadow item x y = some i →
        Answers (.readShadow d) d 0x56#8 ⟨.done, none, .shadow i s.setup.claim⟩ s :=
      fun h => answers_of_waits readShadow rfl hw (readShadow_of_some h d)
    refine ⟨?_, ?_, ?_, ?_, ?_, fun hout => ?_⟩
    · rintro c rfl hx rfl
      exact shown (by rw [shadowItem_circuit, circuitOf_of_eq hx]; rfl)
    · rintro t p rfl hx hy
      exact shown (by rw [shadowItem_station, stationOf_of_eq hx hy]; rfl)
    · rintro e rfl hx rfl
      exact shown (by rw [shadowItem_desk, hx, finOf_val]; rfl)
    · rintro v rfl hv rfl
      exact shown (by rw [shadowItem_param, hv]; rfl)
    · rintro p rfl hx rfl
      exact shown (by rw [shadowItem_scales, periodOf_of_code hx]; rfl)
    · exact answers_of_waits readShadow rfl hw (readShadow_of_none (shadowItem_of_out hout) d)
  · show v.roster.bytes ++ v.live.bytes ++ one v.trunk.code ++ yesNo v.agrees = _
    rw [Station.bytes_of_stated hs hi hb]
    simp only [one, List.append_assoc]
  · cases item <;> rfl

end Sys2Proof.Machine
end

section
/-! SUPPORT. The fault table read after a write (R21), and what an operation on every record of a station makes of the state:
what it leaves as it was, the records it rewrites, and the record it leaves under an asset (R34, R37). -/

namespace Sys2Proof.Machine

/-! ## Records read after a write (R21) -/

theorem find?_insertRecord (r : FaultRecord) {l : List FaultRecord} (hl : ∀ x ∈ l, x.asset ≠ r.asset) (k : Nat) :
    (insertRecord r l).find? (fun x => decide (x.asset = k)) =
      if k = r.asset then some r else l.find? fun x => decide (x.asset = k) := by
  induction l with
  | nil =>
    simp only [insertRecord, List.find?_cons, List.find?_nil, eq_comm (a := r.asset)]
    split_ifs with hk <;> simp [hk]
  | cons y rest ih =>
    have hy := hl y (.head _)
    simp only [insertRecord]
    split_ifs with hlt hk hk
    · subst hk
      simp
    · rw [List.find?_cons, decide_eq_false (Ne.symm hk)]
    · subst hk
      rw [List.find?_cons, decide_eq_false hy, ih fun x hx => hl x (.tail _ hx), if_pos rfl]
    · rw [List.find?_cons, List.find?_cons, ih fun x hx => hl x (.tail _ hx), if_neg hk]

theorem Faults.find_remove (asset : Nat) (f : Faults) (k : Nat) :
    (f.remove asset).find k = if k = asset then none else f.find k := by
  unfold Faults.find Faults.remove
  rw [List.find?_filter]
  split_ifs with hk
  · subst hk
    simp
  · refine congrArg (List.find? · f.records) (funext fun r => ?_)
    by_cases h : r.asset = k <;> simp [h, hk]

theorem Faults.find_write (r : FaultRecord) (f : Faults) (k : Nat) :
    (f.write r).find k = if k = r.asset then some r else f.find k := by
  have hrest : ∀ x ∈ (f.remove r.asset).records, x.asset ≠ r.asset := fun x hx => by
    simpa using (List.mem_filter.1 hx).2
  refine (find?_insertRecord r hrest k).trans ?_
  split_ifs with hk
  · rfl
  · exact (f.find_remove r.asset k).trans (if_neg hk)

theorem Faults.mem_write {r x : FaultRecord} {f : Faults} (h : x ∈ (f.write r).records) : x = r ∨ x ∈ f.records :=
  (mem_insertRecord.1 h).imp_right List.mem_of_mem_filter

/-- R21: in a sound table each record is the one found under its asset. -/
theorem Faults.Sound.find_of_mem {f : Faults} (h : f.Sound) {r : FaultRecord} (hr : r ∈ f.records) :
    f.find r.asset = some r := by
  obtain ⟨front, rest, hl⟩ := List.append_of_mem hr
  have hrising := h.rising
  rw [hl, List.pairwise_append] at hrising
  obtain ⟨-, -, hlt⟩ := hrising
  refine List.find?_eq_some_iff_append.2 ⟨by simp, front, rest, hl, fun x hx => ?_⟩
  simpa using (hlt x hx r (.head _)).ne

theorem insertRecord_between {r : FaultRecord} {front rest : List FaultRecord} (hf : ∀ x ∈ front, x.asset < r.asset)
    (hr : ∀ x ∈ rest, r.asset < x.asset) : insertRecord r (front ++ rest) = front ++ r :: rest := by
  induction front with
  | nil =>
    cases rest with
    | nil => rfl
    | cons y rest => exact if_pos (hr y (.head _))
  | cons y front ih =>
    exact (if_neg (hf y (.head _)).asymm).trans (congrArg (y :: ·) (ih fun x hx => hf x (.tail _ hx)))

/-- R21: in a sound table a record written takes the place of the asset's record. -/
theorem Faults.Sound.write_records {f : Faults} (h : f.Sound) {front rest : List FaultRecord} {r x : FaultRecord}
    (hl : f.records = front ++ r :: rest) (hx : x.asset = r.asset) : (f.write x).records = front ++ x :: rest := by
  have hrising := h.rising
  rw [hl, List.pairwise_append, List.pairwise_cons] at hrising
  obtain ⟨-, ⟨hrest, -⟩, hfront⟩ := hrising
  have hlow : ∀ y ∈ front, y.asset < x.asset := fun y hy => hx ▸ hfront y hy r (.head _)
  have hhigh : ∀ y ∈ rest, x.asset < y.asset := fun y hy => hx ▸ hrest y hy
  have hothers : (f.remove x.asset).records = front ++ rest := by
    show f.records.filter (fun y => decide (y.asset ≠ x.asset)) = front ++ rest
    rw [hl, List.filter_append, List.filter_cons_of_neg (by simp [hx]),
      List.filter_eq_self.2 fun y hy => decide_eq_true (hlow y hy).ne,
      List.filter_eq_self.2 fun y hy => decide_eq_true (hhigh y hy).ne']
  show insertRecord x (f.remove x.asset).records = _
  rw [hothers, insertRecord_between hlow hhigh]

theorem Faults.Sound.write_eq {f : Faults} (h : f.Sound) {front rest : List FaultRecord} {r x : FaultRecord}
    (hl : f.records = front ++ r :: rest) (hx : x.asset = r.asset) :
    f.write x = { f with records := front ++ x :: rest } := by
  rw [← h.write_records hl hx]
  rfl

theorem Faults.Sound.write_self {f : Faults} (h : f.Sound) {r : FaultRecord} (hr : r ∈ f.records) : f.write r = f := by
  obtain ⟨front, rest, hl⟩ := List.append_of_mem hr
  rw [h.write_eq hl rfl, ← hl]

/-! ## An operation on every record of a station (R34, R37) -/

/-- An operation on the record of one asset, if it has one. -/
def State.atAsset (g : FaultRecord → State → State) (s : State) (asset : Nat) : State :=
  match s.faults.find asset with
  | some r => g r s
  | none => s

theorem State.eachRecord_eq (n : StationId) (g : FaultRecord → State → State) (s : State) :
    s.eachRecord n g = (s.faults.assetsOf n).foldl (State.atAsset g) s := rfl

section

variable {g : FaultRecord → State → State}

theorem State.atAsset_of_find {s : State} {asset : Nat} {r : FaultRecord} (h : s.faults.find asset = some r) :
    s.atAsset g asset = g r s := by simp only [State.atAsset, h]

theorem State.foldl_atAsset_induction {P : State → Prop}
    (hg : ∀ r t, t.faults.find r.asset = some r → P t → P (g r t)) (l : List Nat) {s : State} (h : P s) :
    P (l.foldl (State.atAsset g) s) := by
  induction l generalizing s with
  | nil => exact h
  | cons a rest ih =>
    refine ih ?_
    unfold State.atAsset
    split
    · next r hr => exact hg r s (by rwa [s.faults.find_asset hr]) h
    · exact h

/-- What the operation on one record keeps, the operation on every record of a station keeps. -/
theorem State.eachRecord_induction {P : State → Prop} (hg : ∀ r t, t.faults.find r.asset = some r → P t → P (g r t))
    (n : StationId) {s : State} (h : P s) : P (s.eachRecord n g) := State.foldl_atAsset_induction hg _ h

theorem State.eachRecord_keeps {α : Type} {p : State → α} (hg : ∀ r t, p (g r t) = p t) (n : StationId) (s : State) :
    p (s.eachRecord n g) = p s :=
  State.eachRecord_induction (P := fun t => p t = p s) (fun r t _ h => (hg r t).trans h) n rfl

theorem Faults.assetsOf_append (n : StationId) {f : Faults} {front rest : List FaultRecord}
    (h : f.records = front ++ rest) : f.assetsOf n =
      (front.filter fun r => decide (r.station = n)).map (·.asset) ++
        (rest.filter fun r => decide (r.station = n)).map (·.asset) := by
  rw [Faults.assetsOf, h, List.filter_append, List.map_append]

/-- The records still to come, each rewritten in its place. -/
theorem State.foldl_atAsset_records {h : FaultRecord → FaultRecord} (hasset : ∀ r, (h r).asset = r.asset)
    (hsetup : ∀ r t, (g r t).setup = t.setup) {c : Setup}
    (hg : ∀ r t, t.setup = c → t.faults.Sound → r ∈ t.faults.records → (g r t).faults = t.faults.write (h r))
    (n : StationId) {rest : List FaultRecord} : ∀ {s : State} {front : List FaultRecord}, s.setup = c → s.faults.Sound →
      s.faults.records = front ++ rest →
      (((rest.filter fun r => decide (r.station = n)).map (·.asset)).foldl (State.atAsset g) s).faults.records =
        front ++ rest.map fun r => if r.station = n then h r else r := by
  induction rest with
  | nil => exact fun _ _ hl => hl
  | cons r rest ih =>
    intro s front hs hsound hl
    have hr : r ∈ s.faults.records := by simp [hl]
    by_cases hn : r.station = n
    · have hfind := hsound.find_of_mem hr
      have hfaults := hg r s hs hsound hr
      have hnext : (g r s).faults.Sound := hfaults ▸ hsound.write (.inl (by rw [hasset, hfind]; rfl))
      have hrecords := (congrArg Faults.records hfaults).trans (hsound.write_records hl (hasset r))
      rw [List.filter_cons_of_pos (by simpa using hn), List.map_cons, List.map_cons, if_pos hn, List.foldl_cons,
        State.atAsset_of_find hfind, ih ((hsetup r s).trans hs) hnext (hrecords.trans (List.append_cons ..)),
        ← List.append_cons]
    · rw [List.filter_cons_of_neg (by simpa using hn), List.map_cons, if_neg hn,
        ih hs hsound (hl.trans (List.append_cons ..)), ← List.append_cons]

/-- An operation that rewrites a record rewrites every record of the station in its place. -/
theorem State.eachRecord_records {h : FaultRecord → FaultRecord} (hasset : ∀ r, (h r).asset = r.asset)
    (hsetup : ∀ r t, (g r t).setup = t.setup) {s : State}
    (hg : ∀ r t, t.setup = s.setup → t.faults.Sound → r ∈ t.faults.records → (g r t).faults = t.faults.write (h r))
    (n : StationId) (hs : s.faults.Sound) : (s.eachRecord n g).faults.records =
      s.faults.records.map fun r => if r.station = n then h r else r :=
  State.foldl_atAsset_records hasset hsetup hg n (front := []) rfl hs rfl

/-- Operations on other assets leave the record of an asset as it is. -/
theorem State.foldl_atAsset_find_of_not_mem
    (hother : ∀ r t k, k ≠ r.asset → (g r t).faults.find k = t.faults.find k) {k : Nat} {l : List Nat} (hk : k ∉ l)
    (s : State) : (l.foldl (State.atAsset g) s).faults.find k = s.faults.find k := by
  induction l generalizing s with
  | nil => rfl
  | cons a rest ih =>
    obtain ⟨hka, hrest⟩ := not_or.1 (mt List.mem_cons.2 hk)
    refine (ih hrest _).trans ?_
    unfold State.atAsset
    split
    · next r hr => exact hother r s k (by rwa [s.faults.find_asset hr])
    · rfl

theorem Faults.Sound.nodup_assetsOf {f : Faults} (h : f.Sound) (n : StationId) : (f.assetsOf n).Nodup :=
  List.pairwise_map.2 ((h.rising.filter _).imp fun hlt => hlt.ne)

/-- Where the operation on a record touches no other asset, the record of the station under an asset is acted on once, in a
state of the same settings that still holds it. -/
theorem State.eachRecord_find (hother : ∀ r t k, k ≠ r.asset → (g r t).faults.find k = t.faults.find k)
    (hsetup : ∀ r t, (g r t).setup = t.setup) (n : StationId) {s : State} (hs : s.faults.Sound) {r : FaultRecord}
    (hr : r ∈ s.faults.records) :
    (r.station ≠ n → (s.eachRecord n g).faults.find r.asset = some r) ∧
    (r.station = n → ∃ t : State, t.setup = s.setup ∧
      (s.eachRecord n g).faults.find r.asset = (g r t).faults.find r.asset) := by
  have hfind := hs.find_of_mem hr
  rw [State.eachRecord_eq]
  constructor
  · intro hn
    rw [State.foldl_atAsset_find_of_not_mem hother, hfind]
    intro hmem
    obtain ⟨q, hq, hqa⟩ := List.mem_map.1 hmem
    obtain ⟨hq, hqn⟩ := List.mem_filter.1 hq
    have hqr : some q = some r := (hs.find_of_mem hq).symm.trans (hqa ▸ hfind)
    exact hn (Option.some.inj hqr ▸ of_decide_eq_true hqn)
  · intro hn
    have hmem : r.asset ∈ s.faults.assetsOf n := List.mem_map_of_mem (List.mem_filter.2 ⟨hr, decide_eq_true hn⟩)
    obtain ⟨front, rest, hl⟩ := List.append_of_mem hmem
    have hnodup := hs.nodup_assetsOf n
    rw [hl, List.nodup_middle, List.nodup_cons, List.mem_append, not_or] at hnodup
    obtain ⟨⟨hfront, hrest⟩, -⟩ := hnodup
    have hkept := State.foldl_atAsset_find_of_not_mem hother hfront s
    refine ⟨front.foldl (State.atAsset g) s,
      State.foldl_atAsset_induction (P := fun t => t.setup = s.setup) (fun r t _ h => (hsetup r t).trans h) front rfl, ?_⟩
    · rw [hl, List.foldl_append, List.foldl_cons, State.foldl_atAsset_find_of_not_mem hother hrest,
        State.atAsset_of_find (hkept.trans hfind)]

end

end Sys2Proof.Machine
end

section
/-! SUPPORT. What the operations on the records of a station, the end of an operation and a census trigger leave as it was: the
settings, the field side, the marks, the stale flags of a station's records, and of each incident all but the marks of its
members (R31, R34, R35, R37, R49, R152, R168). -/

namespace Sys2Proof.Machine

/-! ## Members marked (R31, R49) -/

/-- From `b` to `c` each incident keeps all but the marks of its members. -/
def Board.Remarked (b c : Board) : Prop :=
  ∀ i, ∃ g : Member → Member, c.incident i = (b.incident i).map fun x => { x with members := x.members.map g }

theorem Board.Remarked.of_incident {b c : Board} (h : ∀ i, c.incident i = b.incident i) : b.Remarked c := fun i =>
  ⟨id, by simp [h]⟩

theorem Board.Remarked.refl (b : Board) : b.Remarked b := .of_incident fun _ => rfl

theorem Board.Remarked.trans {a b c : Board} (h : a.Remarked b) (k : b.Remarked c) : a.Remarked c := fun i => by
  obtain ⟨f, hf⟩ := h i
  obtain ⟨g, hg⟩ := k i
  exact ⟨g ∘ f, by simp [hg, hf, Function.comp_def]⟩

theorem Board.Remarked.changeMarks (asset : Nat) (stale underOp : Bool) (i : IncidentId) (b : Board) :
    b.Remarked (b.changeMarks asset stale underOp i) := fun j => by
  unfold Board.changeMarks
  cases hi : b.incident i with
  | none => exact Board.Remarked.refl b j
  | some x =>
    dsimp only
    rw [Board.commit_incident]
    split_ifs with hij
    · exact ⟨_, by rw [← hij, hi]; rfl⟩
    · exact Board.Remarked.refl b j

section

variable {b c : Board} (h : b.Remarked c) {i : IncidentId}
include h

theorem Board.Remarked.incident_none : c.incident i = none ↔ b.incident i = none := by
  obtain ⟨g, hg⟩ := h i
  rw [hg, Option.map_eq_none_iff]

theorem Board.Remarked.incident_some {x : Incident} (hx : b.incident i = some x) :
    ∃ g : Member → Member, c.incident i = some { x with members := x.members.map g } := by
  obtain ⟨g, hg⟩ := h i
  exact ⟨g, by rw [hg, hx]; rfl⟩

theorem Board.Remarked.of_some {y : Incident} (hy : c.incident i = some y) :
    ∃ x, ∃ g : Member → Member, b.incident i = some x ∧ y = { x with members := x.members.map g } := by
  obtain ⟨g, hg⟩ := h i
  rw [hg, Option.map_eq_some_iff] at hy
  obtain ⟨x, hx, rfl⟩ := hy
  exact ⟨x, g, hx, rfl⟩

/-- R45: marks do not decide which record a new incident takes. -/
theorem Board.Remarked.freshRecord (hb : b.incidents.rising = true) (hc : c.incidents.rising = true)
    (hi : b.freshRecord = some i) : c.freshRecord = some i := by
  rw [Board.freshRecord_eq_some hb] at hi
  rw [Board.freshRecord_eq_some hc]
  refine hi.imp (fun ⟨hfree, hlow⟩ => ?_) fun ⟨hfull, x, hx, hclosed, hold⟩ => ?_
  · exact ⟨h.incident_none.2 hfree, fun j hj => mt h.incident_none.1 (hlow j hj)⟩
  · obtain ⟨g, hg⟩ := h.incident_some hx
    refine ⟨fun j => mt h.incident_none.1 (hfull j), _, hg, hclosed, fun j y hy hys hne => ?_⟩
    obtain ⟨z, f, hz, rfl⟩ := h.of_some hy
    exact hold j z hz hys hne

end

/-! ## Records and their members -/

/-- From `s` to `t` only fault records and the board change. -/
structure RecordsAndBoard (s t : State) : Prop where
  setup   : t.setup = s.setup
  field   : t.field = s.field
  error   : t.error = s.error
  marks   : t.faults.marks = s.faults.marks
  dropped : t.faults.dropped = s.faults.dropped

namespace RecordsAndBoard

protected theorem refl (s : State) : RecordsAndBoard s s := ⟨rfl, rfl, rfl, rfl, rfl⟩

protected theorem trans {s t u : State} (h : RecordsAndBoard s t) (k : RecordsAndBoard t u) : RecordsAndBoard s u :=
  ⟨k.setup.trans h.setup, k.field.trans h.field, k.error.trans h.error, k.marks.trans h.marks,
    k.dropped.trans h.dropped⟩

theorem writeRecord (r : FaultRecord) (s : State) : RecordsAndBoard s (s.writeRecord r) := ⟨rfl, rfl, rfl, rfl, rfl⟩

theorem joinRecord (r : FaultRecord) (s : State) : RecordsAndBoard s (s.joinRecord r) := ⟨rfl, rfl, rfl, rfl, rfl⟩

theorem marksHandoff (r : FaultRecord) (s : State) : RecordsAndBoard s (s.marksHandoff r) := by
  unfold State.marksHandoff
  split <;> exact ⟨rfl, rfl, rfl, rfl, rfl⟩

theorem removeAndLeave (r : FaultRecord) (s : State) : RecordsAndBoard s (s.removeAndLeave r) := by
  unfold State.removeAndLeave State.leaveRecord
  split <;> exact ⟨rfl, rfl, rfl, rfl, rfl⟩

theorem timerExpires (r : FaultRecord) (s : State) : RecordsAndBoard s (s.timerExpires r) := by
  unfold State.timerExpires
  split
  · exact joinRecord ..
  · exact removeAndLeave ..
  · exact .refl s

theorem resumeTimer (r : FaultRecord) (s : State) : RecordsAndBoard s (s.resumeTimer r) := by
  unfold State.resumeTimer
  split
  · exact timerExpires ..
  · exact writeRecord ..

theorem syncUnderOp (asset : Nat) (s : State) : RecordsAndBoard s (s.syncUnderOp asset) := by
  unfold State.syncUnderOp
  split
  · dsimp only
    split_ifs
    · exact .refl s
    · exact (writeRecord ..).trans (marksHandoff ..)
  · exact .refl s

theorem eachRecord {g : FaultRecord → State → State} (hg : ∀ r t, RecordsAndBoard t (g r t)) (n : StationId) (s : State) :
    RecordsAndBoard s (s.eachRecord n g) :=
  State.eachRecord_induction (P := RecordsAndBoard s) (fun r t _ h => h.trans (hg r t)) n (.refl s)

theorem suspendTimers (n : StationId) (s : State) : RecordsAndBoard s (s.suspendTimers n) :=
  eachRecord (fun _ _ => writeRecord ..) n s

theorem resumeTimers (n : StationId) (s : State) : RecordsAndBoard s (s.resumeTimers n) := eachRecord resumeTimer n s

end RecordsAndBoard

theorem State.marksHandoff_faults (r : FaultRecord) (s : State) : (s.marksHandoff r).faults = s.faults := by
  unfold State.marksHandoff
  split <;> rfl

theorem State.marksHandoff_remarked (r : FaultRecord) (s : State) : s.board.Remarked (s.marksHandoff r).board := by
  unfold State.marksHandoff
  split
  · exact Board.Remarked.changeMarks _ _ _ _ s.board
  · exact .refl s.board

theorem State.syncUnderOp_remarked (asset : Nat) (s : State) : s.board.Remarked (s.syncUnderOp asset).board := by
  unfold State.syncUnderOp
  split
  · dsimp only
    split_ifs
    · exact .refl s.board
    · exact State.marksHandoff_remarked _ (s.writeRecord _)
  · exact .refl s.board

/-! ## The stale flags of a station (R34) -/

/-- Every record of the station has this stale flag. -/
def Faults.StaleAt (n : StationId) (stale : Bool) (f : Faults) : Prop :=
  ∀ r ∈ f.records, r.station = n → r.stale = stale

theorem Faults.StaleAt.write {n : StationId} {stale : Bool} {f : Faults} (h : f.StaleAt n stale) {r : FaultRecord}
    (hr : r.station = n → r.stale = stale) : (f.write r).StaleAt n stale := fun x hx hn => by
  rcases Faults.mem_write hx with rfl | hx
  · exact hr hn
  · exact h x hx hn

theorem State.syncUnderOp_staleAt {n : StationId} {stale : Bool} {s : State} (h : s.faults.StaleAt n stale)
    (asset : Nat) : (s.syncUnderOp asset).faults.StaleAt n stale := by
  unfold State.syncUnderOp
  split
  · next r hr =>
    dsimp only
    split_ifs
    · exact h
    · rw [State.marksHandoff_faults]
      exact h.write (r := { r with underOp := _ }) (h r (List.mem_of_find?_eq_some hr))
  · exact h

/-- R34: the stale flag of one record, with the mark change of its member where the flag changes. -/
def State.restale (stale : Bool) (r : FaultRecord) (s : State) : State :=
  if r.stale = stale then s else (s.writeRecord { r with stale }).marksHandoff { r with stale }

theorem State.setStale_eq (n : StationId) (stale : Bool) (s : State) :
    s.setStale n stale = s.eachRecord n (State.restale stale) := rfl

theorem State.restale_of_eq {stale : Bool} {r : FaultRecord} (h : r.stale = stale) (s : State) : s.restale stale r = s :=
  if_pos h

theorem State.restale_of_ne {stale : Bool} {r : FaultRecord} (h : r.stale ≠ stale) (s : State) :
    s.restale stale r = (s.writeRecord { r with stale }).marksHandoff { r with stale } := if_neg h

theorem RecordsAndBoard.restale (stale : Bool) (r : FaultRecord) (s : State) : RecordsAndBoard s (s.restale stale r) := by
  unfold State.restale
  split_ifs
  · exact .refl s
  · exact (writeRecord ..).trans (marksHandoff ..)

theorem RecordsAndBoard.setStale (n : StationId) (stale : Bool) (s : State) : RecordsAndBoard s (s.setStale n stale) :=
  eachRecord (restale stale) n s

theorem State.restale_remarked (stale : Bool) (r : FaultRecord) (s : State) :
    s.board.Remarked (s.restale stale r).board := by
  unfold State.restale
  split_ifs
  · exact .refl s.board
  · exact State.marksHandoff_remarked _ (s.writeRecord _)

theorem State.setStale_remarked (n : StationId) (stale : Bool) (s : State) :
    s.board.Remarked (s.setStale n stale).board :=
  State.eachRecord_induction (P := fun t => s.board.Remarked t.board)
    (fun r t _ h => h.trans (State.restale_remarked stale r t)) n (.refl s.board)

theorem State.restale_faults {stale : Bool} {r : FaultRecord} {s : State} (hs : s.faults.Sound)
    (hr : r ∈ s.faults.records) : (s.restale stale r).faults = s.faults.write { r with stale } := by
  by_cases h : r.stale = stale
  · rw [State.restale_of_eq h]
    subst h
    exact (hs.write_self hr).symm
  · rw [State.restale_of_ne h, State.marksHandoff_faults]
    rfl

/-- R34: the flags of the station's records, and no other field of the fault table. -/
theorem State.setStale_records (n : StationId) (stale : Bool) {s : State} (hs : s.faults.Sound) :
    (s.setStale n stale).faults.records = s.faults.records.map fun r => if r.station = n then { r with stale } else r :=
  State.eachRecord_records (h := fun r => { r with stale }) (fun _ => rfl)
    (fun r t => (RecordsAndBoard.restale stale r t).setup) (fun _ _ _ ht hr => State.restale_faults ht hr) n hs

theorem State.setStale_staleAt (n : StationId) (stale : Bool) {s : State} (hs : s.faults.Sound) :
    (s.setStale n stale).faults.StaleAt n stale := fun r hr hn => by
  rw [State.setStale_records n stale hs] at hr
  obtain ⟨x, -, rfl⟩ := List.mem_map.1 hr
  split_ifs at hn ⊢
  · rfl
  · contradiction

/-- Records that have the flag already are passed over. -/
theorem State.foldl_restale_of_settled {n : StationId} {stale : Bool} {s : State} (hs : s.faults.Sound)
    {front : List FaultRecord} (hmem : ∀ r ∈ front, r ∈ s.faults.records)
    (hfront : ∀ r ∈ front, r.station = n → r.stale = stale) :
    ((front.filter fun r => decide (r.station = n)).map (·.asset)).foldl (State.atAsset (State.restale stale)) s = s := by
  induction front with
  | nil => rfl
  | cons r front ih =>
    obtain ⟨hr, hrest⟩ := List.forall_mem_cons.1 hmem
    obtain ⟨hstale, hfront⟩ := List.forall_mem_cons.1 hfront
    by_cases hn : r.station = n
    · rw [List.filter_cons_of_pos (by simpa using hn), List.map_cons, List.foldl_cons,
        State.atAsset_of_find (hs.find_of_mem hr), State.restale_of_eq (hstale hn)]
      exact ih hrest hfront
    · rw [List.filter_cons_of_neg (by simpa using hn)]
      exact ih hrest hfront

theorem State.setStale_of_front {n : StationId} {stale : Bool} {s : State} (hs : s.faults.Sound)
    {front rest : List FaultRecord} (hl : s.faults.records = front ++ rest)
    (hfront : ∀ r ∈ front, r.station = n → r.stale = stale) : s.setStale n stale =
      ((rest.filter fun r => decide (r.station = n)).map (·.asset)).foldl (State.atAsset (State.restale stale)) s := by
  rw [State.setStale_eq, State.eachRecord_eq, s.faults.assetsOf_append n hl, List.foldl_append,
    State.foldl_restale_of_settled hs (fun r hr => by rw [hl]; exact List.mem_append_left rest hr) hfront]

theorem State.setStale_of_staleAt {n : StationId} {stale : Bool} {s : State} (hs : s.faults.Sound)
    (h : s.faults.StaleAt n stale) : s.setStale n stale = s :=
  (State.setStale_of_front hs (List.append_nil _).symm h).trans rfl

/-- R34, log entry 10: the first record whose flag changes is written, its member's marks change, and the rest follow. -/
theorem State.setStale_of_first {n : StationId} {stale : Bool} {s : State} (hs : s.faults.Sound)
    {front rest : List FaultRecord} {r : FaultRecord} (hl : s.faults.records = front ++ r :: rest) (hn : r.station = n)
    (hr : r.stale ≠ stale) (hfront : ∀ q ∈ front, q.station = n → q.stale = stale) :
    s.setStale n stale = ((s.writeRecord { r with stale }).marksHandoff { r with stale }).setStale n stale := by
  have hmem : r ∈ s.faults.records := by simp [hl]
  have hroom : s.faults.HasRoom r.asset := Faults.hasRoom_of_find (hs.find_of_mem hmem)
  have hnext : (s.restale stale r).faults.Sound := by
    rw [State.restale_faults hs hmem]
    exact hs.write (r := { r with stale }) hroom
  have hrecords : (s.restale stale r).faults.records = (front ++ [{ r with stale }]) ++ rest := by
    rw [State.restale_faults hs hmem, hs.write_records (x := { r with stale }) hl rfl, List.append_cons]
  have hsettled : ∀ q ∈ front ++ [{ r with stale }], q.station = n → q.stale = stale := fun q hq => by
    rcases List.mem_append.1 hq with hq | hq
    · exact hfront q hq
    · rw [List.mem_singleton.1 hq]
      exact fun _ => rfl
  rw [← State.restale_of_ne hr, State.setStale_of_front hnext hrecords hsettled, State.setStale_of_front hs hl hfront,
    List.filter_cons_of_pos (by simpa using hn), List.map_cons, List.foldl_cons,
    State.atAsset_of_find (hs.find_of_mem hmem)]

/-! ## The end of an operation (R168, R169) -/

theorem State.unmarkAsset_remarked (asset : Nat) (s : State) : s.board.Remarked (s.unmarkAsset asset).board :=
  State.syncUnderOp_remarked asset (s.onFaults (Faults.unmark asset))

theorem State.releaseMark_remarked (x : Op) (s : State) : s.board.Remarked (s.releaseMark x).board := by
  unfold State.releaseMark
  split_ifs
  · exact s.unmarkAsset_remarked x.asset
  · exact .refl s.board

theorem State.releaseMark_frame (x : Op) (s : State) :
    (s.releaseMark x).setup = s.setup ∧ (s.releaseMark x).field = s.field := by
  unfold State.releaseMark
  split_ifs
  · have kept := RecordsAndBoard.syncUnderOp x.asset (s.onFaults (Faults.unmark x.asset))
    exact ⟨kept.setup, kept.field⟩
  · exact ⟨rfl, rfl⟩

theorem State.releaseMark_staleAt {n : StationId} {stale : Bool} {s : State} (h : s.faults.StaleAt n stale) (x : Op) :
    (s.releaseMark x).faults.StaleAt n stale := by
  unfold State.releaseMark
  split_ifs
  · exact State.syncUnderOp_staleAt (s := s.onFaults (Faults.unmark x.asset)) h x.asset
  · exact h

theorem State.notifyOpDone_frame (o : OpId) (x : Op) (how : OpEnd) (outcome : OpOutcome) (s : State) :
    let u := s.notifyOpDone o x how outcome
    u.setup = s.setup ∧ u.faults = s.faults ∧ u.field = s.field ∧ ∀ i, u.board.incident i = s.board.incident i := by
  dsimp only [State.notifyOpDone]
  split <;> exact ⟨rfl, rfl, rfl, fun _ => rfl⟩

/-- R168: the abort frame of an operation that ends otherwise than DONE. -/
def State.abortFrame (o : OpId) (x : Op) (how : OpEnd) (s : State) : State :=
  if how = .done then s else s.sendAbortOp o x

theorem State.abortFrame_frame (o : OpId) (x : Op) (how : OpEnd) (s : State) :
    let u := s.abortFrame o x how
    u.setup = s.setup ∧ u.faults = s.faults ∧ u.board = s.board ∧ ∀ m, u.station m = s.station m := by
  dsimp only [State.abortFrame]
  split_ifs <;> exact ⟨rfl, rfl, rfl, fun _ => rfl⟩

theorem State.loseOp_of_none {o : OpId} {s : State} (h : s.field.ops.find o = none) (how : OpEnd) :
    s.loseOp o how = s := by simp only [State.loseOp, State.endOp, h]

theorem State.loseOp_of_some {o : OpId} {x : Op} {s : State} (h : s.field.ops.find o = some x) (how : OpEnd) :
    s.loseOp o how = ((((s.abortFrame o x how).releaseMark x).clearStationOp x).notifyOpDone o x how .none).onField
      (Field.freeOp o) := by
  simp only [State.loseOp, State.endOp, h]
  rfl

section

variable (o : OpId) (how : OpEnd) (s : State)

theorem State.loseOp_setup : (s.loseOp o how).setup = s.setup := by
  cases h : s.field.ops.find o with
  | none => rw [State.loseOp_of_none h]
  | some x =>
    rw [State.loseOp_of_some h]
    exact (State.notifyOpDone_frame ..).1.trans ((State.releaseMark_frame ..).1.trans (State.abortFrame_frame ..).1)

theorem State.loseOp_remarked : s.board.Remarked (s.loseOp o how).board := by
  cases h : s.field.ops.find o with
  | none =>
    rw [State.loseOp_of_none h]
    exact .refl s.board
  | some x =>
    rw [State.loseOp_of_some h]
    obtain ⟨-, -, hboard, -⟩ := s.abortFrame_frame o x how
    have marked := (s.abortFrame o x how).releaseMark_remarked x
    rw [hboard] at marked
    obtain ⟨-, -, -, hincident⟩ := (((s.abortFrame o x how).releaseMark x).clearStationOp x).notifyOpDone_frame o x how .none
    exact marked.trans (.of_incident hincident)

variable {s}

theorem State.loseOp_staleAt {n : StationId} {stale : Bool} (hs : s.faults.StaleAt n stale) :
    (s.loseOp o how).faults.StaleAt n stale := by
  cases h : s.field.ops.find o with
  | none => rwa [State.loseOp_of_none h]
  | some x =>
    rw [State.loseOp_of_some h]
    obtain ⟨-, haborted, -, -⟩ := s.abortFrame_frame o x how
    have released := State.releaseMark_staleAt (n := n) (stale := stale) (by rwa [haborted]) x
    obtain ⟨-, hfaults, -, -⟩ := (((s.abortFrame o x how).releaseMark x).clearStationOp x).notifyOpDone_frame o x how .none
    exact (congrArg (Faults.StaleAt n stale) hfaults).mpr released

/-- R168: of the stations, the end of an operation touches the operation field of its own. -/
theorem State.loseOp_station {x : Op} (h : s.field.ops.find o = some x) (m : StationId) :
    (s.loseOp o how).station m = if x.station = m then { s.station m with op := none } else s.station m := by
  rw [State.loseOp_of_some h]
  obtain ⟨-, -, -, haborted⟩ := s.abortFrame_frame o x how
  have hreleased : ∀ k, ((s.abortFrame o x how).releaseMark x).station k = s.station k := fun k =>
    (congrArg (fun f => f.station k) ((s.abortFrame o x how).releaseMark_frame x).2).trans (haborted k)
  obtain ⟨-, -, hfield, -⟩ := (((s.abortFrame o x how).releaseMark x).clearStationOp x).notifyOpDone_frame o x how .none
  refine (congrArg (fun f => f.station m) hfield).trans ?_
  refine (State.station_updStation x.station m _ _).trans ?_
  split_ifs with hm
  · rw [hreleased, hm]
  · exact hreleased m

end

section

variable {n : StationId} {s : State}

theorem State.loseStationOp_of_none (h : (s.station n).op = none) (how : OpEnd) : s.loseStationOp n how = s := by
  simp only [State.loseStationOp, h]

theorem State.loseStationOp_of_some {o : OpId} (h : (s.station n).op = some o) (how : OpEnd) :
    s.loseStationOp n how = s.loseOp o how := by simp only [State.loseStationOp, h]

variable (n s) (how : OpEnd)

theorem State.loseStationOp_setup : (s.loseStationOp n how).setup = s.setup := by
  unfold State.loseStationOp
  split
  · exact State.loseOp_setup ..
  · rfl

theorem State.loseStationOp_remarked : s.board.Remarked (s.loseStationOp n how).board := by
  unfold State.loseStationOp
  split
  · exact State.loseOp_remarked _ how s
  · exact .refl s.board

variable {n s}

theorem State.loseStationOp_staleAt {k : StationId} {stale : Bool} (hs : s.faults.StaleAt k stale) :
    (s.loseStationOp n how).faults.StaleAt k stale := by
  unfold State.loseStationOp
  split
  · exact State.loseOp_staleAt _ _ hs
  · exact hs

/-- Whatever operation a station's field names, its end leaves every other field of every station. -/
theorem State.loseStationOp_station (m : StationId) :
    ∃ op, (s.loseStationOp n how).station m = { s.station m with op } := by
  unfold State.loseStationOp
  split
  · next o _ =>
    cases h : s.field.ops.find o with
    | none => exact ⟨_, by rw [State.loseOp_of_none h]⟩
    | some x =>
      rw [State.loseOp_station o how h]
      split_ifs
      · exact ⟨none, rfl⟩
      · exact ⟨_, rfl⟩
  · exact ⟨_, rfl⟩

/-- R157: where the operation fields agree, the station's own field empties. -/
theorem State.loseStationOp_station_of_agree
    (h : ∀ o, (s.station n).op = some o → ∃ x, s.field.ops.find o = some x ∧ x.station = n) (m : StationId) :
    (s.loseStationOp n how).station m = if n = m then { s.station m with op := none } else s.station m := by
  cases hop : (s.station n).op with
  | none =>
    rw [State.loseStationOp_of_none hop]
    split_ifs with hm
    · rw [← hm, ← hop]
    · rfl
  | some o =>
    obtain ⟨x, hx, rfl⟩ := h o hop
    rw [State.loseStationOp_of_some hop, State.loseOp_station o how hx]

end

/-! ## A census trigger (R152) -/

theorem State.triggerCensus_frame (t : TrunkId) (s : State) :
    let u := s.triggerCensus t
    u.setup = s.setup ∧ u.faults = s.faults ∧ u.board = s.board ∧ ∀ m, u.station m = s.station m := by
  dsimp only [State.triggerCensus, State.startCensus]
  split_ifs <;> exact ⟨rfl, rfl, rfl, fun _ => rfl⟩

end Sys2Proof.Machine
end

section
/-! PROOFS. HOLD and UNHOLD (R115, R116), and what a change of hold set makes of the station, of the state timers of its
records and of its operation (R37, R114). -/

namespace Sys2Proof.Machine

theorem RecordsAndBoard.station {s t : State} (h : RecordsAndBoard s t) (m : StationId) : t.station m = s.station m :=
  congrArg (fun f => f.station m) h.field

/-! ## Timers suspended (R37) -/

/-- R37: the running timer of one record suspended. -/
def State.suspendTimer (r : FaultRecord) (s : State) : State :=
  s.writeRecord { r with timer := r.timer.suspend s.setup.time }

theorem State.suspendTimers_eq (n : StationId) (s : State) :
    s.suspendTimers n = s.eachRecord n State.suspendTimer := rfl

theorem State.suspendTimers_records (n : StationId) {s : State} (hs : s.faults.Sound) :
    (s.suspendTimers n).faults.records = s.faults.records.map fun r =>
      if r.station = n then { r with timer := r.timer.suspend s.setup.time } else r := by
  rw [State.suspendTimers_eq]
  exact State.eachRecord_records (g := State.suspendTimer) (h := fun r => { r with timer := r.timer.suspend s.setup.time })
    (fun _ => rfl) (fun _ _ => rfl) (fun _ _ ht _ _ => ht ▸ rfl) n hs

theorem State.suspendTimers_board (n : StationId) (s : State) : (s.suspendTimers n).board = s.board := by
  rw [State.suspendTimers_eq]
  exact State.eachRecord_keeps (g := State.suspendTimer) (p := State.board) (fun _ _ => rfl) n s

/-! ## Timers resumed (R37) -/

section

variable {s : State} {r : FaultRecord} {k : TimerKind}

theorem State.resumeTimer_of_out (h : r.timer = .suspended k 0) : s.resumeTimer r = s.timerExpires r := by
  simp only [State.resumeTimer, h]

theorem State.resumeTimer_of_suspect (h : r.timer = .suspended k 0) (hs : r.state = .suspect) : s.resumeTimer r =
    s.joinRecord { r with state := .confirmed, confirmedAt := some s.setup.time, timer := .none } := by
  rw [State.resumeTimer_of_out h, State.timerExpires, hs]
  rfl

theorem State.resumeTimer_of_restoring (h : r.timer = .suspended k 0) (hs : r.state = .restoring) :
    s.resumeTimer r = (s.onFaults (Faults.remove r.asset)).leaveRecord r := by
  rw [State.resumeTimer_of_out h, State.timerExpires, hs]
  rfl

theorem State.resumeTimer_of_left {m : Nat} (h : r.timer = .suspended k (m + 1)) : s.resumeTimer r =
    s.writeRecord { r with timer := .running k (s.setup.time + (m + 1)) } := by
  simp only [State.resumeTimer, h, StateTimer.resume]

theorem State.resumeTimer_of_not_suspended (h : ∀ k m, r.timer ≠ .suspended k m) : s.resumeTimer r = s.writeRecord r := by
  have hkept : r.timer.resume s.setup.time = r.timer := by
    cases ht : r.timer with
    | none => rfl
    | running k e => rfl
    | suspended k m => exact absurd ht (h k m)
  unfold State.resumeTimer
  split
  · next ht => exact absurd ht (h _ 0)
  · rw [hkept]

end

theorem State.resumeTimer_find_other (r : FaultRecord) (s : State) (k : Nat) (hk : k ≠ r.asset) :
    (s.resumeTimer r).faults.find k = s.faults.find k := by
  unfold State.resumeTimer
  split
  · unfold State.timerExpires
    split
    · exact (Faults.find_write ..).trans (if_neg hk)
    · refine (congrArg (Faults.find · k) (KeepsTables.leaveRecord_faults ..)).trans ?_
      exact (Faults.find_remove ..).trans (if_neg hk)
    · rfl
  · exact (Faults.find_write ..).trans (if_neg hk)

/-- R37: what resuming the timers of a station makes of one record. -/
theorem State.resumeTimers_find (n : StationId) {s : State} (hs : s.faults.Sound) {r : FaultRecord}
    (hr : r ∈ s.faults.records) :
    (r.station ≠ n → (s.resumeTimers n).faults.find r.asset = some r) ∧
    (r.station = n →
      (∀ k m, r.timer = .suspended k (m + 1) → (s.resumeTimers n).faults.find r.asset =
        some { r with timer := .running k (s.setup.time + (m + 1)) }) ∧
      (∀ k, r.timer = .suspended k 0 →
        (r.state = .suspect → ∃ i, (s.resumeTimers n).faults.find r.asset = some
          { r with state := .confirmed, confirmedAt := some s.setup.time, timer := .none, incident := i }) ∧
        (r.state = .restoring → (s.resumeTimers n).faults.find r.asset = none)) ∧
      ((∀ k m, r.timer ≠ .suspended k m) → (s.resumeTimers n).faults.find r.asset = some r)) := by
  obtain ⟨hother, hown⟩ := State.eachRecord_find State.resumeTimer_find_other
    (fun r t => (RecordsAndBoard.resumeTimer r t).setup) n hs hr
  refine ⟨hother, fun hn => ?_⟩
  obtain ⟨t, ht, hfind⟩ := hown hn
  have written : ∀ x : FaultRecord, x.asset = r.asset → (t.faults.write x).find r.asset = some x := fun x hx =>
    (Faults.find_write ..).trans (if_pos hx.symm)
  refine ⟨fun k m h => hfind.trans ?_, fun k h => ⟨fun hsus => ?_, fun hres => hfind.trans ?_⟩,
    fun h => hfind.trans ?_⟩
  · rw [State.resumeTimer_of_left h, ht]
    exact written _ rfl
  · rw [State.resumeTimer_of_suspect h hsus, ht] at hfind
    exact ⟨_, hfind.trans (written _ rfl)⟩
  · rw [State.resumeTimer_of_restoring h hres, KeepsTables.leaveRecord_faults]
    exact (Faults.find_remove ..).trans (if_pos rfl)
  · rw [State.resumeTimer_of_not_suspended h]
    exact written _ rfl

/-! ## The hold set changed (R114) -/

/-- A station with its hold set written, before anything follows from it. -/
def State.writeHold (n : StationId) (g : HoldSet → HoldSet) (s : State) : State :=
  s.updStation n fun x => { x with hold := g x.hold }

@[simp] theorem State.writeHold_station_self (n : StationId) (g : HoldSet → HoldSet) (s : State) :
    (s.writeHold n g).station n = { s.station n with hold := g (s.station n).hold } := State.station_updStation_self ..

theorem State.writeHold_station_ne {n m : StationId} (h : m ≠ n) (g : HoldSet → HoldSet) (s : State) :
    (s.writeHold n g).station m = s.station m := (State.station_updStation ..).trans (if_neg h.symm)

/-- R114: a station with a hold set that has become non-empty, before its operation ends. -/
def State.suspendStation (n : StationId) (s : State) : State :=
  (s.suspendTimers n).updStation n fun x => if x.mode = .active then { x with nextExpiry := none } else x

theorem State.holdBegins_eq (n : StationId) (s : State) :
    s.holdBegins n = (s.suspendStation n).loseStationOp n .lostHold := rfl

theorem State.suspendStation_station (n m : StationId) (s : State) : (s.suspendStation n).station m =
    if n = m then
      { s.station n with nextExpiry := if (s.station n).mode = .active then none else (s.station n).nextExpiry }
    else s.station m := by
  have kept := (RecordsAndBoard.suspendTimers n s).station
  rw [State.suspendStation, State.station_updStation, kept, kept]
  split_ifs <;> rfl

theorem State.holdEnds_station (n m : StationId) (s : State) : (s.holdEnds n).station m =
    if n = m then
      if (s.station n).mode = .active then
        { s.station n with
          balance := 0, nextExpiry := some (s.setup.time + (s.roster n).interval), wakeExtra := false }
      else s.station n
    else s.station m := by
  have kept := (RecordsAndBoard.resumeTimers n s).station
  rw [State.holdEnds, State.station_updStation, kept, kept]
  rfl

section

variable {n : StationId} {g : HoldSet → HoldSet} {s : State}

theorem State.changeHold_eq (n : StationId) (g : HoldSet → HoldSet) (s : State) : s.changeHold n g =
    (s.writeHold n g).afterHoldChange n (s.station n).hold.held := rfl

theorem State.changeHold_of_same (h : (g (s.station n).hold).held = (s.station n).hold.held) :
    s.changeHold n g = s.writeHold n g := by
  simp [State.changeHold_eq, State.afterHoldChange, h]

theorem State.changeHold_of_begins (h : (g (s.station n).hold).held = true) (hs : (s.station n).hold.held = false) :
    s.changeHold n g = (s.writeHold n g).holdBegins n := by
  simp [State.changeHold_eq, State.afterHoldChange, h, hs]

theorem State.changeHold_of_ends (h : (g (s.station n).hold).held = false) (hs : (s.station n).hold.held = true) :
    s.changeHold n g = (s.writeHold n g).holdEnds n := by
  simp [State.changeHold_eq, State.afterHoldChange, h, hs]

theorem State.changeHold_begins_station (h : (g (s.station n).hold).held = true)
    (hs : (s.station n).hold.held = false) : ∃ op, (s.changeHold n g).station n = { s.station n with
      hold := g (s.station n).hold
      nextExpiry := if (s.station n).mode = .active then none else (s.station n).nextExpiry
      op } := by
  rw [State.changeHold_of_begins h hs, State.holdBegins_eq]
  obtain ⟨op, hop⟩ := State.loseStationOp_station (n := n)
    (s := (s.writeHold n g).suspendStation n) .lostHold n
  exact ⟨op, by rw [hop, State.suspendStation_station, if_pos rfl, State.writeHold_station_self]⟩

theorem State.changeHold_ends_station (h : (g (s.station n).hold).held = false) (hs : (s.station n).hold.held = true) :
    (s.changeHold n g).station n = if (s.station n).mode = .active then
      { s.station n with
        hold := g (s.station n).hold, balance := 0, nextExpiry := some (s.setup.time + (s.roster n).interval)
        wakeExtra := false }
      else { s.station n with hold := g (s.station n).hold } := by
  rw [State.changeHold_of_ends h hs, State.holdEnds_station, if_pos rfl, State.writeHold_station_self]
  rfl

end

/-- R114: a change of hold set reaches the hold set and no settings, and no mode. -/
theorem State.changeHold_frame (n : StationId) (g : HoldSet → HoldSet) (s : State) :
    let u := s.changeHold n g
    u.setup = s.setup ∧ (u.station n).hold = g (s.station n).hold ∧ (u.station n).mode = (s.station n).mode := by
  dsimp only
  cases hs : (s.station n).hold.held <;> cases h : (g (s.station n).hold).held
  · rw [State.changeHold_of_same (h.trans hs.symm), State.writeHold_station_self]
    exact ⟨rfl, rfl, rfl⟩
  · obtain ⟨op, hstation⟩ := State.changeHold_begins_station h hs
    rw [hstation, State.changeHold_of_begins h hs]
    refine ⟨(State.loseStationOp_setup ..).trans ?_, rfl, rfl⟩
    exact (RecordsAndBoard.suspendTimers n (s.writeHold n g)).setup
  · rw [State.changeHold_ends_station h hs, State.changeHold_of_ends h hs]
    refine ⟨(RecordsAndBoard.resumeTimers n (s.writeHold n g)).setup, ?_, ?_⟩
    · split_ifs <;> rfl
    · split_ifs <;> rfl
  · rw [State.changeHold_of_same (h.trans hs.symm), State.writeHold_station_self]
    exact ⟨rfl, rfl, rfl⟩

/-! ## The owners' lines (R115, R116) -/

theorem Roster.vacant_iff {r : Roster} : r.vacant = true ↔ r.count = 0 := decide_eq_true_iff

section

variable {trunk position : Byte} {d : DeskId} {s : State}

theorem holdStation_of_out (h : stationOf trunk position = none) :
    holdStation [trunk, position] d s = (s, .invalid) := by simp only [holdStation, h]

theorem unholdStation_of_out (h : stationOf trunk position = none) :
    unholdStation [trunk, position] d s = (s, .invalid) := by simp only [unholdStation, h]

variable {n : StationId} (h : stationOf trunk position = some n)
include h

/-- R115: the first line that applies decides, and the answer carries the hold set and mode that the change leaves. -/
theorem holdStation_of_eq : holdStation [trunk, position] d s =
    if (s.board.desks[d]).onDuty = false then (s, .refused .offDuty)
    else if (s.roster n).count = 0 then (s, .refused .vacant)
    else (s.changeHold n fun h => { h with desk := true },
      .done (.held { (s.station n).hold with desk := true } (s.station n).mode)) := by
  obtain ⟨-, hhold, hmode⟩ := s.changeHold_frame n fun h => { h with desk := true }
  simp only [holdStation, h, Roster.vacant_iff, heldData, hhold, hmode]

/-- R116: the same of UNHOLD, which a station held at its cabinet alone refuses. -/
theorem unholdStation_of_eq : unholdStation [trunk, position] d s =
    if (s.board.desks[d]).onDuty = false then (s, .refused .offDuty)
    else if (s.roster n).count = 0 then (s, .refused .vacant)
    else if (s.station n).hold = ⟨false, true⟩ then (s, .refused .heldAtCabinet)
    else (s.changeHold n fun h => { h with desk := false },
      .done (.held { (s.station n).hold with desk := false } (s.station n).mode)) := by
  obtain ⟨-, hhold, hmode⟩ := s.changeHold_frame n fun h => { h with desk := false }
  simp only [unholdStation, h, Roster.vacant_iff, heldData, hhold, hmode]

end

/-! ## A hold set that becomes non-empty, and one that becomes empty (R37, R114) -/

/-- What a hold set that has become non-empty makes of the part, before the station's operation ends. -/
theorem State.suspendStation_frame (n : StationId) (s : State) :
    let v := s.suspendStation n
    v.setup = s.setup ∧ v.board = s.board ∧ v.error = s.error ∧ v.field.ops = s.field.ops ∧
    v.field.trunks = s.field.trunks ∧ v.field.chains = s.field.chains := by
  have kept := RecordsAndBoard.suspendTimers n s
  exact ⟨kept.setup, s.suspendTimers_board n, kept.error, (congrArg Field.ops kept.field :),
    (congrArg Field.trunks kept.field :), (congrArg Field.chains kept.field :)⟩

theorem State.suspendStation_faults (n : StationId) (s : State) :
    let v := s.suspendStation n
    v.faults.marks = s.faults.marks ∧ v.faults.dropped = s.faults.dropped ∧
    (s.faults.Sound → v.faults.records = s.faults.records.map fun r =>
      if r.station = n then { r with timer := r.timer.suspend s.setup.time } else r) := by
  have kept := RecordsAndBoard.suspendTimers n s
  exact ⟨kept.marks, kept.dropped, State.suspendTimers_records n⟩

theorem State.holdEnds_frame (n : StationId) (s : State) :
    let u := s.holdEnds n
    u.field.ops = s.field.ops ∧ u.field.trunks = s.field.trunks ∧ u.faults.marks = s.faults.marks ∧
    u.faults = (s.resumeTimers n).faults := by
  have kept := RecordsAndBoard.resumeTimers n s
  exact ⟨(congrArg Field.ops kept.field :), (congrArg Field.trunks kept.field :), kept.marks, rfl⟩

section

variable {n : StationId} {g : HoldSet → HoldSet} {s : State}

/-- R114, R169: the station suspended, and its operation LOST. -/
theorem State.changeHold_suspends (h : (g (s.station n).hold).held = true) (hs : (s.station n).hold.held = false) :
    ∃ v : State, s.changeHold n g = (match (s.station n).op with
      | some o => v.endOp o .lostHold .none .none
      | none => v) ∧
    v.setup = s.setup ∧ v.board = s.board ∧ v.error = s.error ∧ v.field.ops = s.field.ops ∧
    v.field.trunks = s.field.trunks ∧ v.field.chains = s.field.chains ∧
    v.station n = { s.station n with
      hold := g (s.station n).hold
      nextExpiry := if (s.station n).mode = .active then none else (s.station n).nextExpiry } ∧
    (∀ m, m ≠ n → v.station m = s.station m) ∧
    v.faults.marks = s.faults.marks ∧ v.faults.dropped = s.faults.dropped ∧
    (s.faults.Sound → v.faults.records = s.faults.records.map fun r =>
      if r.station = n then { r with timer := r.timer.suspend s.setup.time } else r) := by
  rw [State.changeHold_of_begins h hs, State.holdBegins_eq]
  have hstation := (s.writeHold n g).suspendStation_station n
  obtain ⟨hsetup, hboard, herror, hops, htrunks, hchains⟩ := (s.writeHold n g).suspendStation_frame n
  obtain ⟨hmarks, hdropped, hrecords⟩ := (s.writeHold n g).suspendStation_faults n
  refine ⟨(s.writeHold n g).suspendStation n, ?_, hsetup, hboard, herror, hops, htrunks, hchains,
    ?_, fun m hm => ?_, hmarks, hdropped, hrecords⟩
  · have hop : (((s.writeHold n g).suspendStation n).station n).op = (s.station n).op := by
      rw [hstation, if_pos rfl, State.writeHold_station_self]
    cases ho : (s.station n).op with
    | none => exact State.loseStationOp_of_none (hop.trans ho) _
    | some o => exact State.loseStationOp_of_some (hop.trans ho) _
  · rw [hstation, if_pos rfl, State.writeHold_station_self]
  · rw [hstation, if_neg hm.symm, State.writeHold_station_ne hm]

/-- R114: a hold set that becomes empty leaves the other stations, the operations, the trunks and the marks. -/
theorem State.changeHold_resumes (h : (g (s.station n).hold).held = false) (hs : (s.station n).hold.held = true) :
    let u := s.changeHold n g
    (∀ m, m ≠ n → u.station m = s.station m) ∧ u.field.ops = s.field.ops ∧ u.field.trunks = s.field.trunks ∧
    u.faults.marks = s.faults.marks ∧
    u.faults = ((s.writeHold n g).resumeTimers n).faults := by
  obtain ⟨hops, htrunks, hmarks, hfaults⟩ := (s.writeHold n g).holdEnds_frame n
  dsimp only
  rw [State.changeHold_of_ends h hs]
  refine ⟨fun m hm => ?_, hops, htrunks, hmarks, hfaults⟩
  rw [State.holdEnds_station, if_neg hm.symm, State.writeHold_station_ne hm]

end

/-- Settles O31: the owners' lines, and the three ways in which a hold set can change: it stays empty or non-empty, it becomes
non-empty, and it becomes empty. -/
theorem holdAndUnholdChangeHoldSet : Obligations.HoldAndUnholdChangeHoldSet := by
  refine ⟨fun d trunk position s => ⟨fun hw hout => ?_, fun hw hout => ?_, fun t p ht hp =>
    ⟨fun hw => ?_, fun hw => ?_⟩⟩, fun n g s => ?_⟩
  · exact answers_of_waits holdStation rfl hw (holdStation_of_out (stationOf_of_out hout))
  · exact answers_of_waits unholdStation rfl hw (unholdStation_of_out (stationOf_of_out hout))
  · have lines := holdStation_of_eq (d := d) (s := s) (stationOf_of_eq ht hp)
    refine ⟨fun hoff => ?_, fun hon hvac => ?_, fun hon hocc => ?_⟩
    · exact answers_of_waits holdStation rfl hw (lines.trans (if_pos hoff))
    · exact answers_of_waits holdStation rfl hw (by rw [lines, if_neg (Bool.ne_false_iff.2 hon), if_pos hvac]; rfl)
    · exact does_of_answer holdStation rfl hw (by rw [lines, if_neg (Bool.ne_false_iff.2 hon), if_neg hocc]; rfl)
  · have lines := unholdStation_of_eq (d := d) (s := s) (stationOf_of_eq ht hp)
    refine ⟨fun hoff => ?_, fun hon hvac => ?_, fun hon hocc hcab => ?_, fun hon hocc hcab => ?_⟩
    · exact answers_of_waits unholdStation rfl hw (lines.trans (if_pos hoff))
    · exact answers_of_waits unholdStation rfl hw (by rw [lines, if_neg (Bool.ne_false_iff.2 hon), if_pos hvac]; rfl)
    · exact answers_of_waits unholdStation rfl hw (by
        rw [lines, if_neg (Bool.ne_false_iff.2 hon), if_neg hocc, if_pos hcab]; rfl)
    · exact does_of_answer unholdStation rfl hw (by
        rw [lines, if_neg (Bool.ne_false_iff.2 hon), if_neg hocc, if_neg hcab]; rfl)
  · obtain ⟨hsetup, hhold, hmode⟩ := s.changeHold_frame n g
    refine ⟨hsetup, hhold, hmode, State.changeHold_of_same, fun h hs => ?_, fun h hs => ?_, fun h hs => ?_,
      fun h hs hsound => ?_, fun r k ht => ⟨State.resumeTimer_of_suspect ht, State.resumeTimer_of_restoring ht⟩⟩
    · obtain ⟨op, hop⟩ := State.changeHold_begins_station h hs
      rw [hop]
      exact ⟨rfl, rfl⟩
    · rw [State.changeHold_ends_station h hs]
      exact ⟨fun hm => by rw [if_pos hm]; exact ⟨rfl, rfl, rfl⟩, fun hm => by rw [if_neg hm]; exact ⟨rfl, rfl⟩⟩
    · exact State.changeHold_suspends h hs
    · obtain ⟨hothers, hops, htrunks, hmarks, hfaults⟩ := State.changeHold_resumes h hs
      refine ⟨hothers, hops, htrunks, hmarks, fun r hr => ?_⟩
      rw [hfaults]
      exact State.resumeTimers_find n (s := s.writeHold n g) hsound hr

end Sys2Proof.Machine
end

section
/-! PROOFS. The interval schedule (R106, R110, R113), a station that enters SILENT (R34, R52, R111) or ACTIVE, the stale flags of
its records, and a census trigger (R152). -/

namespace Sys2Proof.Machine

/-! ## INTERVAL_EXPIRY (R110, R113) -/

theorem State.updStation_congr {n : StationId} {g h : Station → Station} {s : State}
    (hgh : g (s.station n) = h (s.station n)) : s.updStation n g = s.updStation n h :=
  congrArg (fun x => s.onField (Field.setStation n x)) hgh

theorem intervalExpiry_does {n : StationId} {e : Nat} {s : State} (h : (s.station n).nextExpiry = some e)
    (he : e ≤ s.setup.time) : Does (.intervalExpiry n) s (s.intervalExpires n) :=
  does_event (f := State.intervalExpires n) (congrArg Host.Outcome.next (if_pos (due_iff.2 ⟨e, h, he⟩)))

section

variable {n : StationId} {e : Nat} {s : State} (h : (s.station n).nextExpiry = some e)

include h in
theorem State.nextGrid_eq : s.nextGrid n = some (e + (s.roster n).interval) := by rw [State.nextGrid, h]; rfl

theorem State.intervalExpires_of_active (hm : (s.station n).mode = .active) (hh : (s.station n).hold.held = false) :
    s.intervalExpires n = s.debit n := by simp only [State.intervalExpires, hm, hh, Bool.false_eq_true, if_false]

theorem State.intervalExpires_of_asleep (hm : (s.station n).mode = .asleep) : s.intervalExpires n = s.countSleep n := by
  simp only [State.intervalExpires, hm]

include h in
theorem State.debit_of_above (hb : -((s.roster n).allowance : Int) < (s.station n).balance) : s.debit n =
    s.updStation n fun y => { y with balance := y.balance - 1, nextExpiry := some (e + (s.roster n).interval) } := by
  rw [← State.nextGrid_eq h]
  exact if_pos hb

theorem State.debit_of_floor (hb : (s.station n).balance ≤ -((s.roster n).allowance : Int)) :
    s.debit n = s.enterSilent n true := if_neg (not_lt.2 hb)

variable {span : Nat} (hspan : (s.station n).span = some span)

include h hspan in
theorem State.countSleep_of_short (hc : (s.station n).sleepCount + 1 < span) : s.countSleep n =
    s.updStation n fun y => { y with sleepCount := y.sleepCount + 1, nextExpiry := some (e + (s.roster n).interval) } := by
  rw [← State.nextGrid_eq h]
  exact if_neg (by rw [hspan]; exact not_le.2 hc)

include h hspan in
theorem State.countSleep_of_full (hc : span ≤ (s.station n).sleepCount + 1) : s.countSleep n =
    (s.updStation n fun y => { y with
      mode := .active, wakeExtra := true, sleepCount := 0, span := none
      nextExpiry := if (s.station n).hold.held = true then none else some (e + (s.roster n).interval) }).nowActive n := by
  rw [← State.nextGrid_eq h]
  refine Eq.trans (if_pos (by rw [hspan]; exact hc)) ?_
  exact congrArg (State.nowActive n) (State.updStation_congr rfl)

end

/-! ## A census trigger (R152) -/

theorem Chain.busy_iff {c : Chain} : c.busy = true ↔ c.census ≠ none ∨ c.labelling ≠ none ∨ c.list ≠ [] := by
  simp [Chain.busy, Option.isSome_iff_ne_none, or_assoc]

theorem Trunk.answerTo_eq_accepted {x : Trunk} : x.answerTo = .accepted ↔ x.state = .running ∧ x.queue.length < 8 := by
  by_cases hr : x.state = .running
  · simp [Trunk.answerTo, Trunk.queueFull, hr]
  · simp [Trunk.answerTo, hr]

section

variable {t : TrunkId} {s : State}

theorem State.triggerCensus_of_not_running (h : (s.trunk t).state ≠ .running) : s.triggerCensus t = s := if_pos h

variable (h : (s.trunk t).state = .running)
include h

theorem State.triggerCensus_of_busy (hb : (s.chain t).busy = true) :
    s.triggerCensus t = s.updChain t fun c => { c with again := true } :=
  (if_neg (not_not.2 h)).trans (if_pos hb)

theorem State.triggerCensus_of_free (hb : ¬(s.chain t).busy = true) : s.triggerCensus t = s.startCensus t :=
  (if_neg (not_not.2 h)).trans (if_neg hb)

theorem State.startCensus_of_room (hq : (s.trunk t).queue.length < 8) : s.startCensus t =
    (s.hand t ⟨255, .census⟩).updChain t fun c => { c with census := some (s.setup.time + 4), again := false } :=
  if_pos (Trunk.answerTo_eq_accepted.2 ⟨h, hq⟩)

omit h in
theorem State.startCensus_of_full (hq : 8 ≤ (s.trunk t).queue.length) : s.startCensus t =
    (s.errorOn t .censusFailed (.trunk t)).updChain t fun c => { c with again := false } :=
  if_neg fun hc => absurd (Trunk.answerTo_eq_accepted.1 hc).2 (Nat.not_lt.2 hq)

end

/-! ## The record of a new incident (R44, R45) -/

/-- A subject as a circuit, a station or a trunk: 528 in all. -/
def Subject.key : Subject → CircuitId ⊕ StationId ⊕ TrunkId
  | .circuit c => .inl c
  | .station n => .inr (.inl n)
  | .trunk t => .inr (.inr t)

/-- The subject of a key. -/
def Subject.ofKey : CircuitId ⊕ StationId ⊕ TrunkId → Subject
  | .inl c => .circuit c
  | .inr (.inl n) => .station n
  | .inr (.inr t) => .trunk t

theorem Subject.key_injective : Function.Injective Subject.key :=
  Function.LeftInverse.injective (g := Subject.ofKey) fun x => by cases x <;> rfl

/-- R45: no record is left for a new incident only when every index holds a live one. -/
theorem Board.live_of_freshRecord_none {b : Board} (hr : b.incidents.rising = true) (h : b.freshRecord = none)
    (i : IncidentId) : ∃ x, b.incident i = some x ∧ x.live = true := by
  unfold Board.freshRecord at h
  cases hf : b.lowestFree with
  | some k => simp [hf] at h
  | none =>
    obtain ⟨x, hx⟩ := Option.ne_none_iff_exists'.1 (Board.lowestFree_eq_none.1 hf i)
    refine ⟨x, hx, Incident.live_iff.2 fun hc => ?_⟩
    obtain ⟨r, hrx, hm⟩ := Board.mem_of_incident hx
    have closed : closedTime (i, r) = some (x.closedAt.getD 0) := closedTime_eq_some.2 ⟨x, hrx, hc, rfl⟩
    simp only [hf, Option.map_eq_none_iff] at h
    rcases foldl_olderClosed _ (pairwise_of_risingKeys hr) with ⟨-, hno⟩ | ⟨k, t, hsome, -⟩
    · cases (hno _ hm).symm.trans closed
    · cases h.symm.trans hsome

/-- R44: 640 records are more than the 528 subjects, so that a new incident always finds one. -/
theorem Board.Arranged.exists_freshRecord {b : Board} (h : b.Arranged) : ∃ i, b.freshRecord = some i := by
  refine Option.ne_none_iff_exists'.1 fun hnone => ?_
  choose x hx hlive using Board.live_of_freshRecord_none h.rising hnone
  have hinj : Function.Injective fun i => (x i).subject.key := fun i j hij =>
    h.single i j (x i) (x j) (hx i) (hx j) (hlive i) (hlive j) (Subject.key_injective hij)
  have hcard := Fintype.card_le_of_injective _ hinj
  simp at hcard

/-! ## Entering ACTIVE (R34, R52) -/

theorem State.nowActive_eq (n : StationId) (s : State) :
    s.nowActive n = (s.setStale n false).onBoard fun c b => Board.restoreOf c (.station n) b := rfl

theorem State.nowActive_frame (n : StationId) (s : State) :
    (s.nowActive n).setup = s.setup ∧ (s.nowActive n).field = s.field ∧ (s.nowActive n).error = s.error := by
  have kept := RecordsAndBoard.setStale n false s
  exact ⟨kept.setup, kept.field, kept.error⟩

theorem restoreNow_restored (c : Setup) (x : Incident) : (restoreNow c x).restoredAt = some c.time ∧
    (restoreNow c x).state = if c.active.params.closeDelay = 0 then .closed else .restored := by
  by_cases h : c.active.params.closeDelay = 0
  · rw [restoreNow_of_zero h, if_pos h]
    exact ⟨rfl, rfl⟩
  · rw [restoreNow_of_ne h, if_neg h]
    exact ⟨rfl, rfl⟩

/-- R52: the station's incident, where it stands at fault, is restored. -/
theorem State.nowActive_incident {n : StationId} {s : State} (hb : s.board.Arranged) {i : IncidentId} {x : Incident}
    (hx : s.board.incident i = some x) (hsub : x.subject = .station n) (hfault : x.atFault = true) :
    ∃ y, (s.nowActive n).board.incident i = some y ∧ y.restoredAt = some s.setup.time ∧
      y.state = if s.setup.active.params.closeDelay = 0 then .closed else .restored := by
  have hsetup := (RecordsAndBoard.setStale n false s).setup
  have hboard : (s.setStale n false).board.Arranged := State.Arranged.setStale (s := s) hb n false
  obtain ⟨g, hg⟩ := (s.setStale_remarked n false).incident_some hx
  have hlive := hboard.liveOf_iff.2 ⟨hg, hsub, Incident.live_iff.2 (Incident.ne_closed_of_atFault hfault)⟩
  obtain ⟨hat, hstate⟩ := restoreNow_restored s.setup { x with members := x.members.map g }
  refine ⟨_, ?_, hat, hstate⟩
  rw [State.nowActive_eq, State.onBoard_board, hsetup, Board.restoreOf_of_live hlive]
  exact (congrArg (Board.incident · i) (if_pos hfault)).trans ((Board.commit_incident ..).trans (if_pos rfl))

/-! ## Entering SILENT (R34, R52, R111) -/

/-- R111: a station's live fields as it enters SILENT. -/
def Station.silenced (r : Roster) (x : Station) : Station :=
  { x with
    mode := .silent, balance := -(r.allowance : Int), nextExpiry := none, wakeExtra := false, sleepCount := 0
    span := none }

/-- R34, R52, R111: a station that enters SILENT, with its records and its incident, before its operation ends. -/
def State.silenced (n : StationId) (s : State) : State :=
  ((s.updStation n (Station.silenced (s.roster n))).setStale n true).onBoard fun c b =>
    Board.faultOf c (.station n) .silent b

section

variable (n : StationId) (s : State)

theorem State.enterSilent_eq (trigger : Bool) : s.enterSilent n trigger =
    let w := (s.silenced n).loseStationOp n .lostStation
    if trigger = true then w.triggerCensus (stationTrunk n) else w := rfl

theorem State.silenced_frame : (s.silenced n).setup = s.setup ∧ (s.silenced n).error = s.error ∧
    (s.silenced n).field = s.field.setStation n ((s.station n).silenced (s.roster n)) := by
  have kept := RecordsAndBoard.setStale n true (s.updStation n (Station.silenced (s.roster n)))
  exact ⟨kept.setup, kept.error, kept.field⟩

theorem State.silenced_station (m : StationId) : (s.silenced n).station m =
    if n = m then (s.station n).silenced (s.roster n) else s.station m := by
  obtain ⟨-, -, hfield⟩ := s.silenced_frame n
  exact (congrArg (fun f => f.station m) hfield).trans (Field.station_setStation ..)

/-- What a census trigger and the end of an operation leave of a station that has entered SILENT. -/
theorem State.enterSilent_frame (trigger : Bool) :
    let u := s.enterSilent n trigger
    let w := (s.silenced n).loseStationOp n .lostStation
    u.setup = w.setup ∧ u.faults = w.faults ∧ u.board = w.board ∧ ∀ m, u.station m = w.station m := by
  dsimp only
  rw [State.enterSilent_eq]
  dsimp only
  split_ifs
  · exact State.triggerCensus_frame ..
  · exact ⟨rfl, rfl, rfl, fun _ => rfl⟩

theorem State.enterSilent_setup (trigger : Bool) : (s.enterSilent n trigger).setup = s.setup := by
  obtain ⟨hsetup, -⟩ := s.enterSilent_frame n trigger
  exact hsetup.trans ((State.loseStationOp_setup ..).trans (s.silenced_frame n).1)

variable {n s} (trigger : Bool)

/-- R111, R157: the station is SILENT with no operation, and no other station changes. -/
theorem State.enterSilent_station (h : s.field.OpsAgree) (m : StationId) : (s.enterSilent n trigger).station m =
    if n = m then { (s.station n).silenced (s.roster n) with op := none } else s.station m := by
  obtain ⟨-, -, hfield⟩ := s.silenced_frame n
  have agree : ∀ o, ((s.silenced n).station n).op = some o →
      ∃ x, (s.silenced n).field.ops.find o = some x ∧ x.station = n := fun o ho => by
    rw [State.silenced_station, if_pos rfl] at ho
    rw [hfield]
    exact h n o ho
  obtain ⟨-, -, -, hstation⟩ := s.enterSilent_frame n trigger
  rw [hstation, State.loseStationOp_station_of_agree _ agree, State.silenced_station]
  split_ifs <;> rfl

theorem State.enterSilent_staleAt (h : s.faults.Sound) : (s.enterSilent n trigger).faults.StaleAt n true := by
  obtain ⟨-, hfaults, -⟩ := s.enterSilent_frame n trigger
  rw [hfaults]
  exact State.loseStationOp_staleAt _
    (State.setStale_staleAt n true (s := s.updStation n (Station.silenced (s.roster n))) h)

/-- R34: the marks that the station's records take, before its incident. -/
theorem State.silenced_marks (hb : s.board.Arranged) : ∃ b : Board, s.board.Remarked b ∧ b.Arranged ∧
    (s.silenced n).board = Board.faultOf s.setup (.station n) .silent b := by
  let t := s.updStation n (Station.silenced (s.roster n))
  refine ⟨(t.setStale n true).board, t.setStale_remarked n true, State.Arranged.setStale (s := t) hb n true, ?_⟩
  exact congrArg (fun c => Board.faultOf c (.station n) .silent (t.setStale n true).board)
    (RecordsAndBoard.setStale n true t).setup

theorem State.enterSilent_remarked : (s.silenced n).board.Remarked (s.enterSilent n trigger).board := by
  obtain ⟨-, -, hboard, -⟩ := s.enterSilent_frame n trigger
  rw [hboard]
  exact State.loseStationOp_remarked n (s.silenced n) _

/-- R45, R52: a station without a live incident has one opened. -/
theorem State.enterSilent_opens (hb : s.board.Arranged)
    (h : ∀ i y, s.board.incident i = some y → y.subject = .station n → y.live = false) :
    ∃ i y, s.board.freshRecord = some i ∧ (s.enterSilent n trigger).board.incident i = some y ∧
      InfraOpened s.setup (.station n) .silent y := by
  obtain ⟨b, hmarked, hbb, hboard⟩ := State.silenced_marks (n := n) hb
  obtain ⟨i, hi⟩ := hb.exists_freshRecord
  have hnone : b.liveOf (.station n) = none := Option.eq_none_iff_forall_ne_some.2 fun ⟨j, y⟩ hj => by
    obtain ⟨hy, hsub, hlive⟩ := hbb.liveOf_iff.1 hj
    obtain ⟨x, g, hx, rfl⟩ := hmarked.of_some hy
    exact Bool.false_ne_true ((h j x hx hsub).symm.trans hlive)
  have hopened : (s.silenced n).board.incident i =
      some (reweigh s.setup (newIncident s.setup (.station n) .infra (some .silent))) := by
    rw [hboard, Board.faultOf_of_fresh hnone (hmarked.freshRecord hb.rising hbb.rising hi)]
    exact Board.openAt_incident ..
  obtain ⟨g, hg⟩ := (State.enterSilent_remarked (n := n) (s := s) trigger).incident_some hopened
  exact ⟨i, _, hi, hg, infraOpened_newIncident ..⟩

/-- R52, R56: the fault of a subject leaves its live incident at fault: a RESTORED one is reopened. -/
theorem Board.faultOf_incident {c : Setup} {subject : Subject} {worst : Condition} {b : Board} (hb : b.Arranged)
    {i : IncidentId} {x : Incident} (hx : b.incident i = some x) (hsub : x.subject = subject) (hlive : x.live = true) :
    ∃ urgency, (Board.faultOf c subject worst b).incident i = some { reopen x with urgency } := by
  rw [Board.faultOf_of_live (hb.liveOf_iff.2 ⟨hx, hsub, hlive⟩)]
  split_ifs with hs
  · exact ⟨_, (Board.commit_incident ..).trans (if_pos rfl)⟩
  · exact ⟨x.urgency, by rw [hx, reopen, if_neg hs]⟩

/-- R56: a live incident that is no longer RESTORED is at fault. -/
theorem Incident.atFault_of_reopened {x y : Incident} (hs : y.state = x.reopenedState) (h : x.live = true) :
    y.atFault = true := by
  have hlive := Incident.live_iff.1 h
  rw [Incident.atFault, hs, Incident.reopenedState]
  cases hx : x.state with
  | opened => rfl
  | offered => rfl
  | assigned => rfl
  | restored =>
    rw [if_pos rfl]
    split_ifs <;> rfl
  | closed => exact absurd hx hlive

/-- R52, R56: a station's live incident stays live and is at fault. -/
theorem State.enterSilent_reopens (hb : s.board.Arranged) {i : IncidentId} {y : Incident}
    (hy : s.board.incident i = some y) (hsub : y.subject = .station n) (hlive : y.live = true) :
    ∃ z, (s.enterSilent n trigger).board.incident i = some z ∧ z.atFault = true ∧ z.subject = .station n ∧
      z.openedAt = y.openedAt ∧ z.assigned = y.assigned ∧ z.group = y.group ∧ z.state = y.reopenedState ∧
      (y.state = .restored → z.restoredAt = none ∧ z.closeDelay = none) := by
  obtain ⟨b, hmarked, hbb, hboard⟩ := State.silenced_marks (n := n) hb
  obtain ⟨f, hf⟩ := hmarked.incident_some hy
  obtain ⟨urgency, hu⟩ := Board.faultOf_incident (c := s.setup) (worst := .silent) hbb hf hsub hlive
  rw [← hboard, reopen_eq] at hu
  obtain ⟨g, hg⟩ := (State.enterSilent_remarked (n := n) (s := s) trigger).incident_some hu
  exact ⟨_, hg, Incident.atFault_of_reopened (x := y) rfl hlive, hsub, rfl, rfl, rfl, rfl,
    fun hs => ⟨if_pos hs, if_pos hs⟩⟩

end

/-! ## The parts of O46 -/

/-- R34, log entry 10: one record's flag changed, with its member's marks. -/
theorem State.setStale_cases {n : StationId} {stale : Bool} {s : State} (hs : s.faults.Sound)
    {front rest : List FaultRecord} {r : FaultRecord} (hl : s.faults.records = front ++ r :: rest) (hn : r.station = n)
    (hr : r.stale ≠ stale) (hfront : ∀ q ∈ front, q.station = n → q.stale = stale) :
    let v : State := { s with faults := { s.faults with records := front ++ { r with stale } :: rest } }
    ((∀ i, r.incident = some i → s.board.incident i = none) → s.setStale n stale = v.setStale n stale) ∧
    ∀ i y, r.incident = some i → s.board.incident i = some y →
      s.setStale n stale = State.setStale n stale { v with board := s.board.commit .table i { y with
        members := y.members.map fun m =>
          if m.asset = r.asset then { m with stale, underOp := r.underOp } else m } } := by
  have hwrite : s.writeRecord { r with stale } =
      { s with faults := { s.faults with records := front ++ { r with stale } :: rest } } :=
    congrArg (fun f => { s with faults := f }) (hs.write_eq (x := { r with stale }) hl rfl)
  rw [State.setStale_of_first hs hl hn hr hfront, hwrite]
  refine ⟨fun hfree => congrArg (State.setStale n stale) ?_, fun i y hi hy => congrArg (State.setStale n stale) ?_⟩
  · unfold State.marksHandoff
    cases hi : r.incident with
    | none => rfl
    | some i => simp only [State.onBoard, Board.changeMarks, hfree i hi]
  · simp only [State.marksHandoff, hi, State.onBoard, Board.changeMarks, hy]
    rfl

/-- Settles O46: the schedule by the station's mode, a station entering SILENT as its own change, its records, its incident
and then its operation, and the stale flags record by record. -/
theorem intervalExpiryDebitsOrWakes : Obligations.IntervalExpiryDebitsOrWakes := by
  refine ⟨fun n e s h he => ?_, fun n trigger s => ?_, fun t s => ?_, fun n s => ?_, fun n stale s hs => ?_⟩
  · have row := intervalExpiry_does h he
    refine ⟨fun hm hh hb => ?_, fun hm hh hb => ?_, fun hm span hspan hc => ?_, fun hm span hspan hc => ?_⟩
    · rwa [State.intervalExpires_of_active hm hh, State.debit_of_above h hb] at row
    · rwa [State.intervalExpires_of_active hm hh, State.debit_of_floor hb] at row
    · rwa [State.intervalExpires_of_asleep hm, State.countSleep_of_short h hspan hc] at row
    · rwa [State.intervalExpires_of_asleep hm, State.countSleep_of_full h hspan hc] at row
  · refine ⟨s.enterSilent_setup n trigger, fun hops => ⟨?_, fun m hm => ?_⟩, State.enterSilent_staleAt trigger,
      fun hb => ⟨State.enterSilent_opens trigger hb, fun i y => State.enterSilent_reopens trigger hb⟩, ?_⟩
    · exact (State.enterSilent_station trigger hops n).trans (if_pos rfl)
    · exact (State.enterSilent_station trigger hops m).trans (if_neg hm.symm)
    · obtain ⟨hsetup, herror, hfield⟩ := s.silenced_frame n
      refine ⟨s.silenced n, hsetup, herror, hfield, ?_⟩
      have hop : ((s.silenced n).station n).op = (s.station n).op := by rw [State.silenced_station, if_pos rfl]; rfl
      rw [State.enterSilent_eq]
      cases ho : (s.station n).op with
      | none => rw [State.loseStationOp_of_none (hop.trans ho)]
      | some o =>
        rw [State.loseStationOp_of_some (hop.trans ho)]
        rfl
  · refine ⟨State.triggerCensus_of_not_running, fun hr => ⟨fun hbusy => ?_, fun hfree => ?_⟩⟩
    · exact State.triggerCensus_of_busy hr (Chain.busy_iff.2 hbusy)
    · rw [State.triggerCensus_of_free hr (mt Chain.busy_iff.1 hfree)]
      exact ⟨State.startCensus_of_room hr, State.startCensus_of_full⟩
  · obtain ⟨hsetup, hfield, herror⟩ := s.nowActive_frame n
    exact ⟨hsetup, hfield, herror, State.setStale_staleAt n false, fun hb i x => State.nowActive_incident hb, rfl⟩
  · have kept := RecordsAndBoard.setStale n stale s
    exact ⟨kept.setup, kept.field, kept.error, kept.marks, kept.dropped, State.setStale_records n stale hs,
      State.setStale_of_staleAt hs, fun front r rest hl hn hr hfront => State.setStale_cases hs hl hn hr hfront⟩

end Sys2Proof.Machine
end

section
/-! PROOFS. CHECK_IN, SLEEP, BYPASS_ON and BYPASS_OFF (R109, R112, R117): the frame taken and screened by its label (R132,
R145), the hearing (R107), and what each frame then does. -/

namespace Sys2Proof.Machine

/-! ## A frame taken and screened (R132, R145) -/

section

variable {s : State} {t : TrunkId}

theorem oldestOf_of_head {b : Byte} {more : List Byte} {k : UpType} (h : (s.trunk t).buffer.head? = some (b :: more))
    (hk : upTypeOf b = some k) : oldestOf s t k = some (b :: more) := by
  obtain ⟨rest, hrest⟩ := List.head?_eq_some_iff.1 h
  simp only [oldestOf, hrest, hk, if_true]

theorem screen_of_eq {label : Byte} {p : Position} (hp : label.toNat = p.val + 1)
    (hc : (s.roster (stationAt t p)).count ≠ 0) : screen s t label = some (stationAt t p) := by
  simp only [screen, positionOf_of_eq hp]
  exact if_neg (mt Roster.vacant_iff.1 hc)

theorem screen_of_out {label : Byte} (h : label.toNat = 0 ∨ 24 < label.toNat ∨
    ∃ p : Position, label.toNat = p.val + 1 ∧ (s.roster (stationAt t p)).count = 0) : screen s t label = none := by
  rcases h with h | h | ⟨p, hp, hc⟩
  · simp only [screen, positionOf_of_out (.inl h)]
  · simp only [screen, positionOf_of_out (.inr h)]
  · simp only [screen, positionOf_of_eq hp]
    exact if_pos (Roster.vacant_iff.2 hc)

variable {i : Instr} {k : UpType} {b label : Byte} {more : List Byte} {f : List Byte → StationId → Bool → State → State}
  (hi : exec i s = .next (s.takeOldest t k fun frame s => s.screened t frame (f frame)))
  (h : (s.trunk t).buffer.head? = some (b :: label :: more)) (hk : upTypeOf b = some k)
include hi h hk

/-- R132, R145: a frame of the type at the head of the buffer is taken, and screened in the state without it. -/
theorem does_screened : Does i s ((s.take t).screened t (b :: label :: more) (f (b :: label :: more))) := by
  refine does_event (f := fun s => (s.take t).screened t (b :: label :: more) (f (b :: label :: more))) ?_
  rw [hi, State.takeOldest, oldestOf_of_head h hk]

theorem does_of_unknown (hout : label.toNat = 0 ∨ 24 < label.toNat ∨
    ∃ p : Position, label.toNat = p.val + 1 ∧ (s.roster (stationAt t p)).count = 0) :
    Does i s ((s.take t).errorOn t .unknownLabel (.label t label.toNat)) := by
  have hscreen : screen (s.take t) t label = none := screen_of_out hout
  have row := does_screened hi h hk
  simp only [State.screened, hscreen] at row
  exact row

theorem does_of_heard {p : Position} (hp : label.toNat = p.val + 1) (hc : (s.roster (stationAt t p)).count ≠ 0) :
    Does i s (f (b :: label :: more) (stationAt t p) (wakes ((s.take t).station (stationAt t p)).mode)
      ((s.take t).hear (stationAt t p))) := by
  have hscreen : screen (s.take t) t label = some (stationAt t p) := screen_of_eq hp hc
  simpa only [State.screened, hscreen] using does_screened hi h hk

end

/-! ## The hearing (R107) -/

theorem wakes_iff {m : Mode} : wakes m = true ↔ m = .silent ∨ m = .pending ∨ m = .asleep := by
  cases m <;> simp [wakes]

theorem wakes_eq_false_iff {m : Mode} : wakes m = false ↔ m = .active ∨ m = .unreached ∨ m = .vacant := by
  cases m <;> simp [wakes]

section

variable {n : StationId} {s : State}

theorem State.hear_of_woken (h : wakes (s.station n).mode = true) : s.hear n =
    (s.updStation n (heardFields s.setup.time (s.scheduleFrom n))).nowActive n := if_pos h

/-- R107: a station that the hearing does not move has its time of hearing alone. -/
theorem State.hear_of_kept (h : (s.station n).mode = .active ∨ (s.station n).mode = .unreached ∨
    (s.station n).mode = .vacant) : s.hear n = s.updStation n fun y => { y with lastHeard := some s.setup.time } := by
  refine (if_neg (Bool.eq_false_iff.1 (wakes_eq_false_iff.2 h))).trans (State.updStation_congr ?_)
  rcases h with h | h | h <;> simp [heardFields, h]

/-- R107: a SILENT or PENDING station starts its schedule from now with a balance of 0. -/
theorem State.hear_of_lost (h : (s.station n).mode = .silent ∨ (s.station n).mode = .pending) : s.hear n =
    (s.updStation n fun y => { y with
      lastHeard := some s.setup.time, mode := .active, balance := 0
      nextExpiry := if (s.station n).hold.held = true then none
        else some (s.setup.time + (s.roster n).interval) }).nowActive n := by
  refine (State.hear_of_woken (wakes_iff.2 (by rcases h with h | h <;> simp [h]))).trans ?_
  refine congrArg (State.nowActive n) (State.updStation_congr ?_)
  rcases h with h | h <;> simp [heardFields, h, State.scheduleFrom]

/-- R107: an ASLEEP station wakes and keeps its schedule. -/
theorem State.hear_of_asleep (h : (s.station n).mode = .asleep) : s.hear n =
    (s.updStation n fun y => { y with
      lastHeard := some s.setup.time, mode := .active, wakeExtra := true, sleepCount := 0, span := none
      nextExpiry := if y.hold.held = true then none else y.nextExpiry }).nowActive n := by
  refine (State.hear_of_woken (wakes_iff.2 (by simp [h]))).trans ?_
  exact congrArg (State.nowActive n) (State.updStation_congr (by simp [heardFields, h]))

theorem State.nowActive_station (n m : StationId) (s : State) : (s.nowActive n).station m = s.station m :=
  congrArg (fun f => f.station m) (s.nowActive_frame n).2.1

theorem State.hear_frame (n : StationId) (s : State) : (s.hear n).setup = s.setup ∧ (s.hear n).error = s.error ∧
    (s.hear n).field = s.field.setStation n (heardFields s.setup.time (s.scheduleFrom n) (s.station n)) := by
  dsimp only [State.hear]
  split_ifs
  · obtain ⟨hsetup, hfield, herror⟩ :=
      (s.updStation n (heardFields s.setup.time (s.scheduleFrom n))).nowActive_frame n
    exact ⟨hsetup, herror, hfield⟩
  · exact ⟨rfl, rfl, rfl⟩

theorem State.hear_station (n m : StationId) (s : State) : (s.hear n).station m =
    if n = m then heardFields s.setup.time (s.scheduleFrom n) (s.station n) else s.station m := by
  obtain ⟨-, -, hfield⟩ := s.hear_frame n
  exact (congrArg (fun f => f.station m) hfield).trans (Field.station_setStation ..)

theorem State.hear_trunk (n : StationId) (s : State) (t : TrunkId) : (s.hear n).trunk t = s.trunk t := by
  obtain ⟨-, -, hfield⟩ := s.hear_frame n
  exact congrArg (fun f => f.trunks[t]) hfield

theorem State.hear_roster (n m : StationId) (s : State) : (s.hear n).roster m = s.roster m :=
  congrArg (fun c : Setup => c.active.station m) (s.hear_frame n).1

/-- R107: the hearing leaves the hold set, and moves only a station that it wakes. -/
theorem State.hear_hold (n : StationId) (s : State) : ((s.hear n).station n).hold = (s.station n).hold := by
  rw [State.hear_station, if_pos rfl]
  cases h : (s.station n).mode <;> simp [heardFields, h]

theorem State.hear_mode_of_kept (h : wakes (s.station n).mode = false) :
    ((s.hear n).station n).mode = (s.station n).mode := by
  rw [State.hear_of_kept (wakes_eq_false_iff.1 h), State.station_updStation_self]

/-- R34, R52, R107: the records and the incident of a station that the hearing moves to ACTIVE. -/
theorem State.hear_wakes (h : wakes (s.station n).mode = true) :
    (s.faults.Sound → (s.hear n).faults.records = s.faults.records.map fun r =>
      if r.station = n then { r with stale := false } else r) ∧
    (s.board.Arranged → ∀ i y, s.board.incident i = some y → y.subject = .station n → y.atFault = true →
      ∃ z, (s.hear n).board.incident i = some z ∧ z.restoredAt = some s.setup.time ∧
        z.state = if s.setup.active.params.closeDelay = 0 then .closed else .restored) := by
  rw [State.hear_of_woken h]
  exact ⟨State.setStale_records n false (s := s.updStation n _),
    fun hb i y => State.nowActive_incident (s := s.updStation n _) hb⟩

end

/-! ## CHECK_IN (R109) -/

section

variable {n : StationId} {s : State}

theorem State.creditCheckIn_of_earned (hm : (s.station n).mode = .active) (hh : (s.station n).hold.held = false) :
    s.creditCheckIn n false =
      s.updStation n fun y => { y with balance := min 8 (y.balance + 1), wakeExtra := false } := if_pos ⟨rfl, hm, hh⟩

theorem State.creditCheckIn_of_none {moved : Bool}
    (h : moved = true ∨ (s.station n).mode ≠ .active ∨ (s.station n).hold.held = true) : s.creditCheckIn n moved = s :=
  if_neg fun ⟨hmoved, hm, hh⟩ => by
    rcases h with h | h | h
    · exact Bool.false_ne_true (hmoved.symm.trans h)
    · exact h hm
    · exact Bool.false_ne_true (hh.symm.trans h)

/-- R109: the check-in of an ACTIVE station that is not held earns a unit. -/
theorem State.checkIn_earns (hm : (s.station n).mode = .active) (hh : (s.station n).hold.held = false) :
    (s.hear n).creditCheckIn n (wakes (s.station n).mode) =
      (s.hear n).updStation n fun y => { y with balance := min 8 (y.balance + 1), wakeExtra := false } := by
  have hkept : wakes (s.station n).mode = false := by rw [hm]; rfl
  rw [hkept]
  exact State.creditCheckIn_of_earned ((State.hear_mode_of_kept hkept).trans hm) (by rw [State.hear_hold, hh])

theorem State.checkIn_earns_none (h : (s.station n).mode ≠ .active ∨ (s.station n).hold.held = true) :
    (s.hear n).creditCheckIn n (wakes (s.station n).mode) = s.hear n := by
  refine State.creditCheckIn_of_none ?_
  rcases h with h | h
  · cases hw : wakes (s.station n).mode with
    | true => exact .inl rfl
    | false => exact .inr (.inl (by rwa [State.hear_mode_of_kept hw]))
  · exact .inr (.inr (by rw [State.hear_hold, h]))

end

/-! ## SLEEP (R112) -/

section

variable {n : StationId} {span k : Nat} {s : State}

theorem State.judgeSleep_of_denied (h : sleepDenial (s.roster n) (s.station n) span = some k) :
    s.judgeSleep n span = s.hand (stationTrunk n) (toStation n (.sleepDeny k)) := by
  simp only [State.judgeSleep, h]

variable (h : sleepDenial (s.roster n) (s.station n) span = none)
include h

theorem State.judgeSleep_of_accepted (ha : s.answerTo (stationTrunk n) = .accepted) : s.judgeSleep n span =
    (s.hand (stationTrunk n) (toStation n (.sleepGrant span))).updStation n fun z =>
      { z with mode := .asleep, sleepCount := 0, span := some span } := by
  simp only [State.judgeSleep, h, ha, if_true]

theorem State.judgeSleep_of_no_room (ha : s.answerTo (stationTrunk n) ≠ .accepted) : s.judgeSleep n span = s := by
  simp only [State.judgeSleep, h, ha, if_false]

end

/-- R112: the tests in order; the first that fails gives its number. -/
theorem sleepDenial_cases (r : Roster) (x : Station) (span : Nat) :
    (x.mode ≠ .active → sleepDenial r x span = some 1) ∧
    (x.mode = .active →
      (x.hold.held = true → sleepDenial r x span = some 2) ∧
      (x.hold.held = false →
        (x.balance < 0 → sleepDenial r x span = some 3) ∧
        (0 ≤ x.balance →
          (x.wakeExtra = true → sleepDenial r x span = some 4) ∧
          (x.wakeExtra = false →
            (x.op ≠ none → sleepDenial r x span = some 5) ∧
            (x.op = none →
              (span = 0 ∨ r.sleepLimit < span → sleepDenial r x span = some 6) ∧
              (1 ≤ span → span ≤ r.sleepLimit → sleepDenial r x span = none)))))) := by
  unfold sleepDenial
  refine ⟨fun hm => if_pos hm, fun hm => ⟨fun hh => ?_, fun hh => ⟨fun hb => ?_, fun hb => ⟨fun hw => ?_, fun hw =>
    ⟨fun ho => ?_, fun ho => ⟨fun hs => ?_, fun h1 h2 => ?_⟩⟩⟩⟩⟩⟩
  · simp [hm, hh]
  · simp [hm, hh, hb]
  · simp [hm, hh, not_lt.2 hb, hw]
  · simp [hm, hh, not_lt.2 hb, hw, Option.isSome_iff_ne_none.2 ho]
  · simp [hm, hh, not_lt.2 hb, hw, ho, hs]
  · simp [hm, hh, not_lt.2 hb, hw, ho, not_lt.2 h2, Nat.one_le_iff_ne_zero.1 h1]

/-- R131, R132: taking a frame leaves what decides whether the trunk accepts a frame (R133). -/
theorem Trunk.answerTo_pop (x : Trunk) : x.pop.answerTo = x.answerTo := by
  dsimp only [Trunk.pop, Trunk.sendGrants]
  split_ifs <;> rfl

theorem State.answerTo_heard (t : TrunkId) (n : StationId) (s : State) :
    ((s.take t).hear n).answerTo t = s.answerTo t := by
  rw [State.answerTo, State.hear_trunk]
  exact (congrArg Trunk.answerTo (s.trunk_updTrunk_self t Trunk.pop)).trans (Trunk.answerTo_pop _)

theorem toStation_stationAt (t : TrunkId) (p : Position) (x : Payload) :
    toStation (stationAt t p) x = ⟨p.val + 1, x⟩ := by rw [toStation, labelOf, stationPosition_stationAt]; rfl

section

variable {t : TrunkId} {label span : Byte} {more : List Byte} {s : State} {p : Position}
  (h : (s.trunk t).buffer.head? = some (0x03#8 :: label :: span :: more)) (hp : label.toNat = p.val + 1)
  (hc : (s.roster (stationAt t p)).count ≠ 0)
include h hp hc

theorem sleep_does : Does (.sleep t) s (((s.take t).hear (stationAt t p)).judgeSleep (stationAt t p) span.toNat) := by
  have row := does_of_heard (i := .sleep t) rfl h rfl hp hc
  exact row

/-- R112: a test that fails is answered with its number. -/
theorem sleep_denied {k : Nat} (hk : sleepDenial (s.roster (stationAt t p))
      (((s.take t).hear (stationAt t p)).station (stationAt t p)) span.toNat = some k) :
    Does (.sleep t) s (((s.take t).hear (stationAt t p)).hand t ⟨p.val + 1, .sleepDeny k⟩) := by
  have row := sleep_does h hp hc
  rwa [State.judgeSleep_of_denied (by rwa [State.hear_roster]), stationTrunk_stationAt, toStation_stationAt] at row

variable (hg : sleepDenial (s.roster (stationAt t p))
      (((s.take t).hear (stationAt t p)).station (stationAt t p)) span.toNat = none)
include hg

/-- R112: a request that passes every test is granted where the trunk takes the answer. -/
theorem sleep_granted (hr : (s.trunk t).state = .running) (hq : (s.trunk t).queue.length < 8) :
    Does (.sleep t) s ((((s.take t).hear (stationAt t p)).hand t ⟨p.val + 1, .sleepGrant span.toNat⟩).updStation
      (stationAt t p) fun z => { z with mode := .asleep, sleepCount := 0, span := some span.toNat }) := by
  have row := sleep_does h hp hc
  have ha : ((s.take t).hear (stationAt t p)).answerTo t = .accepted := by
    rw [State.answerTo_heard]
    exact Trunk.answerTo_eq_accepted.2 ⟨hr, hq⟩
  rwa [State.judgeSleep_of_accepted (by rwa [State.hear_roster]) (by rwa [stationTrunk_stationAt]),
    stationTrunk_stationAt, toStation_stationAt] at row

theorem sleep_unanswered (hno : (s.trunk t).state ≠ .running ∨ 8 ≤ (s.trunk t).queue.length) :
    Does (.sleep t) s ((s.take t).hear (stationAt t p)) := by
  have row := sleep_does h hp hc
  have ha : ((s.take t).hear (stationAt t p)).answerTo t ≠ .accepted := by
    rw [State.answerTo_heard]
    refine mt Trunk.answerTo_eq_accepted.1 fun ⟨hr, hq⟩ => ?_
    exact hno.elim (fun hn => hn hr) fun hn => absurd hq (Nat.not_lt.2 hn)
  rwa [State.judgeSleep_of_no_room (by rwa [State.hear_roster]) (by rwa [stationTrunk_stationAt])] at row

end

/-- Settles O49: each frame by its screening and its hearing; the request for sleep by the tests in order; and the hearing by
the mode it finds. -/
theorem stationFrames : Obligations.StationFrames := by
  refine ⟨fun t label span more s => ⟨fun hout => ⟨fun h => ?_, fun h => ?_, fun h => ?_, fun h => ?_⟩,
    fun p hp hc => ⟨fun h => ?_, fun h => ?_, fun h => ?_, fun h => ?_⟩⟩, fun n s => ?_⟩
  · exact does_of_unknown (i := .checkIn t) rfl h rfl hout
  · exact does_of_unknown (i := .sleep t) rfl h rfl hout
  · exact does_of_unknown (i := .bypassOn t) rfl h rfl hout
  · exact does_of_unknown (i := .bypassOff t) rfl h rfl hout
  · have row := does_of_heard (i := .checkIn t) (f := fun _ => State.creditCheckIn) rfl h rfl hp hc
    refine ⟨fun hm hh => ?_, fun hnone => ?_⟩
    · rwa [State.checkIn_earns (s := s.take t) hm hh] at row
    · rwa [State.checkIn_earns_none (s := s.take t) hnone] at row
  · obtain ⟨hmode, htests⟩ := sleepDenial_cases (s.roster (stationAt t p))
      (((s.take t).hear (stationAt t p)).station (stationAt t p)) span.toNat
    refine ⟨fun hm => sleep_denied h hp hc (hmode hm), fun hm => ?_⟩
    obtain ⟨hheld, htests⟩ := htests hm
    refine ⟨fun hh => sleep_denied h hp hc (hheld hh), fun hh => ?_⟩
    obtain ⟨hbalance, htests⟩ := htests hh
    refine ⟨fun hb => sleep_denied h hp hc (hbalance hb), fun hb => ?_⟩
    obtain ⟨hextra, htests⟩ := htests hb
    refine ⟨fun hw => sleep_denied h hp hc (hextra hw), fun hw => ?_⟩
    obtain ⟨hop, htests⟩ := htests hw
    refine ⟨fun ho => sleep_denied h hp hc (hop ho), fun ho => ?_⟩
    obtain ⟨hspan, hgranted⟩ := htests ho
    refine ⟨fun hs => sleep_denied h hp hc (hspan hs), fun h1 h2 => ?_⟩
    exact ⟨sleep_unanswered h hp hc (hgranted h1 h2), sleep_granted h hp hc (hgranted h1 h2)⟩
  · exact does_of_heard (i := .bypassOn t) rfl h rfl hp hc
  · exact does_of_heard (i := .bypassOff t) rfl h rfl hp hc
  · obtain ⟨hsetup, herror, hfield⟩ := s.hear_frame n
    refine ⟨fun m hm => ?_, (congrArg Field.trunks hfield :), herror, State.hear_of_kept, fun h => ?_, fun h => ?_,
      State.hear_of_lost, State.hear_of_asleep, fun h => ?_⟩
    · rw [State.hear_station, if_neg hm.symm]
    · rw [State.hear_of_lost h, State.nowActive_station, State.station_updStation_self]
    · rw [State.hear_of_asleep h, State.nowActive_station, State.station_updStation_self]
    · exact State.hear_wakes (wakes_iff.2 h)

end Sys2Proof.Machine
end

section
/-! SUPPORT. One trunk (R124): what the trunk interface's operations make of its queue, credits and buffer (R131 to R133), and
that they keep it within its bounds. -/

namespace Sys2Proof.Machine

/-! ## The frame in transmission and the send queue (R133) -/

section

variable {x : Trunk} {f : DownFrame}

/-- R133: the frame at the head of the queue becomes the frame in transmission. -/
theorem Trunk.pump_of_ready {rest : List DownFrame} (hq : x.queue = f :: rest) (hr : x.state = .running)
    (ht : x.transmitting = none) (hc : 1 ≤ x.downCredit) :
    x.pump = { x with queue := rest, transmitting := some f, downCredit := x.downCredit - 1 } := by
  simp only [Trunk.pump, hq]
  exact if_pos ⟨hr, ht, hc⟩

theorem Trunk.pump_of_blocked
    (h : x.queue = [] ∨ x.state ≠ .running ∨ x.transmitting ≠ none ∨ x.downCredit = 0) : x.pump = x := by
  unfold Trunk.pump
  split
  · rfl
  · next hq =>
    refine if_neg fun ⟨hr, ht, hc⟩ => ?_
    rcases h with h | h | h | h
    · exact List.cons_ne_nil _ _ (hq.symm.trans h)
    · exact h hr
    · exact h ht
    · omega

/-- R133: a frame begins, or the trunk stays as it is. -/
theorem Trunk.pump_cases (x : Trunk) : x.pump = x ∨ ∃ f rest, x.queue = f :: rest ∧
    x.pump = { x with queue := rest, transmitting := some f, downCredit := x.downCredit - 1 } := by
  unfold Trunk.pump
  split
  · exact .inl rfl
  · next f rest hq =>
    split_ifs
    · exact .inr ⟨f, rest, hq, rfl⟩
    · exact .inl rfl

theorem Trunk.hand_of_room (hr : x.state = .running) (hq : x.queue.length < 8) :
    x.hand f = ({ x with queue := x.queue ++ [f] } : Trunk).pump := if_pos (Trunk.answerTo_eq_accepted.2 ⟨hr, hq⟩)

theorem Trunk.not_accepted (h : x.state ≠ .running ∨ 8 ≤ x.queue.length) : x.answerTo ≠ .accepted := fun ha => by
  obtain ⟨hr, hq⟩ := Trunk.answerTo_eq_accepted.1 ha
  exact h.elim (fun hn => hn hr) fun hn => absurd hq (Nat.not_lt.2 hn)

theorem Trunk.hand_of_refused (h : x.state ≠ .running ∨ 8 ≤ x.queue.length) : x.hand f = x :=
  if_neg (Trunk.not_accepted h)

/-- R131, R133: what a frame's beginning leaves of the trunk. -/
theorem Trunk.pump_frame (x : Trunk) :
    x.pump.state = x.state ∧ x.pump.upCredit = x.upCredit ∧ x.pump.buffer = x.buffer := by
  rcases x.pump_cases with h | ⟨f, rest, -, h⟩ <;> rw [h] <;> exact ⟨rfl, rfl, rfl⟩

theorem Trunk.hand_frame (f : DownFrame) (x : Trunk) :
    (x.hand f).state = x.state ∧ (x.hand f).upCredit = x.upCredit ∧ (x.hand f).buffer = x.buffer := by
  unfold Trunk.hand
  split_ifs
  · exact Trunk.pump_frame { x with queue := x.queue ++ [f] }
  · exact ⟨rfl, rfl, rfl⟩

/-! ## GRANTs (R131) -/

theorem Trunk.sendGrants_of_running (h : x.state = .running) : x.sendGrants =
    { x with upCredit := x.upCredit + 2 * ((6 - x.buffer.length - x.upCredit) / 2) } := if_pos h

theorem Trunk.sendGrants_of_not_running (h : x.state ≠ .running) : x.sendGrants = x := if_neg h

end

/-! ## Bounds kept (R124, R131, R133) -/

namespace Trunk.Sound

section

variable {x : Trunk} (h : x.Sound)
include h

theorem pump : x.pump.Sound := by
  rcases x.pump_cases with hp | ⟨f, rest, hq, hp⟩ <;> rw [hp]
  · exact h
  · have hlen := h.queue
    rw [hq, List.length_cons] at hlen
    exact ⟨h.up, (Nat.sub_le ..).trans h.down, (Nat.le_succ _).trans hlen⟩

theorem hand (f : DownFrame) : (x.hand f).Sound := by
  by_cases ha : x.answerTo = .accepted
  · obtain ⟨hr, hq⟩ := Trunk.answerTo_eq_accepted.1 ha
    rw [Trunk.hand_of_room hr hq]
    exact pump ⟨h.up, h.down, by simpa using hq⟩
  · rwa [show x.hand f = x from if_neg ha]

/-- R131: the GRANTs fill the free room and no more. -/
theorem sendGrants : x.sendGrants.Sound := by
  by_cases hr : x.state = .running
  · rw [Trunk.sendGrants_of_running hr]
    have hup := h.up
    exact ⟨by dsimp only; omega, h.down, h.queue⟩
  · rwa [Trunk.sendGrants_of_not_running hr]

theorem pop : x.pop.Sound := by
  have hup := h.up
  exact sendGrants (x := { x with buffer := x.buffer.tail })
    ⟨by simp only [List.length_tail]; omega, h.down, h.queue⟩

theorem count (e : TrunkError) : (x.count e).Sound := ⟨h.up, h.down, h.queue⟩

theorem enterStarting (time : Nat) (cause : StartCause) : (x.enterStarting time cause).Sound :=
  ⟨(Nat.le_add_right ..).trans h.up, h.down, h.queue⟩

theorem enterRunning : x.enterRunning.Sound :=
  sendGrants ⟨by have := h.up; dsimp only; omega, Nat.zero_le 6, h.queue⟩

theorem flush : x.flush.Sound :=
  ⟨by have := h.up; simp only [Trunk.flush]; omega, Nat.zero_le 6, Nat.zero_le 8⟩

theorem frameSent : x.frameSent.Sound := pump ⟨h.up, h.down, h.queue⟩

/-- R133: a GRANT that the trunk takes. -/
theorem granted (hc : x.downCredit ≤ 4) : ({ x with downCredit := x.downCredit + 2, watch := true } : Trunk).pump.Sound :=
  pump ⟨h.up, Nat.add_le_add_right hc 2, h.queue⟩

/-- R131: a frame that is closed with credit and kept. -/
theorem closed (hc : x.upCredit ≠ 0) (frame : List Byte) : ({ x with
    upCredit := x.upCredit - 1, assembly := none, watch := true
    buffer := x.buffer ++ [frame] } : Trunk).sendGrants.Sound := by
  have hup := h.up
  exact sendGrants ⟨by simp only [List.length_append, List.length_singleton]; omega, h.down, h.queue⟩

/-- R136: a frame that is closed with credit and dropped. -/
theorem dropped : ({ x with upCredit := x.upCredit - 1, assembly := none, watch := true } : Trunk).sendGrants.Sound := by
  have hup := h.up
  exact sendGrants ⟨by dsimp only; omega, h.down, h.queue⟩

end

end Trunk.Sound

theorem Field.TrunksSound.setTrunk {f : Field} (h : f.TrunksSound) {t : TrunkId} {x : Trunk} (hx : x.Sound) :
    (f.setTrunk t x).TrunksSound := fun u => by
  rw [Field.setTrunk_trunks, Vector.getElem_set_fin]
  split_ifs
  · exact hx
  · exact h u

theorem Field.TrunksSound.of_trunks {f g : Field} (h : f.TrunksSound) (ht : g.trunks = f.trunks) : g.TrunksSound :=
  fun t => by rw [ht]; exact h t

theorem Field.trunksSound_empty : ({} : Field).TrunksSound := fun t => by
  have empty : ({} : Field).trunks[t] = {} := Vector.getElem_replicate t.isLt
  rw [empty]
  exact ⟨Nat.zero_le 6, Nat.zero_le 6, Nat.zero_le 8⟩

/-! ## Operation fields (R157) -/

theorem Field.OpsAgree.of_ops {f g : Field} (h : f.OpsAgree) (hops : g.ops = f.ops)
    (hop : ∀ n, (g.station n).op = (f.station n).op ∨ (g.station n).op = none) : g.OpsAgree := fun n o ho => by
  rw [hops]
  rcases hop n with hn | hn
  · exact h n o (hn.symm.trans ho)
  · cases hn.symm.trans ho

theorem Field.opsAgree_of_none {f : Field} (h : ∀ n, (f.station n).op = none) : f.OpsAgree := fun n o ho => by
  cases (h n).symm.trans ho

theorem Field.opsAgree_empty : ({} : Field).OpsAgree := Field.opsAgree_of_none fun _ => rfl

/-- R157: an operation's record changed at its station. -/
theorem Field.OpsAgree.setOp {f : Field} (h : f.OpsAgree) {o : OpId} {x y : Op} (hx : f.ops.find o = some x)
    (hy : y.station = x.station) : (f.setOp o y).OpsAgree := fun n k hk => by
  obtain ⟨z, hz, hn⟩ := h n k hk
  rw [Field.setOp_ops, Table.find_put]
  split_ifs with hok
  · subst hok
    obtain rfl := Option.some.inj (hx.symm.trans hz)
    exact ⟨y, rfl, hy.trans hn⟩
  · exact ⟨z, hz, hn⟩

/-- R168: an operation's station cleared and its record freed. -/
theorem Field.OpsAgree.freeOp {f g : Field} (h : f.OpsAgree) {o : OpId} {x : Op} (hx : f.ops.find o = some x)
    (hops : g.ops = f.ops.erase o)
    (hop : ∀ n, (g.station n).op = if x.station = n then none else (f.station n).op) : g.OpsAgree := fun n k hk => by
  rw [hop] at hk
  split_ifs at hk with hn
  obtain ⟨z, hz, hzn⟩ := h n k hk
  have hne : o ≠ k := by
    rintro rfl
    obtain rfl := Option.some.inj (hx.symm.trans hz)
    exact hn hzn
  exact ⟨z, by rw [hops, Table.find_erase_ne _ hne, hz], hzn⟩

/-- R159: an operation taken at a free index. -/
theorem Field.OpsAgree.startOp {f g : Field} (h : f.OpsAgree) {o : OpId} {x : Op} (ho : f.ops.find o = none)
    (hops : g.ops = f.ops.put o x)
    (hop : ∀ n, (g.station n).op = if x.station = n then some o else (f.station n).op) : g.OpsAgree := fun n k hk => by
  rw [hop] at hk
  rw [hops, Table.find_put]
  split_ifs at hk with hn
  · obtain rfl := Option.some.inj hk
    exact ⟨x, if_pos rfl, hn⟩
  · obtain ⟨z, hz, hzn⟩ := h n k hk
    have hne : o ≠ k := by
      rintro rfl
      cases ho.symm.trans hz
    exact ⟨z, by rw [if_neg hne, hz], hzn⟩

/-- R157: the record that a start takes is free. -/
theorem Field.find_freeOpIndex {f : Field} {o : OpId} (h : f.freeOpIndex = some o) : f.ops.find o = none := by
  have := List.find?_some h
  simpa using this

end Sys2Proof.Machine
end

section
/-! SUPPORT. What the operations that the rows share keep of the field side: the trunks within their bounds, and every operation
field on an operation in flight at its station (R124, R131, R133, R157). -/

namespace Sys2Proof.Machine

/-! ## The fault table leaves the field side (R21 to R40) -/

@[simp] theorem State.leaveRecord_field (r : FaultRecord) (s : State) : (s.leaveRecord r).field = s.field := by
  unfold State.leaveRecord
  split <;> rfl

@[simp] theorem State.joinRecord_field (r : FaultRecord) (s : State) : (s.joinRecord r).field = s.field := rfl

@[simp] theorem State.removeAndLeave_field (r : FaultRecord) (s : State) : (s.removeAndLeave r).field = s.field :=
  State.leaveRecord_field r _

@[simp] theorem State.conditionHandoff_field (r : FaultRecord) (s : State) : (s.conditionHandoff r).field = s.field := by
  unfold State.conditionHandoff
  split <;> rfl

@[simp] theorem State.confirmRecord_field (r : FaultRecord) (s : State) : (s.confirmRecord r).field = s.field := rfl

@[simp] theorem State.beginRestore_field (r : FaultRecord) (s : State) : (s.beginRestore r).field = s.field := by
  dsimp only [State.beginRestore]
  split_ifs
  · exact State.removeAndLeave_field r s
  · rfl

@[simp] theorem State.settleSuspect_field (r : FaultRecord) (s : State) : (s.settleSuspect r).field = s.field := by
  unfold State.settleSuspect
  split_ifs <;> rfl

@[simp] theorem State.writeWithChange_field (x y : FaultRecord) (s : State) :
    (s.writeWithChange x y).field = s.field := by
  dsimp only [State.writeWithChange]
  split_ifs
  · rfl
  · exact State.conditionHandoff_field y _

@[simp] theorem State.countReport_field (r : Report) (s : State) : (s.countReport r).field = s.field := by
  unfold State.countReport
  split_ifs <;> rfl

@[simp] theorem State.reportOnNone_field (r : Report) (s : State) : (s.reportOnNone r).field = s.field := by
  unfold State.reportOnNone
  split_ifs
  · exact State.settleSuspect_field _ s
  · exact State.countReport_field r s

@[simp] theorem State.unmarkAsset_field (asset : Nat) (s : State) : (s.unmarkAsset asset).field = s.field :=
  (RecordsAndBoard.syncUnderOp asset (s.onFaults (Faults.unmark asset))).field

@[simp] theorem State.markAsset_field (asset : Nat) (s : State) : (s.markAsset asset).field = s.field :=
  (RecordsAndBoard.syncUnderOp asset (s.onFaults (Faults.mark asset))).field

@[simp] theorem State.lockRemedy_field (asset : Nat) (s : State) : (s.lockRemedy asset).field = s.field := by
  unfold State.lockRemedy
  split
  · split_ifs
    · split
      · exact State.beginRestore_field _ s
      · rfl
      · rfl
    · rfl
  · rfl

@[simp] theorem State.equipmentCheck_field (n : StationId) (k : Kind) (asset : Nat) (circuit : CircuitId) (fold : Bool)
    (c : Condition) (s : State) : (s.equipmentCheck n k asset circuit fold c).field = s.field := by
  unfold State.equipmentCheck
  split
  · split
    · rfl
    · exact State.writeWithChange_field ..
    · exact State.writeWithChange_field ..
  · split_ifs <;> rfl

@[simp] theorem State.dropRecord_field (r : FaultRecord) (s : State) : (s.dropRecord r).field = s.field := by
  unfold State.dropRecord
  split_ifs
  · rfl
  · exact State.removeAndLeave_field r s

@[simp] theorem State.thresholdAtAdoption_field (r : FaultRecord) (s : State) :
    (s.thresholdAtAdoption r).field = s.field := by
  unfold State.thresholdAtAdoption
  split_ifs
  · exact State.settleSuspect_field r s
  · rfl

@[simp] theorem State.reexamine_field (r : FaultRecord) (s : State) : (s.reexamine r).field = s.field := by
  dsimp only [State.reexamine]
  split
  · exact State.dropRecord_field r s
  · split
    · exact State.dropRecord_field r s
    · split_ifs
      · exact State.dropRecord_field r s
      · exact State.dropRecord_field r s
    · split_ifs
      · exact State.thresholdAtAdoption_field r s
      · exact State.thresholdAtAdoption_field _ s
      · exact State.leaveRecord_field r s

/-! ## What an operation keeps -/

/-- From `s` to `t` sound trunks stay sound, and operation fields that agree with the operations in flight still do. -/
structure KeepsField (s t : State) : Prop where
  trunks : s.field.TrunksSound → t.field.TrunksSound
  ops    : s.field.OpsAgree → t.field.OpsAgree

/-- From `s` to `t` the trunks and the operations are as they were, and so is the operation field of every station. -/
structure SameOps (s t : State) : Prop where
  trunks : t.field.trunks = s.field.trunks
  ops    : t.field.ops = s.field.ops
  op     : ∀ n, (t.station n).op = (s.station n).op

theorem SameOps.of_field {s t : State} (h : t.field = s.field) : SameOps s t :=
  ⟨congrArg Field.trunks h, congrArg Field.ops h, fun n => congrArg (fun f : Field => (f.station n).op) h⟩

theorem SameOps.trans {s t u : State} (h : SameOps s t) (k : SameOps t u) : SameOps s u :=
  ⟨k.trunks.trans h.trunks, k.ops.trans h.ops, fun n => (k.op n).trans (h.op n)⟩

theorem SameOps.updStation {n : StationId} {g : Station → Station} {s : State}
    (hg : (g (s.station n)).op = (s.station n).op) : SameOps s (s.updStation n g) := by
  refine ⟨rfl, rfl, fun m => ?_⟩
  rw [State.station_updStation]
  split_ifs with hn
  · rw [← hn, hg]
  · rfl

namespace KeepsField

theorem of_same {s t : State} (h : SameOps s t) : KeepsField s t :=
  ⟨fun hs => hs.of_trunks h.trunks, fun hs => hs.of_ops h.ops fun n => .inl (h.op n)⟩

/-- An operation that leaves the field side as it is. -/
theorem of_field {s t : State} (h : t.field = s.field) : KeepsField s t := of_same (.of_field h)

protected theorem refl (s : State) : KeepsField s s := ⟨id, id⟩

protected theorem trans {s t u : State} (h : KeepsField s t) (k : KeepsField t u) : KeepsField s u :=
  ⟨k.trunks ∘ h.trunks, k.ops ∘ h.ops⟩

/-- `trans`, read from the last operation back to the first. -/
theorem after {s t u : State} (k : KeepsField t u) (h : KeepsField s t) : KeepsField s u := h.trans k

theorem updTrunk {t : TrunkId} {g : Trunk → Trunk} {s : State} (hg : (s.trunk t).Sound → (g (s.trunk t)).Sound) :
    KeepsField s (s.updTrunk t g) :=
  ⟨fun hs => hs.setTrunk (hg (hs t)), fun hs => hs.of_ops rfl fun _ => .inl rfl⟩

theorem updChain (t : TrunkId) (g : Chain → Chain) (s : State) : KeepsField s (s.updChain t g) :=
  of_same ⟨rfl, rfl, fun _ => rfl⟩

/-- A station changed that keeps its operation or loses it. -/
theorem updStation {n : StationId} {g : Station → Station} {s : State}
    (hg : ∀ x, (g x).op = x.op ∨ (g x).op = none) : KeepsField s (s.updStation n g) := by
  refine ⟨fun hs => hs, fun hs => hs.of_ops rfl fun m => ?_⟩
  rw [State.updStation_field, Field.station_setStation]
  split_ifs with hn
  · rw [← hn]
    exact hg _
  · exact .inl rfl

/-- A station changed that keeps its operation. -/
theorem updStationFields {n : StationId} {g : Station → Station} {s : State}
    (hg : ∀ x, (g x).op = x.op := by exact fun _ => rfl) :
    KeepsField s (s.updStation n g) := updStation fun x => .inl (hg x)

theorem hand (t : TrunkId) (f : DownFrame) (s : State) : KeepsField s (s.hand t f) := updTrunk fun h => h.hand f

theorem take (t : TrunkId) (s : State) : KeepsField s (s.take t) := updTrunk fun h => h.pop

theorem onBoard (f : Setup → Board → Board) (s : State) : KeepsField s (s.onBoard f) := of_field rfl

theorem onFaults (f : Faults → Faults) (s : State) : KeepsField s (s.onFaults f) := of_field rfl

theorem onSetup (f : Setup → Setup) (s : State) : KeepsField s (s.onSetup f) := of_field rfl

theorem updLink (d : DeskId) (g : Link → Link) (s : State) : KeepsField s (s.updLink d g) := of_field rfl

theorem updDesk (d : DeskId) (g : Desk → Desk) (s : State) : KeepsField s (s.updDesk d g) := of_field rfl

theorem recordError (c : ErrorCode) (p : Place) (s : State) : KeepsField s (s.recordError c p) := of_field rfl

theorem errorOn (t : TrunkId) (e : TrunkError) (p : Place) (s : State) : KeepsField s (s.errorOn t e p) :=
  (recordError ..).after (updTrunk (g := Trunk.count e) fun h => h.count e)

theorem foldl {α : Type} {f : State → α → State} (hf : ∀ s x, KeepsField s (f s x)) (l : List α) (s : State) :
    KeepsField s (l.foldl f s) := by
  induction l generalizing s with
  | nil => exact .refl s
  | cons x rest ih => exact (hf s x).trans (ih _)

theorem setStale (n : StationId) (stale : Bool) (s : State) : KeepsField s (s.setStale n stale) :=
  of_field (RecordsAndBoard.setStale n stale s).field

/-! ### Reports and outcomes (R22 to R36) -/

end KeepsField

theorem SameOps.removeTransient (x : FaultRecord) (s : State) : SameOps s (s.removeTransient x) := by
  refine SameOps.trans (t := s.onFaults (Faults.remove x.asset)) (.of_field rfl) ?_
  exact .updStation (g := fun y => { y with transients := saturate 65535 y.transients }) rfl

theorem SameOps.reportOnRecord (r : Report) (x : FaultRecord) (s : State) : SameOps s (s.reportOnRecord r x) := by
  dsimp only [State.reportOnRecord]
  split
  · exact .of_field (State.settleSuspect_field ..)
  · exact .removeTransient ..
  · exact .of_field (State.writeWithChange_field ..)
  · exact .of_field (State.beginRestore_field ..)
  · exact .of_field (State.writeWithChange_field ..)
  · exact .of_field rfl

theorem SameOps.applyReport (r : Report) (s : State) : SameOps s (s.applyReport r) := by
  dsimp only [State.applyReport]
  refine SameOps.trans (t := s.updStation r.station fun x => { x with applied := saturate 65535 x.applied })
    (.updStation rfl) ?_
  split_ifs
  · exact .of_field (State.countReport_field r _)
  · split
    · exact .of_field (State.reportOnNone_field r _)
    · exact .reportOnRecord r _ _

theorem SameOps.takeReport (r : Report) (s : State) : SameOps s (s.takeReport r) := by
  unfold State.takeReport
  split_ifs
  · exact .of_field rfl
  · exact .applyReport r s

theorem SameOps.applyOutcome (n : StationId) (k : Kind) (asset : Nat) (a : OutcomeAct) (s : State) :
    SameOps s (s.applyOutcome n k asset a) := by
  cases a with
  | none => exact .of_field rfl
  | report c =>
    dsimp only [State.applyOutcome]
    split_ifs
    · exact .of_field rfl
    · exact .applyReport ..
  | lockRemedy =>
    dsimp only [State.applyOutcome]
    split_ifs
    · exact .of_field rfl
    · exact .of_field (State.lockRemedy_field asset s)
  | equipment c =>
    dsimp only [State.applyOutcome]
    split_ifs
    · exact .of_field rfl
    · exact .of_field (State.equipmentCheck_field ..)

namespace KeepsField

/-! ### The end of an operation (R168 to R172) -/

/-- R168 steps 3 to 6: the mark, the station, the notice and the record. -/
theorem endRecord {o : OpId} {x : Op} {s : State} (hx : s.field.ops.find o = some x) (how : OpEnd) (outcome : OpOutcome) :
    KeepsField s ((((s.releaseMark x).clearStationOp x).notifyOpDone o x how outcome).onField (Field.freeOp o)) := by
  obtain ⟨-, -, hnoticed, -⟩ := ((s.releaseMark x).clearStationOp x).notifyOpDone_frame o x how outcome
  obtain ⟨-, hreleased⟩ := s.releaseMark_frame x
  have hfield : (((s.releaseMark x).clearStationOp x).notifyOpDone o x how outcome).field =
      s.field.setStation x.station { s.field.station x.station with op := none } := by
    rw [hnoticed, State.clearStationOp, State.updStation_field, hreleased]
  refine ⟨fun hs => hs.of_trunks ?_, fun hs => hs.freeOp hx ?_ fun n => ?_⟩
  · rw [State.onField_field, hfield]
    rfl
  · rw [State.onField_field, hfield]
    rfl
  · rw [State.onField_field, hfield, Field.station_freeOp, Field.station_setStation]
    split_ifs <;> rfl

theorem endOp (o : OpId) (how : OpEnd) (act : OutcomeAct) (outcome : OpOutcome) (s : State) :
    KeepsField s (s.endOp o how act outcome) := by
  unfold State.endOp
  split
  · next x hx =>
    have applied := SameOps.applyOutcome x.station ((s.roster x.station).kind.getD .lamp) x.asset act s
    refine (of_same applied).trans ?_
    rw [← applied.ops] at hx
    dsimp only
    split_ifs
    · exact endRecord hx how outcome
    · exact (endRecord (s := State.sendAbortOp o x _) hx how outcome).after (hand ..)
  · exact .refl s

theorem loseOp (o : OpId) (how : OpEnd) (s : State) : KeepsField s (s.loseOp o how) := endOp ..

theorem loseStationOp (n : StationId) (how : OpEnd) (s : State) : KeepsField s (s.loseStationOp n how) := by
  unfold State.loseStationOp
  split
  · exact loseOp ..
  · exact .refl s

theorem adoptOps (s : State) : KeepsField s s.adoptOps := by
  refine foldl (fun s o => ?_) _ s
  split
  · split_ifs
    · exact loseOp ..
    · exact .refl s
  · exact .refl s

/-! ### Censuses (R152, R153, R155) -/

theorem startCensus (t : TrunkId) (s : State) : KeepsField s (s.startCensus t) := by
  unfold State.startCensus
  split_ifs
  · exact (updChain ..).after (hand ..)
  · exact (updChain ..).after (errorOn ..)

theorem triggerCensus (t : TrunkId) (s : State) : KeepsField s (s.triggerCensus t) := by
  unfold State.triggerCensus
  split_ifs
  · exact .refl s
  · exact updChain ..
  · exact startCensus t s

theorem chainFreed (t : TrunkId) (s : State) : KeepsField s (s.chainFreed t) := by
  unfold State.chainFreed
  split_ifs
  · exact startCensus t s
  · exact .refl s

theorem failCensus (t : TrunkId) (s : State) : KeepsField s (s.failCensus t) :=
  (chainFreed t _).after ((errorOn ..).after (updChain ..))

/-! ### Modes and hold sets (R107 to R121) -/

theorem nowActive (n : StationId) (s : State) : KeepsField s (s.nowActive n) := of_field (s.nowActive_frame n).2.1

theorem enterSilent (n : StationId) (trigger : Bool) (s : State) : KeepsField s (s.enterSilent n trigger) := by
  have silenced : KeepsField s (s.silenced n) :=
    (of_field (s.silenced_frame n).2.2).after (updStationFields (g := Station.silenced (s.roster n)) fun _ => rfl)
  rw [State.enterSilent_eq]
  dsimp only
  split_ifs
  · exact (triggerCensus ..).after ((loseStationOp ..).after silenced)
  · exact (loseStationOp ..).after silenced

theorem enterPending (n : StationId) (s : State) : KeepsField s (s.enterPending n) := by
  have written : KeepsField s (s.updStation n fun x => { x with mode := .pending, nextExpiry := none }) :=
    updStationFields
  dsimp only [State.enterPending]
  split_ifs
  · exact (loseStationOp ..).after ((setStale n true _).after written)
  · exact (loseStationOp ..).after written
  · exact (setStale n true _).after written
  · exact written

theorem enterUnreached (s : State) (n : StationId) : KeepsField s (s.enterUnreached n) :=
  (loseStationOp ..).after ((setStale n true _).after updStationFields)

theorem hear (n : StationId) (s : State) : KeepsField s (s.hear n) := by
  refine (of_field (s.hear_frame n).2.2).after (updStationFields (g := heardFields _ _) fun x => ?_)
  unfold heardFields
  dsimp only
  split <;> rfl

theorem afterHoldChange (n : StationId) (wasHeld : Bool) (s : State) : KeepsField s (s.afterHoldChange n wasHeld) := by
  dsimp only [State.afterHoldChange]
  split_ifs
  · refine (loseStationOp ..).after ((updStationFields fun x => ?_).after
      (of_field (RecordsAndBoard.suspendTimers n s).field))
    split_ifs <;> rfl
  · refine (updStationFields fun x => ?_).after (of_field (RecordsAndBoard.resumeTimers n s).field)
    split_ifs <;> rfl
  · exact .refl s

theorem changeHold (n : StationId) (g : HoldSet → HoldSet) (s : State) : KeepsField s (s.changeHold n g) :=
  (afterHoldChange ..).after updStationFields

theorem foundActive (n : StationId) (g : HoldSet → HoldSet) (s : State) : KeepsField s (s.foundActive n g) := by
  have found : KeepsField s (s.updStation n (foundFields (s.scheduleFrom n) g)) := updStationFields
  dsimp only [State.foundActive]
  split_ifs
  · exact (afterHoldChange ..).after found
  · exact (afterHoldChange ..).after ((nowActive n _).after found)

theorem applyCensusOutcome (n : StationId) (o : CensusOutcome) (s : State) :
    KeepsField s (s.applyCensusOutcome n o) := by
  have silent : KeepsField s (if (s.station n).mode = .silent then s else s.enterSilent n false) := by
    split_ifs
    · exact .refl s
    · exact enterSilent n false s
  cases o with
  | full => exact foundActive n _ s
  | bypass => exact foundActive n _ s
  | unlabelled => exact enterPending n s
  | otherLabel => exact silent
  | notFound => exact silent

theorem labelled (n : StationId) (i : Identity) (s : State) : KeepsField s (s.labelled n i) :=
  (foundActive ..).after updStationFields

theorem adoptStations (old : Settings) (s : State) : KeepsField s (s.adoptStations old) := by
  refine foldl (fun s n => updStation fun x => ?_) _ s
  unfold adoptStation
  split_ifs
  · exact .inl rfl
  · exact .inr rfl
  · exact .inr rfl
  · exact .inl rfl

theorem resetStations (s : State) : KeepsField s s.resetStations := by
  refine foldl (fun s n => updStation fun x => .inr ?_) _ s
  unfold resetStation
  dsimp only
  split <;> rfl

/-! ### Chains (R146 to R156) -/

theorem noAnswer (t : TrunkId) (p : Position) (s : State) : KeepsField s (s.noAnswer t p) := by
  dsimp only [State.noAnswer]
  split_ifs
  · exact .refl s
  · exact enterPending (stationAt t p) s

theorem labelFails (t : TrunkId) (p : Position) (s : State) : KeepsField s (s.labelFails t p) :=
  (noAnswer t p _).after (errorOn ..)

theorem startLabelling (t : TrunkId) (s : State) : KeepsField s (s.startLabelling t) := by
  have steps : ∀ (fuel : Nat) (s : State), KeepsField s (startLabellingSteps t fuel s) := by
    intro fuel
    induction fuel with
    | zero => exact fun s => .refl s
    | succ fuel ih =>
      intro s
      unfold startLabellingSteps
      split
      · dsimp only
        split_ifs
        · exact (updChain ..).after ((hand ..).after (updChain ..))
        · exact (ih _).after ((labelFails ..).after (updChain ..))
      · exact .refl s
  exact steps _ s

theorem labellingEnds (t : TrunkId) (s : State) : KeepsField s (s.labellingEnds t) :=
  (chainFreed t _).after ((startLabelling t _).after (updChain ..))

theorem takeLabelAck (t : TrunkId) (label kind f1 f0 c1 c0 : Byte) (s : State) :
    KeepsField s (s.takeLabelAck t label kind f1 f0 c1 c0) := by
  unfold State.takeLabelAck
  split
  · dsimp only
    split_ifs
    · exact labellingEnds t s
    · exact (labellingEnds t _).after (labelled ..)
    · exact (labellingEnds t _).after ((errorOn ..).after (labelled ..))
    · exact errorOn ..
  · exact errorOn ..

theorem comparePosition (t : TrunkId) (entries : List CensusEntry) (s : State) (p : Position) :
    KeepsField s (s.comparePosition t entries p) := by
  dsimp only [State.comparePosition]
  split_ifs
  · exact errorOn ..
  · exact .refl s
  · exact (applyCensusOutcome ..).after ((updChain ..).after (errorOn ..))
  · exact (applyCensusOutcome ..).after (updChain ..)
  · exact (applyCensusOutcome ..).after (errorOn ..)
  · exact applyCensusOutcome ..

theorem afterCensus (t : TrunkId) (s : State) : KeepsField s (s.afterCensus t) := by
  unfold State.afterCensus
  split_ifs
  · exact chainFreed t s
  · exact (chainFreed t _).after (startLabelling t s)

theorem takeCensusReturn (t : TrunkId) (count : Byte) (rest : List Byte) (s : State) :
    KeepsField s (s.takeCensusReturn t count rest) := by
  unfold State.takeCensusReturn
  split
  · split
    · exact failCensus t s
    · have compared : ∀ entries u, KeepsField u (((fins 24).foldl (State.comparePosition t entries) u).afterCensus t) :=
        fun entries u => (afterCensus t _).after (foldl (comparePosition t entries) _ u)
      dsimp only
      split_ifs
      · exact (compared ..).after ((errorOn ..).after (updChain ..))
      · exact (compared ..).after (updChain ..)
  · exact errorOn ..

theorem adoptChains (s : State) : KeepsField s s.adoptChains := foldl (fun s t => updChain t _ s) _ s

theorem opNoTaker (t : TrunkId) (label : Byte) (k : ReturnedType) (index : Byte) (s : State) :
    KeepsField s (s.opNoTaker t label k index) := by
  unfold State.opNoTaker
  split
  · split
    · split_ifs
      · exact endOp ..
      · exact .refl s
    · exact .refl s
  · exact .refl s

theorem takeNoTaker (t : TrunkId) (label returned index : Byte) (s : State) :
    KeepsField s (s.takeNoTaker t label returned index) := by
  unfold State.takeNoTaker
  split
  · refine (errorOn t .noTaker (.position t index.toNat) s).trans ?_
    dsimp only
    split
    · split_ifs
      · exact (labellingEnds t _).after (noAnswer ..)
      · exact .refl _
    · exact .refl _
  · exact (opNoTaker ..).after (errorOn ..)

theorem relabel (t : TrunkId) (s : State) : KeepsField s (s.relabel t) := by
  have forgotten : KeepsField s (s.forgetLabels t) :=
    (foldl (fun s p => enterPending (stationAt t p) s) _ _).after ((updChain ..).after (hand ..))
  exact (chainFreed t _).after ((startLabelling t _).after forgotten)

/-! ### Trunks (R127 to R139) -/

/-- A trunk changed in its state, deadlines, counters and watch alone. -/
theorem updTrunkFields {t : TrunkId} {g : Trunk → Trunk} {s : State}
    (hg : ∀ x, (g x).upCredit = x.upCredit ∧ (g x).downCredit = x.downCredit ∧ (g x).buffer = x.buffer ∧
      (g x).queue = x.queue := by exact fun _ => ⟨rfl, rfl, rfl, rfl⟩) : KeepsField s (s.updTrunk t g) := by
  refine updTrunk fun h => ?_
  obtain ⟨hup, hdown, hbuffer, hqueue⟩ := hg (s.trunk t)
  exact ⟨by rw [hup, hbuffer]; exact h.up, hdown ▸ h.down, hqueue ▸ h.queue⟩

theorem graceExpires (t : TrunkId) (s : State) : KeepsField s (s.graceExpires t) := by
  have cleared : KeepsField s (s.updTrunk t fun x => { x with graceDeadline := none }) :=
    updTrunkFields
  dsimp only [State.graceExpires]
  split_ifs
  · exact cleared
  · exact (onBoard ..).after cleared

theorem graceIfZero (t : TrunkId) (s : State) : KeepsField s (s.graceIfZero t) := by
  unfold State.graceIfZero
  split_ifs
  · exact graceExpires t s
  · exact .refl s

theorem trunkErrorNotices (t : TrunkId) (e : TrunkError) (s : State) : KeepsField s (s.trunkErrorNotices t e) :=
  foldl (f := fun s d => s.onBoard fun c b => b.notify d (.trunkError t e c.time)) (fun _ _ => of_field rfl) _ s

theorem leaveRunning (t : TrunkId) (s : State) : KeepsField s (s.leaveRunning t) :=
  (updChain t (fun _ => {}) _).after ((foldl enterUnreached _ _).after (updTrunk (g := Trunk.flush) fun h => h.flush))

theorem faultTrunk (t : TrunkId) (e : TrunkError) (s : State) : KeepsField s (s.faultTrunk t e) :=
  (graceIfZero t _).after ((trunkErrorNotices t e _).after
    ((errorOn ..).after ((leaveRunning t _).after updTrunkFields)))

theorem trunkRuns (t : TrunkId) (s : State) : KeepsField s (s.trunkRuns t) :=
  (onBoard ..).after ((triggerCensus t _).after (updTrunk (g := Trunk.enterRunning) fun h => h.enterRunning))

theorem startFails (t : TrunkId) (s : State) : KeepsField s (s.startFails t) := by
  have noticed : ∀ s : State, KeepsField s ((s.recordError (.trunk .startTimeout) (.trunk t)).trunkErrorNotices t
      .startTimeout) := fun s => (trunkErrorNotices ..).after (recordError ..)
  dsimp only [State.startFails]
  cases (s.trunk t).startCause <;> simp only [reduceCtorEq, if_true, if_false]
  case fromOff =>
    exact (graceIfZero t _).after ((noticed _).after (after updTrunkFields updTrunkFields))
  case commandFromFaulted => exact (noticed _).after updTrunkFields
  case retry => exact updTrunkFields

theorem stopTrunk (t : TrunkId) (s : State) : KeepsField s (s.stopTrunk t) := by
  dsimp only [State.stopTrunk]
  split_ifs
  · exact (onBoard ..).after ((leaveRunning t _).after updTrunkFields)
  · exact (onBoard ..).after updTrunkFields

/-- R131: an END that finds credit spends it. -/
theorem closeFrame {t : TrunkId} {s : State} (hc : (s.trunk t).upCredit ≠ 0) : KeepsField s (s.closeFrame t) := by
  dsimp only [State.closeFrame]
  split
  · exact updTrunk fun h => h.closed hc _
  · exact (errorOn ..).after (updTrunk fun h => h.dropped)

theorem upstreamEnd (t : TrunkId) (s : State) : KeepsField s (s.upstreamEnd t) := by
  unfold State.upstreamEnd
  split_ifs with _ hc
  · exact .refl s
  · exact faultTrunk ..
  · exact closeFrame hc

theorem upstreamGrant (t : TrunkId) (s : State) : KeepsField s (s.upstreamGrant t) := by
  unfold State.upstreamGrant
  split_ifs with _ hc
  · exact .refl s
  · exact faultTrunk ..
  · exact updTrunk fun h => h.granted (Nat.le_of_lt_succ (Nat.lt_of_not_le hc))

/-! ### Operations (R159 to R167) -/

/-- R157: the record of an operation in flight changed, at its station. -/
theorem setOp {o : OpId} {x y : Op} {s : State} (hx : s.field.ops.find o = some x) (hy : y.station = x.station) :
    KeepsField s (s.setOp o y) := ⟨fun hs => hs.of_trunks rfl, fun hs => hs.setOp hx hy⟩

/-- R159: the record taken is a free one. -/
theorem startOp {o : OpId} {s : State} (ho : s.field.ops.find o = none) (k : OpKind) (d : DeskId) (n : StationId)
    (asset : Nat) : KeepsField s (s.startOp o k d n asset) := by
  let taken : State := (s.setOp o (newOp s k d n asset)).onField fun f => { f with lastOp := o }
  let frame := toStation n (openingFrame o k asset s.setup.active.params)
  have started : KeepsField s ((taken.hand (stationTrunk n) frame).updStation n fun y => { y with op := some o }) := by
    refine ⟨fun hs => ?_, fun hs => hs.startOp (x := newOp s k d n asset) ho rfl fun m => ?_⟩
    · exact Field.TrunksSound.setTrunk (f := taken.field) (hs.of_trunks rfl) ((hs _).hand _)
    · rw [State.updStation_field, Field.station_setStation]
      show Station.op (if n = m then _ else _) = if n = m then _ else _
      split_ifs <;> rfl
  dsimp only [State.startOp]
  split_ifs
  · exact (of_field (State.markAsset_field asset _)).after started
  · exact started

theorem sendStep {o : OpId} {x y : Op} {s : State} (hx : s.field.ops.find o = some x) (hy : y.station = x.station)
    (p : Payload) : KeepsField s (s.sendStep o y p) := by
  dsimp only [State.sendStep]
  split_ifs
  · exact (setOp (s := s.hand _ _) hx hy).after (hand ..)
  · exact endOp ..

theorem takeSample {o : OpId} {x : Op} {s : State} (hx : s.field.ops.find o = some x) (level : Nat) (detects : Bool) :
    KeepsField s (s.takeSample o x level detects) := by
  have hstep : (s.setOp o (stepped x detects)).field.ops.find o = some (stepped x detects) := Table.find_put_self ..
  dsimp only [State.takeSample]
  refine (setOp (y := stepped x detects) hx rfl).trans ?_
  split
  · exact sendStep hstep (by rfl) _
  · exact endOp ..
  · exact sendStep hstep (by rfl) _

theorem badReply (o : OpId) (x : Op) (s : State) : KeepsField s (s.badReply o x) := (endOp ..).after (errorOn ..)

theorem takeReading (o : OpId) (x : Op) (c : Option Condition) (s : State) : KeepsField s (s.takeReading o x c) := by
  unfold State.takeReading
  split
  · split_ifs
    · exact endOp ..
    · exact badReply ..
  · exact badReply ..

theorem actOnReply {o : OpId} {x : Op} {s : State} (hx : s.field.ops.find o = some x) (r : Reply) :
    KeepsField s (s.actOnReply o x r) := by
  cases r with
  | probeReading c => exact takeReading o x c s
  | cycleOff => exact setOp hx rfl
  | cycleFinal c => exact takeReading o x c s
  | sample level detects =>
    dsimp only [State.actOnReply]
    split_ifs
    · exact .refl s
    · exact takeSample hx ..
  | confirmation level =>
    dsimp only [State.actOnReply]
    split_ifs
    · exact endOp ..
    · exact .refl s
  | rejected => exact endOp ..

end KeepsField

/-- R166: a reply matches an operation in flight. -/
theorem find_of_matchReply {s : State} {n : StationId} {index a1 a0 kind v1 v2 : Byte} {o : OpId} {x : Op} {r : Reply}
    (h : matchReply s n index a1 a0 kind v1 v2 = some (o, x, r)) : s.field.ops.find o = some x := by
  unfold matchReply at h
  split at h
  · split at h
    · next hx =>
      split_ifs at h
      cases h
      exact hx
    · cases h
  · cases h

theorem find_of_dueOp {s : State} {o : OpId} {k : OpKind} {x : Op} (h : dueOp s o k = some x) :
    s.field.ops.find o = some x := by
  unfold dueOp at h
  split at h
  · next hx =>
    split_ifs at h
    exact h ▸ hx
  · cases h

namespace KeepsField

theorem takeReply (n : StationId) (index a1 a0 kind v1 v2 : Byte) (s : State) :
    KeepsField s (s.takeReply n index a1 a0 kind v1 v2) := by
  unfold State.takeReply
  split
  · next h => exact actOnReply (find_of_matchReply h) _
  · exact errorOn ..

theorem stepExpires {o : OpId} {x : Op} {s : State} (hx : s.field.ops.find o = some x) :
    KeepsField s (s.stepExpires o x) := by
  dsimp only [State.stepExpires]
  split_ifs
  · exact endOp ..
  · exact sendStep hx (by rfl) _
  · exact sendStep hx (by rfl) _

/-! ### Resets and power-on (R1, R172, R185 to R187) -/

theorem resetOp (s : State) (o : OpId) : KeepsField s (s.resetOp o) := by
  unfold State.resetOp
  split
  · next x _ =>
    refine (updStation fun _ => .inr rfl).after ((of_field (State.releaseMark_frame x _).2).after (hand ..))
  · exact .refl s

end KeepsField

/-- R172: the station of the operation loses it, and no other station changes. -/
theorem State.resetOp_station_op {o : OpId} {x : Op} {s : State} (hx : s.field.ops.find o = some x) (n : StationId) :
    ((s.resetOp o).station n).op = if x.station = n then none else (s.station n).op := by
  have hreleased : ∀ m, ((s.sendAbortOp o x).releaseMark x).station m = s.station m := fun m =>
    (congrArg (fun f : Field => f.station m) ((s.sendAbortOp o x).releaseMark_frame x).2).trans rfl
  simp only [State.resetOp, hx, State.clearStationOp, State.station_updStation, hreleased]
  split_ifs <;> rfl

theorem State.resetOp_of_none {o : OpId} {s : State} (h : s.field.ops.find o = none) : s.resetOp o = s := by
  simp only [State.resetOp, h]

/-- R172: after the operations of a list are reset, a station names none of them, and no other operation than before. -/
theorem State.foldl_resetOp_op {l : List OpId} {s : State} (h : s.field.OpsAgree) {n : StationId} {k : OpId}
    (hk : ((l.foldl State.resetOp s).station n).op = some k) : (s.station n).op = some k ∧ k ∉ l := by
  induction l generalizing s with
  | nil => exact ⟨hk, List.not_mem_nil⟩
  | cons o rest ih =>
    obtain ⟨hfirst, hrest⟩ := ih ((KeepsField.resetOp s o).ops h) hk
    cases hx : s.field.ops.find o with
    | none =>
      rw [State.resetOp_of_none hx] at hfirst
      obtain ⟨x, hfound, -⟩ := h n k hfirst
      refine ⟨hfirst, fun hmem => (List.mem_cons.1 hmem).elim ?_ hrest⟩
      rintro rfl
      cases hx.symm.trans hfound
    | some x =>
      rw [State.resetOp_station_op hx] at hfirst
      split_ifs at hfirst with hn
      obtain ⟨y, hfound, hy⟩ := h n k hfirst
      refine ⟨hfirst, fun hmem => (List.mem_cons.1 hmem).elim ?_ hrest⟩
      rintro rfl
      obtain rfl := Option.some.inj (hx.symm.trans hfound)
      exact hn hy

namespace KeepsField

/-- R172: no station is left with an operation. -/
theorem resetOps (s : State) : KeepsField s s.resetOps := by
  have walked := foldl resetOp (fins 32) s
  have settled : s.field.OpsAgree → ∀ n, (((fins 32).foldl State.resetOp s).station n).op = none := fun hs n =>
    Option.eq_none_iff_forall_ne_some.2 fun k hk => (State.foldl_resetOp_op hs hk).2 (mem_fins k)
  unfold State.resetOps
  generalize (fins 32).foldl State.resetOp s = u at walked settled
  exact ⟨fun hs => (walked.trunks hs).of_trunks rfl, fun hs => Field.opsAgree_of_none (settled hs)⟩

/-- A step to a field side at its power-on values. -/
theorem of_empty {s t : State} (h : t.field = {}) : KeepsField s t :=
  ⟨fun _ => h ▸ Field.trunksSound_empty, fun _ => h ▸ Field.opsAgree_empty⟩

theorem powerOn (lines : DeskSet) (s : State) : KeepsField s (s.powerOn lines) := of_empty rfl

theorem reset1 (d : DeskId) (s : State) : KeepsField s (s.reset1 d) := of_field rfl

theorem reset2 (d : DeskId) (s : State) : KeepsField s (s.reset2 d) := by
  have swept : KeepsField s (s.updLink d (Link.abortWaiting .reset)).resetOps.resetStations :=
    (resetStations _).after ((resetOps _).after (updLink ..))
  unfold State.reset2
  exact (onBoard ..).after ((onBoard ..).after ((onFaults ..).after swept))

theorem reset3 (s : State) : KeepsField s s.reset3 := of_empty rfl

end KeepsField

end Sys2Proof.Machine
end

section
/-! PROOFS. Every row keeps the trunks within their bounds and the operation fields true, and so does every step (R124, R131,
R133, R157). -/

namespace Sys2Proof.Machine

namespace KeepsField

/-! ### Events, answers and command frames (R85, R177 to R181) -/

theorem conclude (s u : State) : KeepsField u (s.conclude u) := onBoard ..

theorem event {f : State → State} {s : State} (h : KeepsField s (f s)) : KeepsField s (s.event f) :=
  (conclude s _).after h

/-- An event that takes place only under a condition. -/
theorem eventIf {f : State → State} {s : State} (p : Prop) [Decidable p] (h : KeepsField s (f s)) :
    KeepsField s (if p then s.event f else s) := by
  split_ifs
  · exact event h
  · exact .refl s

theorem answer (d : DeskId) (code : Byte) (own : Bool) (v : Verdict) (s : State) :
    KeepsField s (s.answer d code own v) := of_field rfl

theorem carryAbort (d : DeskId) (s : State) : KeepsField s (s.carryAbort d).1 := by
  dsimp only [State.carryAbort]
  split_ifs
  · exact updLink ..
  · exact .refl s

theorem carryReset (level : Nat) (d : DeskId) (s : State) : KeepsField s (s.carryReset level d).1 := by
  unfold State.carryReset
  split
  · exact reset1 d s
  · split_ifs
    · exact reset2 d s
    · exact .refl s
  · split_ifs
    · exact reset3 s
    · exact .refl s
  · exact .refl s

theorem frameVerdict {d : DeskId} {body : List Byte} {s : State} {a : State × Verdict}
    (h : s.frameVerdict d body = some a) : KeepsField s a.1 := by
  unfold State.frameVerdict at h
  split at h
  · cases h
    exact .refl s
  · split_ifs at h <;> cases h
    · exact .refl s
    · exact .refl s
    · exact carryAbort d s
    · exact carryReset _ d s
    · exact .refl s

theorem takeFrame (d : DeskId) (body : List Byte) (s : State) : KeepsField s (s.takeFrame d body) := by
  have hunting := updLink d (fun l => { l with receiver := none }) s
  dsimp only [State.takeFrame]
  split_ifs
  · exact hunting
  · unfold State.acceptFrame
    split
    · next ha => exact (answer ..).after ((frameVerdict ha).after hunting)
    · exact (updLink ..).after hunting

theorem commandEvent (d : DeskId) (body : List Byte) (s : State) : KeepsField s (s.commandEvent d body) :=
  eventIf _ (takeFrame d body s)

theorem frameFails (d : DeskId) (e : FrameError) (s : State) : KeepsField s (s.frameFails d e) := of_field rfl

theorem errorEvent (d : DeskId) (e : FrameError) (s : State) : KeepsField s (s.errorEvent d e) :=
  eventIf _ (frameFails d e s)

theorem receive (d : DeskId) (b : Byte) (s : State) : KeepsField s (s.receive d b) := by
  unfold State.receive
  split
  · split_ifs
    · exact updLink ..
    · exact .refl s
  · unfold State.frameByte
    split
    · exact .refl s
    · split_ifs
      · exact frameFails ..
      · exact updLink ..
      · split
        · exact frameFails ..
        · exact takeFrame ..

/-! ### Adoption (R20) -/

theorem reexamineAll (s : State) : KeepsField s s.reexamineAll := by
  refine foldl (fun s a => ?_) _ s
  split
  · exact of_field (State.reexamine_field _ s)
  · exact .refl s

theorem adoption (old : Settings) (s : State) : KeepsField s (s.adoption old) := by
  unfold State.adoption
  exact (adoptOps _).after <| (onBoard ..).after <| (onBoard ..).after <| (onBoard ..).after <|
    (reexamineAll _).after <| (adoptChains _).after <| adoptStations old s

end KeepsField

/-! ## The owners of the commands -/

/-- What an owner makes of the state keeps the field side. -/
def OwnerKeepsField (op : Owner) : Prop := ∀ args d s, KeepsField s (op args d s).1

namespace OwnerKeepsField

open KeepsField

theorem carryOut {op : Owner} {after : State → State} (h : OwnerKeepsField op) (ha : ∀ s, KeepsField s (after s))
    (code : Byte) (d : DeskId) (args : List Byte) (s : State) : KeepsField s (s.carryOut code d args op after) :=
  (conclude s _).after ((ha _).after ((answer ..).after ((updLink ..).after (h args d s))))

theorem serve {op : Owner} (h : OwnerKeepsField op) (code : Byte) (d : DeskId) (s : State) :
    KeepsField s (s.serve code d op) := by
  unfold State.serve
  split
  · exact h.carryOut (fun s => .refl s) ..
  · exact .refl s

/-- An owner of the desks' side or of the settings. -/
theorem of_field {op : Owner} (h : ∀ args d s, (op args d s).1.field = s.field) : OwnerKeepsField op := fun args d s =>
  KeepsField.of_field (h args d s)

/-- An answer that leaves the state as it is. -/
theorem same (s : State) (v : Verdict) : KeepsField s (s, v).1 := .refl s

/-- An answer after an operation. -/
theorem made {s u : State} {v : Verdict} (h : KeepsField s u) : KeepsField s (u, v).1 := h

theorem withTrunk {s : State} {g : TrunkId → State × Verdict} (h : ∀ t, KeepsField s (g t).1) (trunk : Byte) :
    KeepsField s (withTrunk trunk s g).1 := by
  unfold Machine.withTrunk
  split
  · exact h _
  · exact .refl s

/-! ### Owners of the desks' side and of the settings -/

theorem withIndex_field {s : State} {g : IncidentId → State × Verdict} (h : ∀ i, (g i).1.field = s.field)
    (hi lo : Byte) : (withIndex hi lo s g).1.field = s.field := by
  unfold Machine.withIndex
  split
  · exact h _
  · rfl

theorem listQueue : OwnerKeepsField listQueue := .of_field fun args d s => by
  unfold Machine.listQueue
  repeat' split
  all_goals rfl

theorem readIncidentRecord : OwnerKeepsField readIncidentRecord := .of_field fun args d s => by
  unfold Machine.readIncidentRecord
  split
  · refine withIndex_field (fun i => ?_) ..
    rfl
  · rfl

theorem readFaultRecord : OwnerKeepsField readFaultRecord := .of_field fun args d s => by
  unfold Machine.readFaultRecord
  split <;> rfl

theorem readStationRecord : OwnerKeepsField readStationRecord := .of_field fun args d s => by
  unfold Machine.readStationRecord
  repeat' split
  all_goals rfl

theorem readTrunkRecord : OwnerKeepsField readTrunkRecord := fun args d s => by
  unfold Machine.readTrunkRecord
  split
  · exact withTrunk (fun t => same ..) _
  · exact same ..

theorem readShadow : OwnerKeepsField readShadow := .of_field fun args d s => by
  unfold Machine.readShadow
  repeat' split
  all_goals rfl

theorem signOffDesk : OwnerKeepsField signOffDesk := .of_field fun args d s => by
  unfold Machine.signOffDesk
  repeat' split
  all_goals rfl

theorem acceptIncident : OwnerKeepsField acceptIncident := .of_field fun args d s => by
  unfold Machine.acceptIncident
  split
  · refine withIndex_field (fun i => ?_) ..
    dsimp only
    split_ifs <;> rfl
  · rfl

theorem declineIncident : OwnerKeepsField declineIncident := .of_field fun args d s => by
  unfold Machine.declineIncident
  split
  · refine withIndex_field (fun i => ?_) ..
    dsimp only
    split_ifs <;> rfl
  · rfl

theorem releaseIncident : OwnerKeepsField releaseIncident := .of_field fun args d s => by
  unfold Machine.releaseIncident
  split
  · refine withIndex_field (fun i => ?_) ..
    repeat' split
    all_goals rfl
  · rfl

theorem handOverIncident : OwnerKeepsField handOverIncident := .of_field fun args d s => by
  unfold Machine.handOverIncident
  split
  · refine withIndex_field (fun i => ?_) ..
    repeat' split
    all_goals rfl
  · rfl

theorem closeIncident_field (i : IncidentId) (x : Incident) (forget : Bool) (s : State) :
    (s.closeIncident i x forget).field = s.field := by
  unfold State.closeIncident
  dsimp only
  split_ifs <;> rfl

theorem closeCommand : OwnerKeepsField closeCommand := .of_field fun args d s => by
  unfold Machine.closeCommand
  split
  · refine withIndex_field (fun i => ?_) ..
    split
    · rfl
    · split
      · rfl
      · split
        · rfl
        · exact closeIncident_field ..
  · rfl

theorem tagCommand : OwnerKeepsField tagCommand := .of_field fun args d s => by
  unfold Machine.tagCommand
  split
  · refine withIndex_field (fun i => ?_) ..
    repeat' split
    all_goals rfl
  · rfl

theorem setPeriodCommand : OwnerKeepsField setPeriodCommand := .of_field fun args d s => by
  unfold Machine.setPeriodCommand
  repeat' split
  all_goals rfl

theorem writeShadow (e : Edit) : OwnerKeepsField (writeShadow e) := .of_field fun args d s => by
  unfold Machine.writeShadow
  repeat' split
  all_goals rfl

theorem beginEdit : OwnerKeepsField beginEdit := .of_field fun args d s => by
  unfold Machine.beginEdit
  repeat' split
  all_goals rfl

theorem discardEdit : OwnerKeepsField discardEdit := .of_field fun args d s => by
  unfold Machine.discardEdit
  split_ifs <;> rfl

/-! ### Owners of the field side, and ADOPT -/

theorem holdStation : OwnerKeepsField holdStation := fun args d s => by
  unfold Machine.holdStation
  split
  · split
    · exact same ..
    · split_ifs
      · exact same ..
      · exact same ..
      · exact made (changeHold ..)
  · exact same ..

theorem unholdStation : OwnerKeepsField unholdStation := fun args d s => by
  unfold Machine.unholdStation
  split
  · split
    · exact same ..
    · split_ifs
      · exact same ..
      · exact same ..
      · exact same ..
      · exact made (changeHold ..)
  · exact same ..

theorem startTrunkCommand : OwnerKeepsField startTrunkCommand := fun args d s => by
  unfold Machine.startTrunkCommand
  split
  · refine withTrunk (fun t => ?_) _
    split
    · exact same ..
    · exact same ..
    · exact made (updTrunk fun h => h.enterStarting ..)
    · exact made (updTrunk fun h => h.enterStarting ..)
  · exact same ..

theorem stopTrunkCommand : OwnerKeepsField stopTrunkCommand := fun args d s => by
  unfold Machine.stopTrunkCommand
  split
  · refine withTrunk (fun t => ?_) _
    split_ifs
    · exact same ..
    · exact made (stopTrunk t s)
  · exact same ..

theorem censusCommand : OwnerKeepsField censusCommand := fun args d s => by
  unfold Machine.censusCommand
  split
  · refine withTrunk (fun t => ?_) _
    split_ifs
    · exact same ..
    · exact made (updChain ..)
    · exact same ..
    · exact made (startCensus t s)
  · exact same ..

theorem labelChainCommand : OwnerKeepsField labelChainCommand := fun args d s => by
  unfold Machine.labelChainCommand
  split
  · refine withTrunk (fun t => ?_) _
    split_ifs
    · exact same ..
    · exact same ..
    · exact same ..
    · exact made (relabel t s)
  · exact same ..

theorem requestOp (k : OpKind) : OwnerKeepsField (requestOp k) := fun args d s => by
  unfold Machine.requestOp
  split
  · split
    · exact same ..
    iterate 6
      split
      · exact same ..
    split
    · exact same ..
    · next ho =>
      split
      · exact same ..
      · exact made (startOp (Field.find_freeOpIndex ho) ..)
  · exact same ..

theorem abortOperation : OwnerKeepsField abortOperation := fun args d s => by
  unfold Machine.abortOperation
  split
  · split
    · exact same ..
    · split_ifs
      · exact same ..
      · split
        · exact same ..
        · exact made (loseOp ..)
  · exact same ..

theorem adoptEdit : OwnerKeepsField adoptEdit := fun args d s => by
  unfold Machine.adoptEdit
  split_ifs
  · exact made ((adoption ..).after (onSetup ..))
  · exact same ..

end OwnerKeepsField

namespace KeepsField

/-! ### Frames taken from a buffer (R132, R145) -/

theorem takeOldest {f : List Byte → State → State} (hf : ∀ frame s, KeepsField s (f frame s)) (t : TrunkId) (k : UpType)
    (s : State) : KeepsField s (s.takeOldest t k f) := by
  unfold State.takeOldest
  split
  · exact event ((hf _ _).after (take t s))
  · exact .refl s

theorem screened {f : StationId → Bool → State → State} (hf : ∀ n moved s, KeepsField s (f n moved s)) (t : TrunkId)
    (frame : List Byte) (s : State) : KeepsField s (s.screened t frame f) := by
  unfold State.screened
  split
  · split
    · exact (hf ..).after (hear ..)
    · exact errorOn ..
  · exact .refl s

/-- A frame taken, screened by its label and heard, and then acted on. -/
theorem takeScreened {f : List Byte → StationId → Bool → State → State}
    (hf : ∀ frame n moved s, KeepsField s (f frame n moved s)) (t : TrunkId) (k : UpType) (s : State) :
    KeepsField s (s.takeOldest t k fun frame s => s.screened t frame (f frame)) :=
  takeOldest (fun frame s => screened (hf frame) t frame s) t k s

theorem creditCheckIn (n : StationId) (moved : Bool) (s : State) : KeepsField s (s.creditCheckIn n moved) := by
  dsimp only [State.creditCheckIn]
  split_ifs
  · exact updStationFields
  · exact .refl s

theorem judgeSleep (n : StationId) (span : Nat) (s : State) : KeepsField s (s.judgeSleep n span) := by
  dsimp only [State.judgeSleep]
  split
  · exact hand ..
  · split_ifs
    · exact after updStationFields (hand ..)
    · exact .refl s

theorem takeChecked (t : TrunkId) (x : Checked) (s : State) : KeepsField s (s.takeChecked t x) := by
  refine KeepsField.trans (hear x.station s) ?_
  dsimp only [State.takeChecked]
  split_ifs
  · exact updStationFields
  · dsimp only [State.classify]
    split_ifs
    · exact errorOn ..
    · exact of_same (.takeReport ..)

/-! ### Symbols and stations (R110, R113, R125) -/

theorem onRunning {g : Trunk → Trunk} (t : TrunkId) (s : State)
    (hg : ∀ x, (g x).upCredit = x.upCredit ∧ (g x).downCredit = x.downCredit ∧ (g x).buffer = x.buffer ∧
      (g x).queue = x.queue := by exact fun _ => ⟨rfl, rfl, rfl, rfl⟩) :
    KeepsField s (s.onRunning t g) := by
  unfold State.onRunning
  split_ifs
  · exact event (updTrunkFields hg)
  · exact .refl s

theorem fillEvent (t : TrunkId) (s : State) : KeepsField s (s.fillEvent t) := by
  unfold State.fillEvent
  split
  · exact event (trunkRuns t s)
  · exact onRunning t s
  · exact .refl s

theorem intervalExpires (n : StationId) (s : State) : KeepsField s (s.intervalExpires n) := by
  unfold State.intervalExpires
  split
  · split_ifs
    · exact .refl s
    · unfold State.debit
      split_ifs
      · exact updStationFields
      · exact enterSilent ..
  · dsimp only [State.countSleep]
    split_ifs
    · exact (nowActive ..).after updStationFields
    · exact updStationFields
  · exact .refl s

theorem recordTimer (asset : Nat) (k : TimerKind) (s : State) : KeepsField s (s.recordTimer asset k) := by
  unfold State.recordTimer
  split
  · exact event (of_field (RecordsAndBoard.timerExpires _ s).field)
  · exact .refl s

end KeepsField

/-! ## The rows -/

/-- If the row answers a next state, it has kept the field side. -/
def RowKeepsField (s : State) (a : Answer) : Prop := ∀ t, a = .next t → KeepsField s t

theorem RowKeepsField.next {s u : State} (h : KeepsField s u) : RowKeepsField s (.next u) := fun _ ht => by
  cases ht
  exact h

theorem RowKeepsField.guarded {s u : State} {p : Prop} [Decidable p] {f : Fault} (h : KeepsField s u) :
    RowKeepsField s (if p then .next u else .fault f) := by
  split_ifs
  · exact .next h
  · exact fun _ ht => by cases ht

open KeepsField in
theorem exec_keepsField (i : Instr) (s : State) : RowKeepsField s (exec i s) := by
  cases i with
  | powerOn lines => exact .next (powerOn lines s)
  | linkDown d => exact .next (eventIf _ (of_field rfl))
  | linkUp d =>
    refine .next ?_
    split_ifs
    · exact .refl s
    · exact event (of_field rfl)
  | commandFrame d body => exact .guarded (commandEvent d body s)
  | badCrc d => exact .next (errorEvent d .badCrc s)
  | badKind d => exact .next (errorEvent d .badKind s)
  | badFrame d => exact .next (errorEvent d .badFrame s)
  | byteTimeout d =>
    refine .next ?_
    split_ifs
    · exact errorEvent d .badFrame s
    · exact .refl s
  | resultSent d => exact .next (eventIf _ (updLink ..))
  | noticeSent d => exact .next (eventIf _ (updLink ..))
  | identify d => exact .next (OwnerKeepsField.serve (.of_field fun _ _ _ => rfl) ..)
  | sense d =>
    refine .next ?_
    split
    · exact OwnerKeepsField.carryOut (.of_field fun _ _ _ => rfl) (fun s => updLink d Link.sensed s) ..
    · exact .refl s
  | signOn d => exact .next (OwnerKeepsField.serve (.of_field fun _ _ _ => rfl) ..)
  | signOff d => exact .next (OwnerKeepsField.signOffDesk.serve ..)
  | abort d => exact .next (commandEvent ..)
  | resetLevel1 d => exact .next (commandEvent ..)
  | resetLevel2 d => exact .next (commandEvent ..)
  | resetLevel3 d => exact .next (commandEvent ..)
  | listPending d => exact .next (OwnerKeepsField.listQueue.serve ..)
  | readIncident d => exact .next (OwnerKeepsField.readIncidentRecord.serve ..)
  | readFault d => exact .next (OwnerKeepsField.readFaultRecord.serve ..)
  | readStation d => exact .next (OwnerKeepsField.readStationRecord.serve ..)
  | readTrunk d => exact .next (OwnerKeepsField.readTrunkRecord.serve ..)
  | readError d => exact .next (OwnerKeepsField.serve (.of_field fun _ _ _ => rfl) ..)
  | accept d => exact .next (OwnerKeepsField.acceptIncident.serve ..)
  | decline d => exact .next (OwnerKeepsField.declineIncident.serve ..)
  | release d => exact .next (OwnerKeepsField.releaseIncident.serve ..)
  | handover d => exact .next (OwnerKeepsField.handOverIncident.serve ..)
  | close d => exact .next (OwnerKeepsField.closeCommand.serve ..)
  | tag d => exact .next (OwnerKeepsField.tagCommand.serve ..)
  | hold d => exact .next (OwnerKeepsField.holdStation.serve ..)
  | unhold d => exact .next (OwnerKeepsField.unholdStation.serve ..)
  | probe d => exact .next ((OwnerKeepsField.requestOp .probe).serve ..)
  | cycle d => exact .next ((OwnerKeepsField.requestOp .cycle).serve ..)
  | sweep d => exact .next ((OwnerKeepsField.requestOp .sweep).serve ..)
  | abortOp d => exact .next (OwnerKeepsField.abortOperation.serve ..)
  | trunkStart d => exact .next (OwnerKeepsField.startTrunkCommand.serve ..)
  | trunkStop d => exact .next (OwnerKeepsField.stopTrunkCommand.serve ..)
  | census d => exact .next (OwnerKeepsField.censusCommand.serve ..)
  | labelChain d => exact .next (OwnerKeepsField.labelChainCommand.serve ..)
  | setPeriod d => exact .next (OwnerKeepsField.setPeriodCommand.serve ..)
  | editBegin d => exact .next (OwnerKeepsField.beginEdit.serve ..)
  | writeCircuit d => exact .next ((OwnerKeepsField.writeShadow editCircuit).serve ..)
  | writeStation d => exact .next ((OwnerKeepsField.writeShadow editStation).serve ..)
  | writeDesk d => exact .next ((OwnerKeepsField.writeShadow editDesk).serve ..)
  | writeParam d => exact .next ((OwnerKeepsField.writeShadow editParam).serve ..)
  | writeScale d => exact .next ((OwnerKeepsField.writeShadow editScale).serve ..)
  | readShadow d => exact .next (OwnerKeepsField.readShadow.serve ..)
  | adopt d =>
    refine .next ?_
    split
    · refine OwnerKeepsField.adoptEdit.carryOut (fun u => ?_) ..
      split_ifs
      · exact onBoard ..
      · exact .refl u
    · exact .refl s
  | discard d => exact .next (OwnerKeepsField.discardEdit.serve ..)
  | confirmWindowExpiry asset => exact .guarded (recordTimer ..)
  | restoreHoldExpiry asset => exact .guarded (recordTimer ..)
  | closeDelayExpiry n =>
    refine .next ?_
    split
    · exact eventIf _ (onBoard ..)
    · exact .refl s
  | agingBoundary n =>
    refine .next ?_
    split
    · exact eventIf _ (onBoard ..)
    · exact .refl s
  | offerExpiry d =>
    refine .next ?_
    split
    · exact eventIf _ (onBoard ..)
    · exact .refl s
  | absenceExpiry d => exact .next (eventIf _ (onBoard ..))
  | intervalExpiry n => exact .next (eventIf _ (intervalExpires n s))
  | checkIn t => exact .next (takeScreened (fun _ => creditCheckIn) t .checkIn s)
  | sleep t =>
    refine .next (takeScreened (fun frame n _ s => ?_) t .sleep s)
    split
    · exact judgeSleep ..
    · exact .refl s
  | bypassOn t => exact .next (takeScreened (fun _ n _ s => changeHold ..) t .bypassOn s)
  | bypassOff t => exact .next (takeScreened (fun _ n _ s => changeHold ..) t .bypassOff s)
  | assetState t =>
    refine .next (takeOldest (fun frame s => ?_) t .assetState s)
    split
    · split
      · exact errorOn ..
      · exact takeChecked ..
    · exact .refl s
  | chainValidFill t => exact .next (fillEvent t s)
  | frameEnd t => exact .next (eventIf _ (upstreamEnd t s))
  | abortSymbol t => exact .next (onRunning t s)
  | grant t => exact .next (eventIf _ (upstreamGrant t s))
  | parity t => exact .next (eventIf _ (faultTrunk t .parity s))
  | disconnect t => exact .next (eventIf _ (faultTrunk t .disconnect s))
  | downstreamFrameSent t => exact .next (eventIf _ (updTrunk fun hs => hs.frameSent))
  | startDeadline t => exact .next (eventIf _ (startFails t s))
  | retryDeadline t => exact .next (eventIf _ (updTrunk fun hs => hs.enterStarting ..))
  | graceDeadline t => exact .next (eventIf _ (graceExpires t s))
  | labelAck t =>
    refine .next (takeOldest (fun frame s => ?_) t .labelAck s)
    split
    · exact takeLabelAck ..
    · exact .refl s
  | labelDeadline t =>
    refine .next ?_
    split
    · exact eventIf _ ((labellingEnds t _).after (labelFails ..))
    · exact .refl s
  | censusReturn t =>
    refine .next (takeOldest (fun frame s => ?_) t .censusReturn s)
    split
    · exact takeCensusReturn ..
    · exact .refl s
  | censusDeadline t => exact .next (eventIf _ (failCensus t s))
  | noTaker t =>
    refine .next (takeOldest (fun frame s => ?_) t .noTaker s)
    split
    · exact takeNoTaker ..
    · exact .refl s
  | opReply t =>
    refine .next (takeScreened (fun frame n _ s => ?_) t .opReply s)
    split
    · exact takeReply ..
    · exact .refl s
  | probeDeadline o =>
    refine .next ?_
    split
    · exact event (endOp ..)
    · exact .refl s
  | cycleDeadline o =>
    refine .next ?_
    split
    · exact event (endOp ..)
    · exact .refl s
  | stepDeadline o =>
    refine .next ?_
    split
    · next hx => exact event (stepExpires (find_of_dueOp hx))
    · exact .refl s
  | dataSymbol t b => exact .next (onRunning t s)
  | fill t => exact .next (fillEvent t s)
  | deskByte d b => exact .next (eventIf _ (receive d b s))

theorem step_keepsField {s t : State} (h : step s = .next t) : KeepsField s t := by
  unfold step at h
  split at h
  · cases h
    exact .of_field s.tick_field
  · exact (exec_keepsField _ _ t h).after (.of_field rfl)

/-- Settles O55: each row is a composition of operations that keep the field side; an operation's end clears its station's
field as it frees the record, and its start takes a free record. -/
theorem fieldKept : Obligations.FieldKept :=
  ⟨fun _ _ h hs => (step_keepsField hs).trunks h, fun _ _ h hs => (step_keepsField hs).ops h⟩

end Sys2Proof.Machine
end

section
/-! SUPPORT. A trunk that leaves RUNNING (R118, R135, R156): what its stations becoming UNREACHED leaves of the part, the notices
that the desks take meanwhile (R182), and what the incident of the trunk becomes (R52, R53). -/

namespace Sys2Proof.Machine

/-! ## Links that take notices (R182) -/

/-- R182: a link that may have taken notices: they stand behind those it had. -/
structure Link.Grown (l m : Link) : Prop where
  up      : m.up = l.up
  notices : ∃ more, m.notices = l.notices ++ more

theorem Link.Grown.refl (l : Link) : l.Grown l := ⟨rfl, [], (List.append_nil _).symm⟩

theorem Link.Grown.trans {l m k : Link} (h : l.Grown m) (g : m.Grown k) : l.Grown k := by
  obtain ⟨more, hm⟩ := h.notices
  obtain ⟨rest, hk⟩ := g.notices
  exact ⟨g.up.trans h.up, more ++ rest, by rw [hk, hm, List.append_assoc]⟩

theorem Link.Grown.take (n : Notice) (l : Link) : l.Grown (l.take n) := by
  unfold Link.take
  split_ifs
  · exact ⟨rfl, [n], rfl⟩
  · exact ⟨rfl, [], (List.append_nil _).symm⟩

theorem Link.Grown.takeAny (n : Option Notice) (l : Link) : l.Grown (l.takeAny n) := by
  cases n with
  | none => exact .refl l
  | some n => exact .take n l

/-- From `b` to `c` the links have taken notices at most. -/
def Board.Grown (b c : Board) : Prop := ∀ d : DeskId, (b.links[d]).Grown c.links[d]

theorem Board.Grown.refl (b : Board) : b.Grown b := fun _ => .refl _

theorem Board.Grown.trans {a b c : Board} (h : a.Grown b) (k : b.Grown c) : a.Grown c := fun d => (h d).trans (k d)

theorem Board.Grown.notify (d : DeskId) (n : Notice) (b : Board) : b.Grown (b.notify d n) := fun e => by
  rw [show (b.notify d n).links[e] = _ from Board.getElem_updLink d e (Link.take n) b]
  split_ifs with hd
  · exact hd ▸ .take n _
  · exact .refl _

/-- R61, R92: an event on an incident tells the desks at most. -/
theorem Board.Grown.commit (o : Origin) (i : IncidentId) (new : Incident) (b : Board) : b.Grown (b.commit o i new) := by
  by_cases h : b.incident i = some new
  · rw [Board.commit_of_same h]
    exact .refl b
  · rw [Board.commit_of_ne h]
    dsimp only
    have closed : (((b.writeIncident i new).requeue i (b.incident i) new).closeOut i (b.incident i) new).links = b.links := by
      simp
    generalize ((b.writeIncident i new).requeue i (b.incident i) new).closeOut i (b.incident i) new = c at closed
    intro d
    rw [← closed]
    split_ifs
    · rw [Board.tell, Board.getElem_tellHolder, (Board.getElem_withdrawLost ..).2]
      refine Link.Grown.trans ?_ (.takeAny ..)
      split_ifs
      · exact .take ..
      · exact .refl _
    · exact .refl _

theorem State.marksHandoff_grown (r : FaultRecord) (s : State) : s.board.Grown (s.marksHandoff r).board := by
  unfold State.marksHandoff
  split
  · rw [State.onBoard_board, Board.changeMarks]
    split
    · exact .commit _ _ _ _
    · exact .refl _
  · exact .refl _

theorem State.setStale_grown (n : StationId) (stale : Bool) (s : State) : s.board.Grown (s.setStale n stale).board := by
  refine State.eachRecord_induction (P := fun t => s.board.Grown t.board) (fun r t _ h => h.trans ?_) n (.refl s.board)
  split_ifs
  · exact .refl _
  · exact State.marksHandoff_grown _ (t.writeRecord _)

theorem State.releaseMark_grown (x : Op) (s : State) : s.board.Grown (s.releaseMark x).board := by
  unfold State.releaseMark State.unmarkAsset State.syncUnderOp
  split_ifs
  · split
    · dsimp only
      split_ifs
      · exact .refl _
      · exact State.marksHandoff_grown _ ((s.onFaults _).writeRecord _)
    · exact .refl _
  · exact .refl _

theorem State.notifyOpDone_grown (o : OpId) (x : Op) (how : OpEnd) (outcome : OpOutcome) (s : State) :
    s.board.Grown (s.notifyOpDone o x how outcome).board := by
  unfold State.notifyOpDone
  split
  · exact .notify _ _ _
  · exact .refl _

/-! ## The end of a lost operation (R168, R169) -/

section

variable {o : OpId} {x : Op} {s : State} (h : s.field.ops.find o = some x) (how : OpEnd)
include h

theorem State.loseOp_field : (s.loseOp o how).field = ((s.abortFrame o x how).field.setStation x.station
    { (s.abortFrame o x how).field.station x.station with op := none }).freeOp o := by
  rw [State.loseOp_of_some h]
  obtain ⟨-, -, hfield, -⟩ := (((s.abortFrame o x how).releaseMark x).clearStationOp x).notifyOpDone_frame o x how .none
  obtain ⟨-, hreleased⟩ := (s.abortFrame o x how).releaseMark_frame x
  rw [State.onField_field, hfield, State.clearStationOp, State.updStation_field, hreleased]

theorem State.loseOp_error : (s.loseOp o how).error = s.error := by
  rw [State.loseOp_of_some h]
  have noticed : ∀ (u : State), (u.notifyOpDone o x how .none).error = u.error := fun u => by
    unfold State.notifyOpDone
    split <;> rfl
  have released : ∀ (u : State), (u.releaseMark x).error = u.error := fun u => by
    unfold State.releaseMark
    split_ifs
    · exact (RecordsAndBoard.syncUnderOp x.asset (u.onFaults (Faults.unmark x.asset))).error
    · rfl
  have aborted : (s.abortFrame o x how).error = s.error := by
    unfold State.abortFrame
    split_ifs <;> rfl
  exact (noticed _).trans ((released _).trans aborted)

theorem State.loseOp_grown : s.board.Grown (s.loseOp o how).board := by
  rw [State.loseOp_of_some h]
  obtain ⟨-, -, hboard, -⟩ := s.abortFrame_frame o x how
  have released := (s.abortFrame o x how).releaseMark_grown x
  rw [hboard] at released
  exact released.trans (State.notifyOpDone_grown o x how .none ((s.abortFrame o x how).releaseMark x |>.clearStationOp x))

/-- R133, R168: the abort frame reaches the trunk of the operation's station alone, and that one only while it is RUNNING. -/
theorem State.loseOp_trunk {t : TrunkId} (ht : stationTrunk x.station ≠ t ∨ (s.trunk t).state ≠ .running) :
    (s.loseOp o how).trunk t = s.trunk t := by
  refine (congrArg (fun f : Field => f.trunks[t]) (State.loseOp_field h how)).trans ?_
  show (s.abortFrame o x how).trunk t = s.trunk t
  unfold State.abortFrame
  split_ifs
  · rfl
  · rw [State.sendAbortOp, State.hand, State.trunk_updTrunk]
    split_ifs with hst
    · rw [hst]
      exact Trunk.hand_of_refused (.inl (ht.resolve_left (not_not.2 hst)))
    · rfl

theorem State.loseOp_chains : (s.loseOp o how).field.chains = s.field.chains := by
  rw [State.loseOp_field h]
  unfold State.abortFrame
  split_ifs <;> rfl

end

/-! ## Stations UNREACHED (R118) -/

/-- R118: a station's live fields as its trunk leaves RUNNING. -/
def Station.lost (x : Station) : Station :=
  { x with mode := .unreached, nextExpiry := none, wakeExtra := false, sleepCount := 0, span := none }

/-- R34, R118: a station UNREACHED with its records, before its operation ends. -/
def State.unreached (n : StationId) (s : State) : State := (s.updStation n Station.lost).setStale n true

theorem State.enterUnreached_eq (n : StationId) (s : State) :
    s.enterUnreached n = (s.unreached n).loseStationOp n .lostTrunk := rfl

theorem State.unreached_field (n : StationId) (s : State) :
    (s.unreached n).field = s.field.setStation n (s.station n).lost :=
  (RecordsAndBoard.setStale n true (s.updStation n Station.lost)).field

theorem State.unreached_station (n m : StationId) (s : State) :
    (s.unreached n).station m = if n = m then (s.station n).lost else s.station m :=
  (congrArg (fun f : Field => f.station m) (s.unreached_field n)).trans (Field.station_setStation ..)

theorem State.unreached_station_op (n : StationId) (s : State) : ((s.unreached n).station n).op = (s.station n).op := by
  rw [State.unreached_station, if_pos rfl]
  rfl

theorem State.enterUnreached_of_none {n : StationId} {s : State} (h : (s.station n).op = none) :
    s.enterUnreached n = s.unreached n := State.loseStationOp_of_none ((s.unreached_station_op n).trans h) _

theorem State.enterUnreached_of_some {n : StationId} {o : OpId} {s : State} (h : (s.station n).op = some o) :
    s.enterUnreached n = (s.unreached n).loseOp o .lostTrunk :=
  State.loseStationOp_of_some ((s.unreached_station_op n).trans h) _

/-- R118, R157: where the operation fields agree the station is UNREACHED with no operation, and no other station changes. -/
theorem State.enterUnreached_station {s : State} (h : s.field.OpsAgree) (n m : StationId) :
    (s.enterUnreached n).station m = if n = m then { (s.station n).lost with op := none } else s.station m := by
  have agree : ∀ o, ((s.unreached n).station n).op = some o →
      ∃ x, (s.unreached n).field.ops.find o = some x ∧ x.station = n := fun o ho => by
    rw [State.unreached_station_op] at ho
    rw [State.unreached_field]
    exact h n o ho
  rw [State.enterUnreached_eq, State.loseStationOp_station_of_agree _ agree, State.unreached_station]
  split_ifs <;> rfl

/-- What stations of trunk `t` becoming UNREACHED, while it is not RUNNING, leave of the part. -/
structure Unreaching (t : TrunkId) (s u : State) : Prop where
  setup    : u.setup = s.setup
  error    : u.error = s.error
  chains   : u.field.chains = s.field.chains
  trunk    : (s.trunk t).state ≠ .running → u.trunk t = s.trunk t
  trunks   : s.field.OpsAgree → ∀ t', t' ≠ t → u.trunk t' = s.trunk t'
  agree    : s.field.OpsAgree → u.field.OpsAgree
  faults   : s.faults.Sound → u.faults.Sound
  stale    : s.faults.Sound → ∀ n, s.faults.StaleAt n true → u.faults.StaleAt n true
  remarked : s.board.Remarked u.board
  arranged : s.board.Arranged → u.board.Arranged
  grown    : s.board.Grown u.board

namespace Unreaching

variable {t : TrunkId}

protected theorem refl (t : TrunkId) (s : State) : Unreaching t s s :=
  ⟨rfl, rfl, rfl, fun _ => rfl, fun _ _ _ => rfl, id, id, fun _ _ => id, .refl _, id, .refl _⟩

protected theorem trans {s u v : State} (h : Unreaching t s u) (k : Unreaching t u v) : Unreaching t s v where
  setup := k.setup.trans h.setup
  error := k.error.trans h.error
  chains := k.chains.trans h.chains
  trunk hs := (k.trunk (by rwa [h.trunk hs])).trans (h.trunk hs)
  trunks hs t' ht := (k.trunks (h.agree hs) t' ht).trans (h.trunks hs t' ht)
  agree := k.agree ∘ h.agree
  faults := k.faults ∘ h.faults
  stale hs n hn := k.stale (h.faults hs) n (h.stale hs n hn)
  remarked := h.remarked.trans k.remarked
  arranged := k.arranged ∘ h.arranged
  grown := h.grown.trans k.grown

end Unreaching

/-- R34: flags that are set stay set while another station's are set. -/
theorem State.setStale_keeps_stale {n m : StationId} {s : State} (hs : s.faults.Sound) (h : s.faults.StaleAt m true) :
    (s.setStale n true).faults.StaleAt m true := fun r hr hm => by
  rw [State.setStale_records n true hs] at hr
  obtain ⟨x, hx, rfl⟩ := List.mem_map.1 hr
  split_ifs at hm ⊢
  · rfl
  · exact h x hx hm

theorem Unreaching.unreached (t : TrunkId) (n : StationId) (s : State) : Unreaching t s (s.unreached n) := by
  have kept := RecordsAndBoard.setStale n true (s.updStation n Station.lost)
  have hfield := s.unreached_field n
  have keeps : KeepsField s (s.unreached n) :=
    (KeepsField.setStale n true _).after (KeepsField.updStationFields (g := Station.lost))
  have tables : KeepsTables s (s.unreached n) :=
    (KeepsTables.setStale n true _).after (KeepsTables.updStation n Station.lost s)
  exact ⟨kept.setup, kept.error, (congrArg Field.chains hfield :),
    fun _ => (congrArg (fun f : Field => f.trunks[t]) hfield :),
    fun _ t' _ => (congrArg (fun f : Field => f.trunks[t']) hfield :), keeps.ops, tables.faults,
    fun hs m => State.setStale_keeps_stale (s := s.updStation n Station.lost) hs,
    State.setStale_remarked n true (s.updStation n Station.lost),
    fun hb => State.Arranged.setStale (s := s.updStation n Station.lost) hb n true,
    State.setStale_grown n true (s.updStation n Station.lost)⟩

theorem Unreaching.enterUnreached {t : TrunkId} {n : StationId} (hn : stationTrunk n = t) (s : State) :
    Unreaching t s (s.enterUnreached n) := by
  have before := Unreaching.unreached t n s
  have keeps := KeepsField.enterUnreached s n
  have tables := KeepsTables.enterUnreached s n
  have arranged : s.board.Arranged → (s.enterUnreached n).board.Arranged := fun hb =>
    State.Arranged.loseStationOp (s := s.unreached n) (before.arranged hb) n .lostTrunk
  have stale : ∀ m, s.faults.Sound → s.faults.StaleAt m true → (s.enterUnreached n).faults.StaleAt m true :=
    fun m hs hm => State.loseStationOp_staleAt (n := n) .lostTrunk (before.stale hs m hm)
  cases hop : (s.station n).op with
  | none =>
    rw [State.enterUnreached_of_none hop]
    exact before
  | some o =>
    cases hx : (s.unreached n).field.ops.find o with
    | none =>
      rw [State.enterUnreached_of_some hop, State.loseOp_of_none hx]
      exact before
    | some x =>
      rw [State.enterUnreached_of_some hop] at keeps tables arranged stale ⊢
      refine ⟨(State.loseOp_setup ..).trans before.setup, (State.loseOp_error hx _).trans before.error,
        (State.loseOp_chains hx _).trans before.chains, fun hs => ?_, fun hs t' ht => ?_, keeps.ops, tables.faults,
        fun hs m => stale m hs, before.remarked.trans (State.loseOp_remarked _ _ _), arranged,
        before.grown.trans (State.loseOp_grown hx _)⟩
      · exact (State.loseOp_trunk hx _ (.inr (by rwa [before.trunk hs]))).trans (before.trunk hs)
      · obtain ⟨y, hy, hyn⟩ := (before.agree hs) n o ((s.unreached_station_op n).trans hop)
        obtain rfl := Option.some.inj (hx.symm.trans hy)
        exact (State.loseOp_trunk hx _ (.inl (by rw [hyn, hn]; exact ht.symm))).trans (before.trunks hs t' ht)

/-! ## Every non-VACANT station of a trunk (R118) -/

theorem mem_occupiedPositions {s : State} {t : TrunkId} {p : Position} :
    p ∈ occupiedPositions s t ↔ (s.roster (stationAt t p)).count ≠ 0 := by
  rw [occupiedPositions, List.mem_filter, Bool.not_eq_true', Bool.eq_false_iff, ne_eq, Roster.vacant_iff]
  exact and_iff_right (mem_fins p)

theorem occupiedPositions_eq (s : State) (t : TrunkId) :
    occupiedPositions s t = (fins 24).filter fun p => decide ((s.roster (stationAt t p)).count ≠ 0) :=
  List.filter_congr fun p _ => by rw [Roster.vacant, decide_not]

/-- R118: stations of a trunk UNREACHED, by their positions. -/
def State.unreachAt (t : TrunkId) (s : State) (l : List Position) : State :=
  l.foldl (fun v p => v.enterUnreached (stationAt t p)) s

theorem State.unreachTrunk_eq (t : TrunkId) (s : State) : s.unreachTrunk t = s.unreachAt t (occupiedPositions s t) := by
  rw [State.unreachTrunk, stationsOf, List.filter_map, List.foldl_map]
  rfl

section

variable {t : TrunkId} {s : State}

theorem Unreaching.unreachAt (t : TrunkId) (l : List Position) (s : State) : Unreaching t s (s.unreachAt t l) := by
  induction l generalizing s with
  | nil => exact .refl t s
  | cons p rest ih => exact (Unreaching.enterUnreached (stationTrunk_stationAt t p) s).trans (ih _)

theorem stationAt_injective {t : TrunkId} {p q : Position} (h : stationAt t p = stationAt t q) : p = q := by
  simpa using congrArg stationPosition h

theorem stationAt_trunk_position (n : StationId) : stationAt (stationTrunk n) (stationPosition n) = n :=
  Fin.ext (Nat.div_add_mod' n.val 24)

theorem State.unreachAt_station_other {l : List Position} (h : s.field.OpsAgree) {n : StationId}
    (hn : ∀ p ∈ l, stationAt t p ≠ n) : (s.unreachAt t l).station n = s.station n := by
  induction l generalizing s with
  | nil => rfl
  | cons p rest ih =>
    obtain ⟨hp, hrest⟩ := List.forall_mem_cons.1 hn
    refine (ih ((Unreaching.enterUnreached (stationTrunk_stationAt t p) s).agree h) hrest).trans ?_
    rw [State.enterUnreached_station h, if_neg hp]

/-- R118: each station of the list is UNREACHED with no operation. -/
theorem State.unreachAt_station {l : List Position} (h : s.field.OpsAgree) {p : Position} (hp : p ∈ l) :
    (s.unreachAt t l).station (stationAt t p) = { (s.station (stationAt t p)).lost with op := none } := by
  have again : ∀ (l : List Position) (s : State), s.field.OpsAgree →
      s.station (stationAt t p) = { (s.station (stationAt t p)).lost with op := none } →
      (s.unreachAt t l).station (stationAt t p) = s.station (stationAt t p) := by
    intro l
    induction l with
    | nil => exact fun _ _ _ => rfl
    | cons q rest ih =>
      intro s h hs
      have first : (s.enterUnreached (stationAt t q)).station (stationAt t p) = s.station (stationAt t p) := by
        rw [State.enterUnreached_station h]
        split_ifs with hq
        · rw [hq]
          exact hs.symm
        · rfl
      refine (ih _ ((Unreaching.enterUnreached (stationTrunk_stationAt t q) s).agree h) ?_).trans first
      rw [first]
      exact hs
  induction l generalizing s with
  | nil => cases hp
  | cons q rest ih =>
    have agree := (Unreaching.enterUnreached (stationTrunk_stationAt t q) s).agree h
    have first := State.enterUnreached_station h (stationAt t q) (stationAt t p)
    by_cases hq : q = p
    · subst hq
      rw [if_pos rfl] at first
      refine (again rest _ agree ?_).trans first
      rw [first]
      rfl
    · rw [if_neg (mt stationAt_injective hq)] at first
      refine (ih agree ((List.mem_cons.1 hp).resolve_left (Ne.symm hq))).trans ?_
      rw [first]

/-- R34, R118: the records of each station of the list are stale. -/
theorem State.unreachAt_staleAt {l : List Position} (hs : s.faults.Sound) {p : Position} (hp : p ∈ l) :
    (s.unreachAt t l).faults.StaleAt (stationAt t p) true := by
  induction l generalizing s with
  | nil => cases hp
  | cons q rest ih =>
    have sound := (Unreaching.enterUnreached (stationTrunk_stationAt t q) s).faults hs
    rcases List.mem_cons.1 hp with rfl | hp
    · refine (Unreaching.unreachAt t rest (s.enterUnreached (stationAt t p))).stale sound _ ?_
      exact State.loseStationOp_staleAt _
        (State.setStale_staleAt (stationAt t p) true (s := s.updStation (stationAt t p) Station.lost) hs)
    · exact ih sound hp

/-- R34, R118: the records of the non-VACANT stations of the trunk are stale. -/
theorem State.unreachAt_stale (hs : s.faults.Sound) {r : FaultRecord}
    (hr : r ∈ (s.unreachAt t (occupiedPositions s t)).faults.records) (ht : stationTrunk r.station = t)
    (hocc : (s.roster r.station).count ≠ 0) : r.stale = true := by
  subst ht
  rw [← stationAt_trunk_position r.station] at hocc
  exact State.unreachAt_staleAt hs (mem_occupiedPositions.2 hocc) r hr (stationAt_trunk_position r.station).symm

/-- Without fault records and without operations in flight nothing tells a desk. -/
theorem State.unreachAt_board_of_bare {l : List Position} (hr : s.faults.records = [])
    (ho : s.field.ops.entries = []) : (s.unreachAt t l).board = s.board := by
  have bare : ∀ (n : StationId) (s : State), s.faults.records = [] → s.field.ops.entries = [] →
      s.enterUnreached n = s.updStation n Station.lost := by
    intro n s hr ho
    have hstale : s.unreached n = s.updStation n Station.lost := by
      simp [State.unreached, State.setStale, State.eachRecord, Faults.assetsOf, hr]
    have hfree : ∀ o, s.field.ops.find o = none := fun o => by
      rw [Table.find, ho]
      rfl
    cases hop : (s.station n).op with
    | none => rw [State.enterUnreached_of_none hop, hstale]
    | some o =>
      have hnone : (s.updStation n Station.lost).field.ops.find o = none := hfree o
      rw [State.enterUnreached_of_some hop, hstale, State.loseOp_of_none hnone]
  induction l generalizing s with
  | nil => rfl
  | cons p rest ih =>
    show ((s.enterUnreached (stationAt t p)).unreachAt t rest).board = _
    rw [bare _ s hr ho]
    exact ih (s := s.updStation (stationAt t p) Station.lost) hr ho

end

/-! ## The incident of the trunk (R45, R52, R53, R54) -/

section

variable {c : Setup} {subject : Subject} {a b : Board}

/-- R52 to R54: the incident of a subject that is no longer at fault is restored. -/
theorem Board.restoreOf_incident (hm : a.Remarked b) (hb : b.Arranged) {i : IncidentId} {x : Incident}
    (hx : a.incident i = some x) (hsub : x.subject = subject) (hfault : x.atFault = true) :
    ∃ y, (b.restoreOf c subject).incident i = some y ∧ y.restoredAt = some c.time ∧
      y.state = if c.active.params.closeDelay = 0 then .closed else .restored := by
  obtain ⟨g, hg⟩ := hm.incident_some hx
  have hlive := hb.liveOf_iff.2 ⟨hg, hsub, Incident.live_iff.2 (Incident.ne_closed_of_atFault hfault)⟩
  obtain ⟨hat, hstate⟩ := restoreNow_restored c { x with members := x.members.map g }
  refine ⟨_, ?_, hat, hstate⟩
  rw [Board.restoreOf_of_live hlive]
  exact (congrArg (Board.incident · i) (if_pos hfault)).trans ((Board.commit_incident ..).trans (if_pos rfl))

/-- R45, R52, R53: a subject at fault without a live incident has one opened. -/
theorem Board.faultOf_opens (hm : a.Remarked b) (ha : a.Arranged) (hb : b.Arranged) {worst : Condition}
    (h : ∀ i y, a.incident i = some y → y.subject = subject → y.live = false) :
    ∃ i y, a.freshRecord = some i ∧ (b.faultOf c subject worst).incident i = some y ∧
      InfraOpened c subject worst y := by
  obtain ⟨i, hi⟩ := ha.exists_freshRecord
  have hnone : b.liveOf subject = none := Option.eq_none_iff_forall_ne_some.2 fun ⟨j, y⟩ hj => by
    obtain ⟨hy, hsub, hlive⟩ := hb.liveOf_iff.1 hj
    obtain ⟨x, g, hx, rfl⟩ := hm.of_some hy
    exact Bool.false_ne_true ((h j x hx hsub).symm.trans hlive)
  refine ⟨i, _, hi, ?_, infraOpened_newIncident ..⟩
  rw [Board.faultOf_of_fresh hnone (hm.freshRecord ha.rising hb.rising hi)]
  exact Board.openAt_incident ..

/-- R52, R53, R56: a subject at fault with a live incident: it is at fault, and reopened if it was RESTORED. -/
theorem Board.faultOf_reopens (hm : a.Remarked b) (hb : b.Arranged) {worst : Condition} {i : IncidentId} {y : Incident}
    (hy : a.incident i = some y) (hsub : y.subject = subject) (hlive : y.live = true) :
    ∃ z, (b.faultOf c subject worst).incident i = some z ∧ z.atFault = true ∧ z.subject = subject ∧
      z.openedAt = y.openedAt ∧ z.assigned = y.assigned ∧ z.group = y.group ∧ z.state = y.reopenedState ∧
      (y.state = .restored → z.restoredAt = none ∧ z.closeDelay = none) := by
  obtain ⟨g, hg⟩ := hm.incident_some hy
  obtain ⟨urgency, hu⟩ := Board.faultOf_incident (c := c) (worst := worst) hb hg hsub hlive
  rw [reopen_eq] at hu
  exact ⟨_, hu, Incident.atFault_of_reopened (x := y) rfl hlive, hsub, rfl, rfl, rfl, rfl,
    fun hs => ⟨if_pos hs, if_pos hs⟩⟩

end

/-! ## Trunk and chain records changed -/

section

variable {t u : TrunkId} {s : State}

theorem State.updTrunk_updTrunk (t : TrunkId) (g h : Trunk → Trunk) (s : State) :
    (s.updTrunk t g).updTrunk t h = s.updTrunk t fun x => h (g x) := by
  simp [State.updTrunk, State.onField, Field.setTrunk]

theorem State.updTrunk_congr {g h : Trunk → Trunk} (hgh : g (s.trunk t) = h (s.trunk t)) :
    s.updTrunk t g = s.updTrunk t h := congrArg (fun x => s.onField (Field.setTrunk t x)) hgh

theorem State.trunk_updTrunk_ne (h : u ≠ t) (g : Trunk → Trunk) : (s.updTrunk t g).trunk u = s.trunk u :=
  (State.trunk_updTrunk ..).trans (if_neg h.symm)

theorem State.chain_updChain_ne (h : u ≠ t) (g : Chain → Chain) : (s.updChain t g).chain u = s.chain u :=
  (Vector.getElem_set_fin s.field.chains t u (g s.field.chains[t])).trans (if_neg h.symm)

end

/-! ## Leaving RUNNING (R135, R156) -/

/-- R135: a trunk that leaves RUNNING, with the flush of step 2 in the change of its record. -/
theorem State.leaveRunning_updTrunk (t : TrunkId) (g : Trunk → Trunk) (s : State) :
    (s.updTrunk t g).leaveRunning t =
      ((s.updTrunk t fun x => (g x).flush).unreachAt t (occupiedPositions s t)).updChain t fun _ => {} := by
  rw [State.leaveRunning, State.updTrunk_updTrunk, State.unreachTrunk_eq]
  rfl

end Sys2Proof.Machine
end

section
/-! PROOFS. TRUNK_START and TRUNK_STOP (R127, R130), and what stopping a trunk makes of the part (R118, R135, R156). -/

namespace Sys2Proof.Machine

/-! ## TRUNK_START (R127) -/

section

variable {d : DeskId} {trunk : Byte} {t : TrunkId} {s : State}

theorem startTrunkCommand_of_le (h : 16 ≤ trunk.toNat) : startTrunkCommand [trunk] d s = (s, .invalid) :=
  withTrunk_of_le h ..

theorem startTrunkCommand_of_eq (h : trunk.toNat = t.val) : startTrunkCommand [trunk] d s =
    match (s.trunk t).state with
    | .running => (s, .refused .running)
    | .starting => (s, .done .none)
    | .off => (s.updTrunk t (Trunk.enterStarting s.setup.time .fromOff), .done .none)
    | .faulted => (s.updTrunk t (Trunk.enterStarting s.setup.time .commandFromFaulted), .done .none) :=
  withTrunk_of_eq h s _

/-! ## TRUNK_STOP (R130) -/

theorem stopTrunkCommand_of_le (h : 16 ≤ trunk.toNat) : stopTrunkCommand [trunk] d s = (s, .invalid) :=
  withTrunk_of_le h ..

theorem stopTrunkCommand_of_eq (h : trunk.toNat = t.val) : stopTrunkCommand [trunk] d s =
    if (s.trunk t).state = .off then (s, .done .none) else (s.stopTrunk t, .done .none) := withTrunk_of_eq h s _

end

/-- Settles O34: the owner's lines by the state of the trunk. -/
theorem trunkStartEveryLine : Obligations.TrunkStartEveryLine := by
  refine fun d trunk s hw => ⟨fun hout => ?_, fun t ht => ⟨fun h => ?_, fun h => ?_, fun h => ?_, fun h => ?_⟩⟩
  · exact answers_of_waits startTrunkCommand rfl hw (startTrunkCommand_of_le hout)
  · exact answers_of_waits startTrunkCommand rfl hw (by rw [startTrunkCommand_of_eq ht, h]; rfl)
  · exact answers_of_waits startTrunkCommand rfl hw (by rw [startTrunkCommand_of_eq ht, h]; rfl)
  · exact does_of_answer startTrunkCommand rfl hw (by rw [startTrunkCommand_of_eq ht, h]; rfl)
  · have row := does_of_answer (i := .trunkStart d) startTrunkCommand rfl hw (by rw [startTrunkCommand_of_eq ht, h])
    rwa [State.updTrunk_congr (h := fun x => { x with
      state := .starting, buffer := [], assembly := none, startDeadline := some (s.setup.time + 2)
      retryDeadline := none, attempts := saturate 65535 (s.trunk t).attempts, startCause := .commandFromFaulted }) rfl]
      at row

/-! ## A trunk stopped (R130, R135) -/

/-- R130: the record of a trunk that is stopped. -/
def Trunk.stopped (x : Trunk) : Trunk :=
  { x with state := .off, startDeadline := none, retryDeadline := none, graceDeadline := none, attempts := 0 }

/-- R118, R130, R135: a RUNNING trunk stopped, with its stations UNREACHED, before its chain and its incident. -/
def State.stopUnreached (t : TrunkId) (s : State) : State :=
  (s.updTrunk t fun x => x.stopped.flush).unreachAt t (occupiedPositions s t)

section

variable {t : TrunkId} {s : State}

theorem State.stopTrunk_of_not_running (h : (s.trunk t).state ≠ .running) :
    s.stopTrunk t = (s.updTrunk t Trunk.stopped).onBoard fun c b => Board.restoreOf c (.trunk t) b := by
  simp only [State.stopTrunk, h, if_false]
  rfl

theorem State.stopTrunk_of_running (h : (s.trunk t).state = .running) : s.stopTrunk t =
    ((s.stopUnreached t).updChain t fun _ => {}).onBoard fun c b => Board.restoreOf c (.trunk t) b := by
  rw [State.stopUnreached, ← State.leaveRunning_updTrunk]
  simp only [State.stopTrunk, h, if_true]
  rfl

theorem Unreaching.stopUnreached (t : TrunkId) (s : State) :
    Unreaching t (s.updTrunk t fun x => x.stopped.flush) (s.stopUnreached t) := .unreachAt ..

theorem State.stopUnreached_trunk (t : TrunkId) (s : State) :
    (s.stopUnreached t).trunk t = (s.trunk t).stopped.flush := by
  have hself := s.trunk_updTrunk_self t fun x => x.stopped.flush
  refine ((Unreaching.stopUnreached t s).trunk ?_).trans hself
  rw [hself]
  exact TrunkState.noConfusion

end

section

variable {t : TrunkId} {s : State}

theorem State.stopTrunk_frame (t : TrunkId) (s : State) :
    (s.stopTrunk t).setup = s.setup ∧ (s.stopTrunk t).error = s.error := by
  by_cases hr : (s.trunk t).state = .running
  · rw [State.stopTrunk_of_running hr]
    exact ⟨(Unreaching.stopUnreached t s).setup, (Unreaching.stopUnreached t s).error⟩
  · rw [State.stopTrunk_of_not_running hr]
    exact ⟨rfl, rfl⟩

/-- R130: no other trunk changes, and no other chain. -/
theorem State.stopTrunk_other {u : TrunkId} (h : u ≠ t) : (s.stopTrunk t).chain u = s.chain u ∧
    (s.field.OpsAgree → (s.stopTrunk t).trunk u = s.trunk u) := by
  by_cases hr : (s.trunk t).state = .running
  · have left := Unreaching.stopUnreached t s
    rw [State.stopTrunk_of_running hr]
    refine ⟨?_, fun ha => ?_⟩
    · show ((s.stopUnreached t).updChain t fun _ => {}).chain u = s.chain u
      rw [State.chain_updChain_ne h]
      exact congrArg (fun v : Vector Chain 16 => v[u]) left.chains
    · exact (left.trunks ha u h).trans (State.trunk_updTrunk_ne h _)
  · rw [State.stopTrunk_of_not_running hr]
    exact ⟨rfl, fun _ => State.trunk_updTrunk_ne h _⟩

/-- R53, R130: the trunk's incident, where it stands at fault, is restored. -/
theorem State.stopTrunk_incident (hb : s.board.Arranged) {i : IncidentId} {y : Incident}
    (hy : s.board.incident i = some y) (hsub : y.subject = .trunk t) (hfault : y.atFault = true) :
    ∃ z, (s.stopTrunk t).board.incident i = some z ∧ z.restoredAt = some s.setup.time ∧
      z.state = if s.setup.active.params.closeDelay = 0 then .closed else .restored := by
  by_cases hr : (s.trunk t).state = .running
  · have left := Unreaching.stopUnreached t s
    have restored := Board.restoreOf_incident (c := (s.stopUnreached t).setup) left.remarked (left.arranged hb) hy hsub hfault
    have hsetup : (s.stopUnreached t).setup = s.setup := left.setup
    rw [hsetup] at restored
    have hboard : (s.stopTrunk t).board = Board.restoreOf s.setup (.trunk t) (s.stopUnreached t).board := by
      rw [State.stopTrunk_of_running hr, State.onBoard_board, State.updChain_setup, hsetup]
      rfl
    rwa [hboard]
  · rw [State.stopTrunk_of_not_running hr]
    exact Board.restoreOf_incident (.refl s.board) hb hy hsub hfault

end

/-- Settles O35: the owner's lines; a stop of a trunk that was not RUNNING touches its record and its incident alone; one of a
RUNNING trunk is the flush, the stations by rising position, the chain and the incident. -/
theorem trunkStopLeavesRunning : Obligations.TrunkStopLeavesRunning := by
  refine ⟨fun d trunk s hw => ⟨fun hout => ?_, fun t ht => ⟨fun h => ?_, fun h => ?_⟩⟩, fun t s _ => ?_⟩
  · exact answers_of_waits stopTrunkCommand rfl hw (stopTrunkCommand_of_le hout)
  · exact answers_of_waits stopTrunkCommand rfl hw ((stopTrunkCommand_of_eq ht).trans (if_pos h))
  · exact does_of_answer stopTrunkCommand rfl hw ((stopTrunkCommand_of_eq ht).trans (if_neg h))
  · obtain ⟨hsetup, herror⟩ := s.stopTrunk_frame t
    refine ⟨hsetup, herror, fun hr => ?_, fun hr => ?_, fun u hu => State.stopTrunk_other hu,
      fun hb i y => State.stopTrunk_incident hb, fun hr hs r => ?_, State.stopTrunk_of_not_running, fun hr => ?_,
      fun n => ?_⟩
    · rw [State.stopTrunk_of_not_running hr]
      exact ⟨s.trunk_updTrunk_self t Trunk.stopped, rfl, rfl, rfl⟩
    · rw [State.stopTrunk_of_running hr]
      exact ⟨s.stopUnreached_trunk t, (s.stopUnreached t).chain_updChain_self t fun _ => {},
        fun ha p hp => State.unreachAt_station (s := s.updTrunk t _) ha (mem_occupiedPositions.2 hp)⟩
    · rw [State.stopTrunk_of_running hr]
      exact State.unreachAt_stale (s := s.updTrunk t _) hs
    · rw [State.stopTrunk_of_running hr, State.stopUnreached, occupiedPositions_eq]
      rfl
    · cases ho : (s.station n).op with
      | none => exact State.enterUnreached_of_none ho
      | some o => exact State.enterUnreached_of_some ho

end Sys2Proof.Machine
end

section
/-! SUPPORT. The TRUNK-ERROR notices (R139) and a trunk grace of 0 (R138). -/

namespace Sys2Proof.Machine

/-! ## One notice for some of the desks (R182) -/

theorem Board.foldl_updLink_links (g : Link → Link) {l : List DeskId} (hl : l.Nodup) (b : Board) (d : DeskId) :
    (l.foldl (fun b d => b.updLink d g) b).links[d] = if d ∈ l then g b.links[d] else b.links[d] := by
  induction l generalizing b with
  | nil => simp
  | cons e rest ih =>
    obtain ⟨he, hrest⟩ := List.nodup_cons.1 hl
    rw [List.foldl_cons, ih hrest, Board.getElem_updLink]
    by_cases hed : e = d
    · subst hed
      simp [he]
    · simp [hed, Ne.symm hed]

theorem Board.foldl_updLink_eq (g : Link → Link) (l : List DeskId) (b : Board) :
    l.foldl (fun b d => b.updLink d g) b = { b with links := (l.foldl (fun b d => b.updLink d g) b).links } := by
  induction l generalizing b with
  | nil => rfl
  | cons d rest ih =>
    rw [List.foldl_cons, ih]
    rfl

theorem State.foldl_updLink (g : Link → Link) (l : List DeskId) (s : State) :
    l.foldl (fun v d => v.updLink d g) s = s.onBoard fun _ b => l.foldl (fun b d => b.updLink d g) b := by
  induction l generalizing s with
  | nil => rfl
  | cons d rest ih =>
    rw [List.foldl_cons, ih]
    rfl

/-- R139: the desks whose maintenance flag is set. -/
def maintenanceDesks (c : Setup) : List DeskId := allDesks.filter fun d => (c.active.desks[d]).maintenance

theorem mem_maintenanceDesks {c : Setup} {d : DeskId} :
    d ∈ maintenanceDesks c ↔ (c.active.desks[d]).maintenance = true := by
  simp only [maintenanceDesks, List.mem_filter, mem_allDesks, true_and]

/-- R139: a notice to every maintenance desk. -/
def Board.tellMaintenance (c : Setup) (n : Notice) (b : Board) : Board :=
  (maintenanceDesks c).foldl (fun b d => b.updLink d fun l => l.take n) b

section

variable (c : Setup) (n : Notice) (b : Board)

theorem Board.tellMaintenance_eq : b.tellMaintenance c n = { b with links := (b.tellMaintenance c n).links } :=
  Board.foldl_updLink_eq ..

theorem Board.tellMaintenance_links (d : DeskId) : (b.tellMaintenance c n).links[d] =
    if (c.active.desks[d]).maintenance = true then (b.links[d]).take n else b.links[d] := by
  have hl : (maintenanceDesks c).Nodup := List.Nodup.filter _ (by decide)
  simp only [← mem_maintenanceDesks (c := c)]
  exact Board.foldl_updLink_links _ hl b d

theorem Board.tellMaintenance_incident (i : IncidentId) : (b.tellMaintenance c n).incident i = b.incident i := by
  rw [Board.tellMaintenance_eq]
  rfl

end

/-- R139: the notices are made from the settings and the time that the event finds. -/
theorem State.trunkErrorNotices_eq_foldl (t : TrunkId) (e : TrunkError) (s : State) : s.trunkErrorNotices t e =
    (maintenanceDesks s.setup).foldl (fun v d => v.updLink d fun l => l.take (.trunkError t e s.setup.time)) s := by
  have each : ∀ (l : List DeskId) (c : Setup) (v : State), v.setup = c →
      l.foldl (fun v d => v.onBoard fun c b => b.notify d (.trunkError t e c.time)) v =
        l.foldl (fun v d => v.updLink d fun l => l.take (.trunkError t e c.time)) v := by
    intro l c
    induction l with
    | nil => exact fun _ _ => rfl
    | cons d rest ih =>
      rintro v rfl
      exact ih (v.updLink d _) rfl
  exact each _ s.setup s rfl

theorem State.trunkErrorNotices_eq (t : TrunkId) (e : TrunkError) (s : State) : s.trunkErrorNotices t e =
    s.onBoard fun c b => b.tellMaintenance c (.trunkError t e c.time) :=
  (s.trunkErrorNotices_eq_foldl t e).trans (State.foldl_updLink ..)

/-! ## A grace of 0 (R138) -/

theorem occupied_eq_zero_iff {s : State} {t : TrunkId} : occupied s.setup.active t = 0 ↔ occupiedPositions s t = [] :=
  List.length_eq_zero_iff

section

variable {t : TrunkId} {s : State}

theorem State.graceIfZero_of_ne (h : s.setup.active.params.trunkGrace ≠ 0) : s.graceIfZero t = s := if_neg h

theorem State.graceExpires_of_empty (h : occupied s.setup.active t = 0) :
    s.graceExpires t = s.updTrunk t fun x => { x with graceDeadline := none } := if_pos h

theorem State.graceExpires_of_occupied (h : occupied s.setup.active t ≠ 0) : s.graceExpires t =
    (s.updTrunk t fun x => { x with graceDeadline := none }).onBoard fun c b => b.faultOf c (.trunk t) .trunkDown :=
  if_neg h

theorem State.graceIfZero_of_empty (h : s.setup.active.params.trunkGrace = 0) (ho : occupied s.setup.active t = 0) :
    s.graceIfZero t = s.updTrunk t fun x => { x with graceDeadline := none } :=
  (if_pos h).trans (State.graceExpires_of_empty ho)

theorem State.graceIfZero_of_occupied (h : s.setup.active.params.trunkGrace = 0) (ho : occupied s.setup.active t ≠ 0) :
    s.graceIfZero t =
      (s.updTrunk t fun x => { x with graceDeadline := none }).onBoard fun c b => b.faultOf c (.trunk t) .trunkDown :=
  (if_pos h).trans (State.graceExpires_of_occupied ho)

variable (t s)

/-- R138: a grace that is 0 reaches the trunk's grace deadline and the incident table alone. -/
theorem State.graceIfZero_frame : (s.graceIfZero t).setup = s.setup ∧ (s.graceIfZero t).faults = s.faults ∧
    (s.graceIfZero t).error = s.error ∧ (s.graceIfZero t).field.stations = s.field.stations ∧
    (s.graceIfZero t).field.ops = s.field.ops ∧ (s.graceIfZero t).field.chains = s.field.chains := by
  unfold State.graceIfZero State.graceExpires
  dsimp only
  split_ifs <;> exact ⟨rfl, rfl, rfl, rfl, rfl, rfl⟩

theorem State.graceIfZero_trunk : (s.graceIfZero t).trunk t = { s.trunk t with
    graceDeadline := if s.setup.active.params.trunkGrace = 0 then none else (s.trunk t).graceDeadline } := by
  have cleared : ((s.updTrunk t fun x => { x with graceDeadline := none }).trunk t) =
      { s.trunk t with graceDeadline := none } := State.trunk_updTrunk_self ..
  by_cases h : s.setup.active.params.trunkGrace = 0
  · rw [if_pos h]
    by_cases ho : occupied s.setup.active t = 0
    · rw [State.graceIfZero_of_empty h ho, cleared]
    · rw [State.graceIfZero_of_occupied h ho]
      exact cleared
  · rw [if_neg h, State.graceIfZero_of_ne h]

theorem State.graceIfZero_trunk_ne {u : TrunkId} (h : u ≠ t) : (s.graceIfZero t).trunk u = s.trunk u := by
  by_cases hg : s.setup.active.params.trunkGrace = 0
  · by_cases ho : occupied s.setup.active t = 0
    · rw [State.graceIfZero_of_empty hg ho, State.trunk_updTrunk_ne h]
    · rw [State.graceIfZero_of_occupied hg ho]
      exact State.trunk_updTrunk_ne (s := s) h fun x => { x with graceDeadline := none }
  · rw [State.graceIfZero_of_ne hg]

theorem State.graceIfZero_board : (s.graceIfZero t).board =
    if s.setup.active.params.trunkGrace = 0 ∧ occupied s.setup.active t ≠ 0 then
      Board.faultOf s.setup (.trunk t) .trunkDown s.board
    else s.board := by
  by_cases h : s.setup.active.params.trunkGrace = 0
  · by_cases ho : occupied s.setup.active t = 0
    · rw [State.graceIfZero_of_empty h ho, if_neg fun hc => hc.2 ho]
      rfl
    · rw [State.graceIfZero_of_occupied h ho, if_pos ⟨h, ho⟩]
      rfl
  · rw [State.graceIfZero_of_ne h, if_neg fun hc => h hc.1]

end

end Sys2Proof.Machine
end

section
/-! PROOFS. The faults of a RUNNING trunk (R134), and what a fault makes of the part (R118, R135, R138, R139). -/

namespace Sys2Proof.Machine

/-! ## The rows (R134) -/

theorem does_eventIf {i : Instr} {s : State} {f : State → State} {p : Prop} [Decidable p]
    (hi : exec i s = .next (if p then s.event f else s)) (hp : p) : Does i s (f s) :=
  does_event (hi.trans (congrArg _ (if_pos hp)))

section

variable {t : TrunkId} {s : State} (h : (s.trunk t).state = .running)
include h

theorem frameEnd_does : Does (.frameEnd t) s (s.upstreamEnd t) := does_eventIf (f := State.upstreamEnd t) rfl h

theorem grant_does : Does (.grant t) s (s.upstreamGrant t) := does_eventIf (f := State.upstreamGrant t) rfl h

theorem State.upstreamEnd_of_no_credit (hc : (s.trunk t).upCredit = 0) :
    s.upstreamEnd t = s.faultTrunk t .creditOverrun := by
  simp only [State.upstreamEnd, h, hc, ne_eq, not_true_eq_false, if_false, if_true]

theorem State.upstreamEnd_of_credit (hc : (s.trunk t).upCredit ≠ 0) : s.upstreamEnd t = s.closeFrame t := by
  simp only [State.upstreamEnd, h, hc, ne_eq, not_true_eq_false, if_false]

theorem State.upstreamGrant_of_excess (hc : 5 ≤ (s.trunk t).downCredit) :
    s.upstreamGrant t = s.faultTrunk t .creditExcess := by
  simp only [State.upstreamGrant, h, hc, ne_eq, not_true_eq_false, if_false, if_true]

theorem State.upstreamGrant_of_room (hc : (s.trunk t).downCredit ≤ 4) : s.upstreamGrant t =
    s.updTrunk t fun x => ({ x with downCredit := x.downCredit + 2, watch := true } : Trunk).pump := by
  simp only [State.upstreamGrant, h, Nat.not_le.2 (Nat.lt_succ_of_le hc), ne_eq, not_true_eq_false, if_false]

end

/-! ## The fault as a whole (R135) -/

/-- R135 steps 1 to 4: the record of a RUNNING trunk that faults. -/
def Trunk.fell (c : Setup) (x : Trunk) : Trunk :=
  { x with
    state := .faulted, faultTime := some c.time, graceDeadline := some (c.time + c.active.params.trunkGrace)
    retryDeadline := some (c.time + c.active.params.trunkRetry)
    assembly := none, queue := [], transmitting := none, upCredit := 0, downCredit := 0, watch := false }

/-- R118, R135: a trunk faulted, with its stations UNREACHED, before its chain and the error. -/
def State.faultUnreached (t : TrunkId) (s : State) : State :=
  (s.updTrunk t (Trunk.fell s.setup)).unreachAt t (occupiedPositions s t)

/-- R135, R139: a trunk faulted, with its chain and the error, before the notices. -/
def State.faultCounted (t : TrunkId) (e : TrunkError) (s : State) : State :=
  ((s.faultUnreached t).updChain t fun _ => {}).errorOn t e (.trunk t)

/-- R135, R139: a trunk faulted, with the notices, before a grace of 0. -/
def State.faultTold (t : TrunkId) (e : TrunkError) (s : State) : State :=
  (s.faultCounted t e).trunkErrorNotices t e

section

variable (t : TrunkId) (e : TrunkError) (s : State)

theorem State.faultTrunk_eq : s.faultTrunk t e = (s.faultTold t e).graceIfZero t := by
  show State.graceIfZero t (State.trunkErrorNotices t e (State.errorOn t e _ (State.leaveRunning t _))) = _
  rw [State.leaveRunning_updTrunk]
  rfl

theorem Unreaching.faultUnreached : Unreaching t (s.updTrunk t (Trunk.fell s.setup)) (s.faultUnreached t) := .unreachAt ..

theorem State.faultUnreached_trunk : (s.faultUnreached t).trunk t = (s.trunk t).fell s.setup := by
  have hself := s.trunk_updTrunk_self t (Trunk.fell s.setup)
  refine ((Unreaching.faultUnreached t s).trunk ?_).trans hself
  rw [hself]
  exact TrunkState.noConfusion

theorem State.faultTold_eq : s.faultTold t e = (s.faultCounted t e).onBoard fun c b =>
    b.tellMaintenance c (.trunkError t e c.time) := State.trunkErrorNotices_eq ..

theorem State.faultTold_setup : (s.faultTold t e).setup = s.setup := by
  rw [State.faultTold_eq]
  exact (Unreaching.faultUnreached t s).setup

theorem State.faultTold_field : (s.faultTold t e).field = (s.faultCounted t e).field := by
  rw [State.faultTold_eq]
  rfl

theorem State.faultTold_faults : (s.faultTold t e).faults = (s.faultUnreached t).faults := by
  rw [State.faultTold_eq]
  rfl

theorem State.faultTold_board : (s.faultTold t e).board =
    (s.faultUnreached t).board.tellMaintenance s.setup (.trunkError t e s.setup.time) := by
  have hsetup : (s.faultCounted t e).setup = s.setup := (Unreaching.faultUnreached t s).setup
  rw [State.faultTold_eq, State.onBoard_board, hsetup]
  rfl

theorem State.faultTold_error : (s.faultTold t e).error =
    ⟨.trunk e, .trunk t, some s.setup.time, (s.error.writes + 1) % 65536⟩ := by
  have hsetup : ((s.faultUnreached t).updChain t fun _ => {}).setup = s.setup := (Unreaching.faultUnreached t s).setup
  have herror : ((s.faultUnreached t).updChain t fun _ => {}).error = s.error := (Unreaching.faultUnreached t s).error
  rw [State.faultTold_eq, State.onBoard_error, State.faultCounted, State.errorOn_error, hsetup, herror]

theorem State.faultTold_trunk : (s.faultTold t e).trunk t = ((s.trunk t).fell s.setup).count e := by
  refine (congrArg (fun f : Field => f.trunks[t]) (s.faultTold_field t e)).trans ?_
  refine (State.trunk_updTrunk_self t (Trunk.count e) ((s.faultUnreached t).updChain t fun _ => {})).trans ?_
  exact congrArg (Trunk.count e) (s.faultUnreached_trunk t)

theorem State.faultTold_chain (u : TrunkId) : (s.faultTold t e).chain u =
    if u = t then {} else s.chain u := by
  refine (congrArg (fun f : Field => f.chains[u]) (s.faultTold_field t e)).trans ?_
  show ((s.faultUnreached t).updChain t fun _ => {}).chain u = _
  split_ifs with hu
  · subst hu
    exact State.chain_updChain_self ..
  · rw [State.chain_updChain_ne hu]
    exact congrArg (fun v : Vector Chain 16 => v[u]) (Unreaching.faultUnreached t s).chains

theorem State.faultTold_station (n : StationId) : (s.faultTold t e).station n = (s.faultUnreached t).station n :=
  (congrArg (fun f : Field => f.station n) (s.faultTold_field t e)).trans rfl

variable {t e s}

theorem State.faultTold_trunk_ne {u : TrunkId} (h : u ≠ t) (ha : s.field.OpsAgree) :
    (s.faultTold t e).trunk u = s.trunk u := by
  refine (congrArg (fun f : Field => f.trunks[u]) (s.faultTold_field t e)).trans ?_
  refine (State.trunk_updTrunk_ne (s := (s.faultUnreached t).updChain t fun _ => {}) h (Trunk.count e)).trans ?_
  exact ((Unreaching.faultUnreached t s).trunks ha u h).trans (State.trunk_updTrunk_ne h _)

theorem State.faultTold_remarked (t : TrunkId) (e : TrunkError) (s : State) :
    s.board.Remarked (s.faultTold t e).board := by
  rw [State.faultTold_board]
  exact (Unreaching.faultUnreached t s).remarked.trans (.of_incident fun i => Board.tellMaintenance_incident ..)

theorem State.faultTold_arranged (t : TrunkId) (e : TrunkError) (h : s.board.Arranged) :
    (s.faultTold t e).board.Arranged :=
  State.Arranged.trunkErrorNotices (s := s.faultCounted t e) ((Unreaching.faultUnreached t s).arranged h) t e

/-- R118: the stations of the trunk, and all others. -/
theorem State.faultUnreached_station (ha : s.field.OpsAgree) (n : StationId) :
    (∀ q : Position, n = stationAt t q → (s.roster n).count ≠ 0 →
      (s.faultUnreached t).station n = { (s.station n).lost with op := none }) ∧
    (stationTrunk n ≠ t ∨ (s.roster n).count = 0 → (s.faultUnreached t).station n = s.station n) := by
  refine ⟨?_, fun hn => ?_⟩
  · rintro q rfl hocc
    exact State.unreachAt_station (s := s.updTrunk t _) ha (mem_occupiedPositions.2 hocc)
  · refine State.unreachAt_station_other (s := s.updTrunk t _) ha fun p hp hpn => ?_
    subst hpn
    rcases hn with hn | hn
    · exact hn (stationTrunk_stationAt t p)
    · exact mem_occupiedPositions.1 hp hn

/-- R139, R182: what one desk's link is after the fault of a trunk with a grace. -/
theorem State.faultTold_link (t : TrunkId) (e : TrunkError) (s : State) (d : DeskId) : ∃ l : Link,
    l.up = (s.board.links[d]).up ∧ (∃ more, l.notices = (s.board.links[d]).notices ++ more) ∧
    (s.faults.records = [] → s.field.ops.entries = [] → l = s.board.links[d]) ∧
    ((s.setup.active.desks[d]).maintenance = false → (s.faultTold t e).board.links[d] = l) ∧
    ((s.setup.active.desks[d]).maintenance = true →
      (l.up = true → l.notices.length < 16 → (s.faultTold t e).board.links[d] =
        { l with notices := l.notices ++ [.trunkError t e s.setup.time] }) ∧
      (l.up = false ∨ 16 ≤ l.notices.length → (s.faultTold t e).board.links[d] =
        { l with overflow := saturate 255 l.overflow, attention := true })) := by
  have grown : (s.board.links[d]).Grown (s.faultUnreached t).board.links[d] := (Unreaching.faultUnreached t s).grown d
  rw [State.faultTold_board, Board.tellMaintenance_links]
  refine ⟨(s.faultUnreached t).board.links[d], grown.up, grown.notices, fun hr ho => ?_, fun hm => ?_, fun hm =>
    ⟨fun hu hroom => ?_, fun hno => ?_⟩⟩
  · exact congrArg (fun b : Board => b.links[d])
      (State.unreachAt_board_of_bare (s := s.updTrunk t (Trunk.fell s.setup)) hr ho)
  · rw [hm, if_neg Bool.false_ne_true]
  · rw [if_pos hm, Link.take_of_room hu hroom]
  · rw [if_pos hm, Link.take_of_no_room hno]
    rfl

end

section

variable {t : TrunkId} {e : TrunkError} {s : State}

/-- R138: the fault of a trunk with a grace of 0 and a non-VACANT station reaches its incident in the same event. -/
theorem State.faultTrunk_board (hg : s.setup.active.params.trunkGrace = 0) (ho : occupiedPositions s t ≠ []) :
    (s.faultTrunk t e).board = Board.faultOf s.setup (.trunk t) .trunkDown (s.faultTold t e).board := by
  have hsetup := s.faultTold_setup t e
  rw [State.faultTrunk_eq, State.graceIfZero_board, hsetup, if_pos ⟨hg, mt occupied_eq_zero_iff.1 ho⟩]

theorem State.faultTrunk_trunk : (s.faultTrunk t e).trunk t = { ((s.trunk t).fell s.setup).count e with
    graceDeadline := if s.setup.active.params.trunkGrace = 0 then none
      else some (s.setup.time + s.setup.active.params.trunkGrace) } := by
  rw [State.faultTrunk_eq, State.graceIfZero_trunk, State.faultTold_trunk, State.faultTold_setup]
  rfl

/-- The state before a grace of 0, with its parts written out. -/
theorem State.faultTold_eq_foldl (t : TrunkId) (e : TrunkError) (s : State) : s.faultTold t e =
    (maintenanceDesks s.setup).foldl (fun v d => v.updLink d fun l => l.take (.trunkError t e s.setup.time))
      (s.faultCounted t e) := by
  have hsetup : (s.faultCounted t e).setup = s.setup := (Unreaching.faultUnreached t s).setup
  rw [State.faultTold, State.trunkErrorNotices_eq_foldl, hsetup]

end

/-- Settles O53: the rows by their conditions; the fault as the flush, the stations by rising position, the chain, the error,
the notices and, at a grace of 0, the incident. -/
theorem trunkFaults : Obligations.TrunkFaults := by
  refine ⟨fun t s hr => ⟨?_, fun hw => ?_, fun hc => ?_, fun hc => ?_⟩, fun t e s hr => ?_⟩
  · exact does_eventIf (f := State.faultTrunk t .parity) rfl hr
  · exact does_eventIf (f := State.faultTrunk t .disconnect) rfl ⟨hr, hw⟩
  · exact State.upstreamEnd_of_no_credit hr hc ▸ frameEnd_does hr
  · exact State.upstreamGrant_of_excess hr hc ▸ grant_does hr
  · have whole := s.faultTrunk_eq t e
    obtain ⟨hsetup, hfaults, herror, hstations, -, hchains⟩ := (s.faultTold t e).graceIfZero_frame t
    rw [← whole] at hsetup hfaults herror hstations hchains
    have hchain : ∀ u, (s.faultTrunk t e).chain u = (s.faultTold t e).chain u := fun u =>
      congrArg (fun v : Vector Chain 16 => v[u]) hchains
    have hstation : ∀ n, (s.faultTrunk t e).station n = (s.faultUnreached t).station n := fun n =>
      (congrArg (fun v : Table 384 Station => Table.get ({} : Station) v n) hstations).trans (s.faultTold_station t e n)
    have htold := s.faultTold_eq_foldl t e
    have hgrace := s.faultTold_setup t e
    refine ⟨hsetup.trans (s.faultTold_setup t e), State.faultTrunk_trunk, fun u hu => ⟨?_, fun ha => ?_⟩, ?_,
      herror.trans (s.faultTold_error t e), fun ha => ⟨fun q hq => ?_, fun n hn => ?_⟩, fun hs r hmem => ?_, ?_⟩
    · rw [hchain, State.faultTold_chain, if_neg hu]
    · rw [whole, State.graceIfZero_trunk_ne _ _ hu, State.faultTold_trunk_ne hu ha]
    · rw [hchain, State.faultTold_chain, if_pos rfl]
    · exact (hstation _).trans ((State.faultUnreached_station ha _).1 q rfl hq)
    · exact (hstation _).trans ((State.faultUnreached_station ha n).2 hn)
    · rw [hfaults, State.faultTold_faults] at hmem
      exact State.unreachAt_stale (s := s.updTrunk t _) hs hmem
    · have hpositions := occupiedPositions_eq s t
      dsimp only
      rw [← hpositions]
      refine ⟨fun hg => ?_, fun hg ho => ?_, fun hg ho => ?_, fun hb hg ⟨q, hq⟩ => ⟨fun hno => ?_, fun i y hy hsub hlive => ?_⟩,
        fun d hg => ?_⟩
      · rw [whole, State.graceIfZero_of_ne (by rwa [hgrace])]
        exact htold
      · rw [whole, State.graceIfZero_of_empty (by rwa [hgrace]) (by rw [hgrace]; exact occupied_eq_zero_iff.2 ho)]
        exact congrArg _ htold
      · rw [whole, State.graceIfZero_of_occupied (by rwa [hgrace])
          (by rw [hgrace]; exact mt occupied_eq_zero_iff.1 ho)]
        exact congrArg (fun v : State => (v.updTrunk t _).onBoard _) htold
      · rw [State.faultTrunk_board hg (List.ne_nil_of_mem (mem_occupiedPositions.2 hq))]
        exact Board.faultOf_opens (s.faultTold_remarked t e) hb (State.faultTold_arranged t e hb) hno
      · rw [State.faultTrunk_board hg (List.ne_nil_of_mem (mem_occupiedPositions.2 hq))]
        exact Board.faultOf_reopens (s.faultTold_remarked t e) (State.faultTold_arranged t e hb) hy hsub hlive
      · rw [whole, State.graceIfZero_of_ne (by rwa [hgrace])]
        exact State.faultTold_link t e s d

end Sys2Proof.Machine
end

section
/-! SUPPORT. A chain's work (R147, R149, R153): the list of labellings, the no-answer outcome, and the chain that is free. -/

namespace Sys2Proof.Machine

section

variable {t : TrunkId} {s : State}

theorem State.updChain_updChain (t : TrunkId) (g h : Chain → Chain) (s : State) :
    (s.updChain t g).updChain t h = s.updChain t fun c => h (g c) := by
  simp [State.updChain, State.onField, Field.setChain]

theorem State.errorOn_trunk_self (t : TrunkId) (e : TrunkError) (place : Place) (s : State) :
    (s.errorOn t e place).trunk t = (s.trunk t).count e := State.trunk_updTrunk_self t (Trunk.count e) s

/-! ## The no-answer outcome (R149) -/

theorem State.enterPending_chains (n : StationId) (s : State) : (s.enterPending n).field.chains = s.field.chains := by
  have lost : ∀ u : State, (u.loseStationOp n .lostStation).field.chains = u.field.chains := fun u => by
    cases ho : (u.station n).op with
    | none => rw [State.loseStationOp_of_none ho]
    | some o =>
      rw [State.loseStationOp_of_some ho]
      cases hx : u.field.ops.find o with
      | none => rw [State.loseOp_of_none hx]
      | some x => exact State.loseOp_chains hx _
  have stale : ∀ u : State, (u.setStale n true).field.chains = u.field.chains := fun u =>
    congrArg Field.chains (RecordsAndBoard.setStale n true u).field
  dsimp only [State.enterPending]
  split_ifs
  · exact (lost _).trans (stale _)
  · exact lost _
  · exact stale _
  · rfl

theorem State.noAnswer_of_vacant {q : Position} (h : (s.roster (stationAt t q)).count = 0) : s.noAnswer t q = s :=
  if_pos (Roster.vacant_iff.2 h)

theorem State.noAnswer_of_occupied {q : Position} (h : (s.roster (stationAt t q)).count ≠ 0) :
    s.noAnswer t q = s.enterPending (stationAt t q) := if_neg (mt Roster.vacant_iff.1 h)

theorem State.noAnswer_chain (t : TrunkId) (q : Position) (s : State) : (s.noAnswer t q).chain t = s.chain t := by
  by_cases h : (s.roster (stationAt t q)).count = 0
  · rw [State.noAnswer_of_vacant h]
  · rw [State.noAnswer_of_occupied h]
    exact congrArg (fun v : Vector Chain 16 => v[t]) (State.enterPending_chains ..)

/-! ## The first position of the list (R147) -/

theorem startLabellingSteps_of_idle (h : (s.chain t).labelling ≠ none ∨ (s.chain t).list = []) (fuel : Nat) :
    startLabellingSteps t fuel s = s := by
  cases fuel with
  | zero => rfl
  | succ fuel =>
    unfold startLabellingSteps
    split
    · next hl hq => exact (h.elim (fun hn => hn hl) fun hn => List.cons_ne_nil _ _ (hq.symm.trans hn)).elim
    · rfl

theorem State.startLabelling_of_idle (h : (s.chain t).labelling ≠ none ∨ (s.chain t).list = []) :
    s.startLabelling t = s := startLabellingSteps_of_idle h _

section

variable {q : Position} {rest : List Position} (hl : (s.chain t).labelling = none) (hq : (s.chain t).list = q :: rest)
include hl hq

theorem State.startLabelling_eq : s.startLabelling t =
    if s.answerTo t = .accepted then
      ((s.updChain t fun c => { c with list := rest }).hand t ⟨0, .label q⟩).updChain t fun c =>
        { c with labelling := some ⟨q, s.setup.time + 2⟩ }
    else startLabellingSteps t rest.length ((s.updChain t fun c => { c with list := rest }).labelFails t q) := by
  rw [State.startLabelling, hq, List.length_cons, startLabellingSteps, hl, hq]
  rfl

theorem State.startLabelling_of_room (hr : (s.trunk t).state = .running) (hroom : (s.trunk t).queue.length < 8) :
    s.startLabelling t = (s.hand t ⟨0, .label q⟩).updChain t fun c =>
      { c with list := rest, labelling := some ⟨q, s.setup.time + 2⟩ } := by
  refine (State.startLabelling_eq hl hq).trans ((if_pos (Trunk.answerTo_eq_accepted.2 ⟨hr, hroom⟩)).trans ?_)
  exact State.updChain_updChain t (fun c => { c with list := rest }) _ (s.hand t ⟨0, .label q⟩)

/-- R147, R149: a LABEL that the trunk refuses fails at once, and the next position of the list follows. -/
theorem State.startLabelling_of_refused (h : (s.trunk t).state ≠ .running ∨ 8 ≤ (s.trunk t).queue.length) :
    s.startLabelling t =
      ((s.updChain t fun c => { c with list := rest }).labelFails t q).startLabelling t := by
  have hchain : ((s.updChain t fun c => { c with list := rest }).labelFails t q).chain t =
      { s.chain t with list := rest } :=
    (State.noAnswer_chain t q _).trans (s.chain_updChain_self t fun c => { c with list := rest })
  refine (State.startLabelling_eq hl hq).trans ((if_neg (Trunk.not_accepted h)).trans ?_)
  rw [State.startLabelling, hchain]

end

theorem State.afterCensus_eq (t : TrunkId) (s : State) : s.afterCensus t = (s.startLabelling t).chainFreed t := by
  unfold State.afterCensus
  split_ifs with h
  · rw [State.startLabelling_of_idle (.inr (List.isEmpty_iff.1 h))]
  · rfl

/-! ## The chain is free (R153) -/

theorem Chain.busy_eq_false_iff {c : Chain} : c.busy = false ↔ c.census = none ∧ c.labelling = none ∧ c.list = [] := by
  rw [← Bool.not_eq_true, Chain.busy_iff]
  simp only [not_or, not_not]

theorem State.chainFreed_of_kept (h : (s.chain t).busy = true ∨ (s.chain t).again = false ∨ (s.trunk t).state ≠ .running) :
    s.chainFreed t = s := by
  refine if_neg fun hc => ?_
  simp only [Bool.and_eq_true, Bool.not_eq_true', decide_eq_true_eq] at hc
  obtain ⟨⟨hagain, hfree⟩, hr⟩ := hc
  rcases h with h | h | h
  · exact Bool.false_ne_true (hfree.symm.trans h)
  · exact Bool.false_ne_true (h.symm.trans hagain)
  · exact h hr

section

variable (hfree : (s.chain t).busy = false) (hagain : (s.chain t).again = true) (hr : (s.trunk t).state = .running)
include hfree hagain hr

theorem State.chainFreed_of_ready : s.chainFreed t = s.startCensus t :=
  if_pos (by simp [hfree, hagain, hr])

theorem State.chainFreed_of_room (hq : (s.trunk t).queue.length < 8) : s.chainFreed t =
    (s.hand t ⟨255, .census⟩).updChain t fun c => { c with census := some (s.setup.time + 4), again := false } :=
  (State.chainFreed_of_ready hfree hagain hr).trans (State.startCensus_of_room hr hq)

theorem State.chainFreed_of_full (hq : 8 ≤ (s.trunk t).queue.length) : s.chainFreed t =
    (s.errorOn t .censusFailed (.trunk t)).updChain t fun c => { c with again := false } :=
  (State.chainFreed_of_ready hfree hagain hr).trans (State.startCensus_of_full hq)

end

end

end Sys2Proof.Machine
end

section
/-! PROOFS. The deadlines of a trunk and of its chain (R129, R138, R149, R155), and how a chain goes on (R147, R153). -/

namespace Sys2Proof.Machine

/-! ## A failed start (R129) -/

/-- R129: the record of a trunk whose start has failed, before a grace of 0. -/
def Trunk.startFailed (c : Setup) (x : Trunk) : Trunk :=
  { x with
    state := .faulted, startDeadline := none, retryDeadline := some (c.time + c.active.params.trunkRetry)
    faultTime := if x.startCause = .fromOff then some c.time else x.faultTime
    graceDeadline := if x.startCause = .fromOff then some (c.time + c.active.params.trunkGrace) else x.graceDeadline
    counters := x.counters.set TrunkError.startTimeout.index
      (saturate 65535 x.counters[TrunkError.startTimeout.index]) }

/-- R129, R139: a failed start with its error record and its notices, before a grace of 0. -/
def State.startFailTold (t : TrunkId) (s : State) : State :=
  ((s.updTrunk t (Trunk.startFailed s.setup)).recordError (.trunk .startTimeout) (.trunk t)).trunkErrorNotices t
    .startTimeout

section

variable {t : TrunkId} {s : State}

theorem State.startFails_of_retry (h : (s.trunk t).startCause = .retry) :
    s.startFails t = s.updTrunk t (Trunk.startFailed s.setup) := by
  simp only [State.startFails, h, reduceCtorEq, if_false, if_true]
  exact State.updTrunk_congr (by simp [Trunk.startFailed, Trunk.count, h])

theorem State.startFails_of_command (h : (s.trunk t).startCause = .commandFromFaulted) :
    s.startFails t = s.startFailTold t := by
  simp only [State.startFails, h, reduceCtorEq, if_false, State.startFailTold]
  rw [State.updTrunk_congr (h := Trunk.startFailed s.setup) (by simp [Trunk.startFailed, Trunk.count, h])]

theorem State.startFails_of_fromOff (h : (s.trunk t).startCause = .fromOff) :
    s.startFails t = (s.startFailTold t).graceIfZero t := by
  simp only [State.startFails, h, reduceCtorEq, if_false, if_true, State.startFailTold, State.updTrunk_updTrunk]
  rw [State.updTrunk_congr (h := Trunk.startFailed s.setup) (by simp [Trunk.startFailed, Trunk.count, h])]

variable (t s)

theorem State.startFailTold_eq : s.startFailTold t =
    ((s.updTrunk t (Trunk.startFailed s.setup)).recordError (.trunk .startTimeout) (.trunk t)).onBoard
      fun c b => b.tellMaintenance c (.trunkError t .startTimeout c.time) := State.trunkErrorNotices_eq ..

theorem State.startFailTold_frame : (s.startFailTold t).setup = s.setup ∧ (s.startFailTold t).faults = s.faults ∧
    (s.startFailTold t).field = (s.updTrunk t (Trunk.startFailed s.setup)).field ∧
    (s.startFailTold t).error = ⟨.trunk .startTimeout, .trunk t, some s.setup.time, (s.error.writes + 1) % 65536⟩ ∧
    (s.startFailTold t).board = s.board.tellMaintenance s.setup (.trunkError t .startTimeout s.setup.time) := by
  rw [State.startFailTold_eq]
  exact ⟨rfl, rfl, rfl, rfl, rfl⟩

/-- R129: what a failed start leaves of the part. -/
theorem State.startFails_frame : (s.startFails t).setup = s.setup ∧ (s.startFails t).faults = s.faults ∧
    (s.startFails t).field.stations = s.field.stations ∧ (s.startFails t).field.ops = s.field.ops ∧
    (s.startFails t).field.chains = s.field.chains := by
  obtain ⟨hsetup, hfaults, hfield, -, -⟩ := s.startFailTold_frame t
  have hstations := congrArg Field.stations hfield
  have hops := congrArg Field.ops hfield
  have hchains := congrArg Field.chains hfield
  cases h : (s.trunk t).startCause with
  | retry =>
    rw [State.startFails_of_retry h]
    exact ⟨rfl, rfl, rfl, rfl, rfl⟩
  | commandFromFaulted =>
    rw [State.startFails_of_command h]
    exact ⟨hsetup, hfaults, hstations, hops, hchains⟩
  | fromOff =>
    obtain ⟨gsetup, gfaults, -, gstations, gops, gchains⟩ := (s.startFailTold t).graceIfZero_frame t
    rw [State.startFails_of_fromOff h]
    exact ⟨gsetup.trans hsetup, gfaults.trans hfaults, gstations.trans hstations, gops.trans hops, gchains.trans hchains⟩

theorem State.startFailTold_trunk : (s.startFailTold t).trunk t = (s.trunk t).startFailed s.setup := by
  obtain ⟨-, -, hfield, -, -⟩ := s.startFailTold_frame t
  exact (congrArg (fun f : Field => f.trunks[t]) hfield).trans (s.trunk_updTrunk_self t _)

theorem State.startFails_trunk : (s.startFails t).trunk t = { (s.trunk t).startFailed s.setup with
    graceDeadline := if (s.trunk t).startCause = .fromOff then
        (if s.setup.active.params.trunkGrace = 0 then none else some (s.setup.time + s.setup.active.params.trunkGrace))
      else (s.trunk t).graceDeadline } := by
  cases h : (s.trunk t).startCause with
  | retry =>
    rw [State.startFails_of_retry h, State.trunk_updTrunk_self]
    simp [Trunk.startFailed, h]
  | commandFromFaulted =>
    rw [State.startFails_of_command h, State.startFailTold_trunk]
    simp [Trunk.startFailed, h]
  | fromOff =>
    obtain ⟨hsetup, -⟩ := s.startFailTold_frame t
    rw [State.startFails_of_fromOff h, State.graceIfZero_trunk, State.startFailTold_trunk, hsetup]
    simp [Trunk.startFailed, h]

theorem State.startFails_error : (s.startFails t).error = if (s.trunk t).startCause = .retry then s.error
    else ⟨.trunk .startTimeout, .trunk t, some s.setup.time, (s.error.writes + 1) % 65536⟩ := by
  obtain ⟨-, -, -, herror, -⟩ := s.startFailTold_frame t
  cases h : (s.trunk t).startCause with
  | retry =>
    rw [State.startFails_of_retry h]
    rfl
  | commandFromFaulted =>
    rw [State.startFails_of_command h]
    exact herror
  | fromOff =>
    obtain ⟨-, -, gerror, -⟩ := (s.startFailTold t).graceIfZero_frame t
    rw [State.startFails_of_fromOff h]
    exact gerror.trans herror

/-- R129, R138, R139: the notices of a failed start, and the trunk's incident at a grace of 0. -/
theorem State.startFails_board : (s.startFails t).board =
    let told := s.board.tellMaintenance s.setup (.trunkError t .startTimeout s.setup.time)
    if (s.trunk t).startCause = .retry then s.board
    else if (s.trunk t).startCause = .fromOff ∧ s.setup.active.params.trunkGrace = 0 ∧
        occupied s.setup.active t ≠ 0 then
      Board.faultOf s.setup (.trunk t) .trunkDown told
    else told := by
  obtain ⟨hsetup, -, -, -, hboard⟩ := s.startFailTold_frame t
  cases h : (s.trunk t).startCause with
  | retry =>
    rw [State.startFails_of_retry h]
    rfl
  | commandFromFaulted =>
    rw [State.startFails_of_command h]
    exact hboard
  | fromOff =>
    rw [State.startFails_of_fromOff h, State.graceIfZero_board, hsetup, hboard]
    simp only [reduceCtorEq, if_false, true_and]

end

/-! ## The rows (R129, R138, R149, R155) -/

section

variable {t : TrunkId} {s : State} {e : Nat} (he : e ≤ s.setup.time)
include he

theorem startDeadline_does (hs : (s.trunk t).state = .starting) (hd : (s.trunk t).startDeadline = some e) :
    Does (.startDeadline t) s (s.startFails t) :=
  does_eventIf (f := State.startFails t) rfl ⟨hs, due_iff.2 ⟨e, hd, he⟩⟩

theorem retryDeadline_does (hs : (s.trunk t).state = .faulted) (hd : (s.trunk t).retryDeadline = some e) :
    Does (.retryDeadline t) s (s.updTrunk t (Trunk.enterStarting s.setup.time .retry)) :=
  does_eventIf (f := State.updTrunk t (Trunk.enterStarting s.setup.time .retry)) rfl ⟨hs, due_iff.2 ⟨e, hd, he⟩⟩

theorem graceDeadline_does (hd : (s.trunk t).graceDeadline = some e) : Does (.graceDeadline t) s (s.graceExpires t) :=
  does_eventIf (f := State.graceExpires t) rfl (due_iff.2 ⟨e, hd, he⟩)

theorem labelDeadline_does {l : Labelling} (hl : (s.chain t).labelling = some l) (hd : l.deadline = e) :
    Does (.labelDeadline t) s ((s.labelFails t l.position).labellingEnds t) := by
  refine does_event (f := fun s => (s.labelFails t l.position).labellingEnds t) ?_
  show execLabelDeadline t s = _
  rw [execLabelDeadline, hl]
  exact congrArg _ (if_pos (hd.trans_le he))

theorem censusDeadline_does (hd : (s.chain t).census = some e) : Does (.censusDeadline t) s (s.failCensus t) :=
  does_eventIf (f := State.failCensus t) rfl (due_iff.2 ⟨e, hd, he⟩)

end

/-! ## A census that has failed (R153, R155) -/

/-- R155: a census failed, with its count and its record, before the chain goes on. -/
def State.censusFailed (t : TrunkId) (s : State) : State :=
  (s.updChain t fun c => { c with census := none }).errorOn t .censusFailed (.trunk t)

theorem State.censusFailed_chain (t : TrunkId) (s : State) :
    (s.censusFailed t).chain t = { s.chain t with census := none } :=
  s.chain_updChain_self t fun c => { c with census := none }

theorem State.censusFailed_trunk (t : TrunkId) (s : State) :
    (s.censusFailed t).trunk t = (s.trunk t).count .censusFailed := State.errorOn_trunk_self ..

/-- Settles O54: the rows by their deadlines; a failed start by its cause; a chain's work by the head of its list, its free
state and the room of the send queue. -/
theorem trunkDeadlines : Obligations.TrunkDeadlines := by
  refine ⟨fun t e s he => ⟨fun hs hd => ⟨startDeadline_does he hs hd, ?_⟩, fun hs hd => ?_, fun hd => ⟨fun ho => ?_, fun ho => ?_⟩,
    fun l hl hd => ⟨fun hv => ?_, fun hv => ?_⟩, fun hd => ?_, fun q rest hl hq => State.startLabelling_of_room hl hq⟩,
    fun t s => ⟨rfl, s.afterCensus_eq t, rfl, State.startLabelling_of_idle, fun q rest hl hq =>
      ⟨State.startLabelling_of_room hl hq, State.startLabelling_of_refused hl hq⟩,
      fun q => ⟨State.noAnswer_of_vacant, State.noAnswer_of_occupied⟩, fun hkept => ?_, fun hfree hagain hr => ?_⟩⟩
  · obtain ⟨hsetup, hfaults, hstations, hops, hchains⟩ := s.startFails_frame t
    have hboard := s.startFails_board t
    refine ⟨hsetup, hfaults, hstations, hops, hchains, ?_, s.startFails_error t, fun hretry => ?_, fun hretry hg => ?_, hboard⟩
    · simp only [decide_eq_true_eq]
      exact s.startFails_trunk t
    · exact hboard.trans (if_pos hretry)
    · have hnone : ¬((s.trunk t).startCause = .fromOff ∧ s.setup.active.params.trunkGrace = 0 ∧
          occupied s.setup.active t ≠ 0) := fun ⟨hoff, hzero, _⟩ => hg.elim (fun hn => hn hoff) fun hn => hn hzero
      rw [hboard, if_neg hretry, if_neg hnone]
      refine ⟨?_, fun d => Board.tellMaintenance_links ..⟩
      rw [Board.tellMaintenance_eq]
  · have row := retryDeadline_does he hs hd
    rwa [State.updTrunk_congr (h := fun x => { x with
      state := .starting, buffer := [], assembly := none, startDeadline := some (s.setup.time + 2), retryDeadline := none
      startCause := .retry, attempts := saturate 65535 x.attempts }) rfl] at row
  · exact State.graceExpires_of_empty ho ▸ graceDeadline_does he hd
  · exact State.graceExpires_of_occupied ho ▸ graceDeadline_does he hd
  · have row := labelDeadline_does he hl hd
    rwa [State.labelFails, State.noAnswer_of_vacant (by exact hv)] at row
  · have row := labelDeadline_does he hl hd
    rwa [State.labelFails, State.noAnswer_of_occupied (by exact hv)] at row
  · have row : Does (.censusDeadline t) s ((s.censusFailed t).chainFreed t) := censusDeadline_does he hd
    have hchain := s.censusFailed_chain t
    have htrunk := s.censusFailed_trunk t
    refine ⟨fun ha => ?_, fun _ hbusy => ?_, fun ha hl hq hr hroom => ?_, fun ha hl hq hr hfull => ?_⟩
    · rwa [State.chainFreed_of_kept (.inr (.inl (hchain ▸ ha)))] at row
    · rw [State.chainFreed_of_kept] at row
      · exact row
      · rw [hchain, htrunk, Chain.busy_iff]
        rcases hbusy with h | h | h
        · exact .inl (.inr (.inl h))
        · exact .inl (.inr (.inr h))
        · exact .inr (.inr h)
    · refine State.chainFreed_of_room (s := s.censusFailed t) ?_ ?_ ?_ ?_ ▸ row
      · exact hchain ▸ Chain.busy_eq_false_iff.2 ⟨rfl, hl, hq⟩
      · exact hchain ▸ ha
      · exact htrunk ▸ hr
      · exact htrunk ▸ hroom
    · refine State.chainFreed_of_full (s := s.censusFailed t) ?_ ?_ ?_ ?_ ▸ row
      · exact hchain ▸ Chain.busy_eq_false_iff.2 ⟨rfl, hl, hq⟩
      · exact hchain ▸ ha
      · exact htrunk ▸ hr
      · exact htrunk ▸ hfull
  · refine State.chainFreed_of_kept (hkept.imp_left fun hn => ?_)
    rwa [← Bool.not_eq_false, Chain.busy_eq_false_iff]
  · have hfree' := Chain.busy_eq_false_iff.2 hfree
    exact ⟨State.chainFreed_of_room hfree' hagain hr, State.chainFreed_of_full hfree' hagain hr⟩

end Sys2Proof.Machine
end

section
/-! SUPPORT. Symbols and frames of a trunk: the checks of a closed frame (R136), the bits of a symbol (R196), the GRANTs sent
(R126, R131). -/

namespace Sys2Proof.Machine

/-! ## The checks of a closed frame (R136) -/

section

variable {kind : Byte} {rest : List Byte}

theorem frameError_of_tooLong : frameError (some ⟨kind :: rest, true⟩) = some .longFrame := rfl

theorem frameError_of_unknown (h : upTypeOf kind = none) :
    frameError (some ⟨kind :: rest, false⟩) = some .unknownType := by
  simp only [frameError, h, Bool.false_eq_true, if_false]

theorem frameError_of_type {k : UpType} (h : upTypeOf kind = some k) : frameError (some ⟨kind :: rest, false⟩) =
    if (kind :: rest).length < k.minimum then some .shortFrame else none := by
  simp only [frameError, h, Bool.false_eq_true, if_false]

theorem upTypeOf_eq_none (h : kind = 0#8 ∨ 9 < kind.toNat) : upTypeOf kind = none := by
  have hout : kind.toNat = 0 ∨ 9 < kind.toNat := h.imp_left (congrArg BitVec.toNat)
  unfold upTypeOf
  split
  case h_10 => rfl
  all_goals omega

/-- R194: the type symbols and the length each requires. -/
theorem upTypeOf_minimum : ∀ pair ∈ [(1, 2), (2, 7), (3, 3), (4, 2), (5, 2), (6, 7), (7, 8), (8, 3), (9, 4)],
    kind.toNat = pair.1 → ∃ k, upTypeOf kind = some k ∧ k.minimum = pair.2 := by
  intro pair hmem hkind
  rw [← Option.map_eq_some_iff]
  simp only [upTypeOf, hkind]
  clear hkind
  revert pair
  decide

theorem framePlace_of_short {t : TrunkId} {symbols : List Byte} {tooLong : Bool} (h : symbols.length ≤ 1) :
    framePlace t (some ⟨symbols, tooLong⟩) = .trunk t := by
  match symbols with
  | [] => rfl
  | [_] => rfl
  | _ :: _ :: _ => simp at h

end

/-! ## The bits of a symbol (R196) -/

/-- The parity of a list is that of the number of its members that are set. -/
theorem foldl_bne_eq (f : Nat → Bool) (l : List Nat) (acc : Bool) :
    l.foldl (fun acc k => acc != f k) acc = (acc != decide ((l.filter f).length % 2 = 1)) := by
  induction l generalizing acc with
  | nil => simp
  | cons k rest ih =>
    rw [List.foldl_cons, ih]
    cases hk : f k with
    | false => simp [hk]
    | true =>
      rw [List.filter_cons_of_pos hk, List.length_cons]
      rcases Nat.mod_two_eq_zero_or_one (rest.filter f).length with hr | hr <;> simp [hr, Nat.add_mod]

theorem oddParity_iff {x : BitVec 10} :
    oddParity x = true ↔ ((List.range 10).filter fun i => x.getLsbD i).length % 2 = 1 := by
  rw [oddParity, foldl_bne_eq, Bool.false_bne, decide_eq_true_iff]

/-- R196: a check bit set where it was clear makes an even number of bits odd. -/
theorem oddParity_or_one {x : BitVec 10} (h : x.getLsbD 0 = false) (he : oddParity x = false) :
    oddParity (x ||| 1#10) = true := by
  have rest : ∀ i, (x ||| 1#10).getLsbD (i + 1) = x.getLsbD (i + 1) := fun i => by simp [BitVec.getLsbD_one]
  have clear := mt oddParity_iff.2 (Bool.not_eq_true _ ▸ he)
  have first : (x ||| 1#10).getLsbD 0 = true := by simp
  rw [oddParity_iff, List.range_succ_eq_map, List.filter_cons_of_pos (by exact first), List.filter_map, List.length_cons,
    List.length_map]
  rw [List.range_succ_eq_map, List.filter_cons_of_neg (by rw [h]; exact Bool.false_ne_true), List.filter_map,
    List.length_map] at clear
  simp only [Function.comp_def, Nat.succ_eq_add_one, rest] at clear ⊢
  omega

/-- R196: the control bit and the payload, before the check bit. -/
def symbolBody (control : Bool) (payload : Byte) : BitVec 10 :=
  (BitVec.ofBool control).setWidth 10 <<< 9 ||| payload.setWidth 10 <<< 1

section

variable (control : Bool) (payload : Byte)

theorem symbolBits_eq : symbolBits control payload =
    if oddParity (symbolBody control payload) then symbolBody control payload
    else symbolBody control payload ||| 1#10 := rfl

theorem symbolBody_zero : (symbolBody control payload).getLsbD 0 = false := by simp [symbolBody]

theorem symbolBody_nine : (symbolBody control payload).getLsbD 9 = control := by simp [symbolBody]

theorem symbolBody_payload {i : Nat} (h : i < 8) : (symbolBody control payload).getLsbD (i + 1) = payload.getLsbD i := by
  have h9 : i + 1 < 9 := Nat.succ_lt_succ h
  have h10 : i + 1 < 10 := h9.trans (by decide)
  simp [symbolBody, h9, h10]

theorem symbolBits_getLsbD_succ (i : Nat) :
    (symbolBits control payload).getLsbD (i + 1) = (symbolBody control payload).getLsbD (i + 1) := by
  rw [symbolBits_eq]
  split_ifs
  · rfl
  · simp [BitVec.getLsbD_one]

theorem oddParity_symbolBits : oddParity (symbolBits control payload) = true := by
  rw [symbolBits_eq]
  split_ifs with h
  · exact h
  · exact oddParity_or_one (symbolBody_zero control payload) (Bool.not_eq_true _ ▸ h)

end

/-! ## The GRANTs sent (R126, R131) -/

section

variable {x y : Trunk}

theorem grantsSent_of_added {k more : Nat} (hx : x.state = .running) (hy : y.state = .running)
    (h : y.claimed + 1 = x.claimed + 2 * k + more) (hmore : more ≤ 1) :
    grantsSent x y = List.replicate k grantSymbol := by
  have hk : (y.claimed + 1 - x.claimed) / 2 = k := by omega
  simp only [grantsSent, hx, hy, if_true, hk]

/-- R128: on entering RUNNING the credit counts from 0. -/
theorem grantsSent_of_entered {k : Nat} (hx : x.state ≠ .running) (hy : y.state = .running) (hup : y.upCredit = 2 * k)
    (hbuffer : y.buffer = x.buffer) : grantsSent x y = List.replicate k grantSymbol := by
  have hk : (y.claimed + 1 - x.buffer.length) / 2 = k := by
    rw [Trunk.claimed, hup, hbuffer]
    omega
  simp only [grantsSent, hx, hy, if_true, if_false, hk]

end

end Sys2Proof.Machine
end

section
/-! PROOFS. The symbols and frames of a trunk both ways, and entering RUNNING (R125, R126, R128, R131 to R133, R136). -/

namespace Sys2Proof.Machine

/-! ## Upstream symbols (R125, R131, R133) -/

section

variable {t : TrunkId} {s : State}

theorem State.onRunning_of_running (h : (s.trunk t).state = .running) (g : Trunk → Trunk) :
    s.onRunning t g = s.event (State.updTrunk t fun x => { g x with watch := true }) := if_pos h

theorem State.onRunning_of_not_running (h : (s.trunk t).state ≠ .running) (g : Trunk → Trunk) : s.onRunning t g = s :=
  if_neg h

theorem State.fillEvent_of_starting (h : (s.trunk t).state = .starting) : s.fillEvent t = s.event (State.trunkRuns t) := by
  simp only [State.fillEvent, h]

theorem State.fillEvent_of_running (h : (s.trunk t).state = .running) :
    s.fillEvent t = s.event (State.updTrunk t fun x => { x with watch := true }) := by
  simp only [State.fillEvent, h]
  exact State.onRunning_of_running h id

theorem State.fillEvent_of_ignored (h : (s.trunk t).state = .off ∨ (s.trunk t).state = .faulted) : s.fillEvent t = s := by
  rcases h with h | h <;> simp only [State.fillEvent, h]

theorem dataSymbol_does (h : (s.trunk t).state = .running) {b : Byte} {a : Assembly}
    (ha : appendSymbol b (s.trunk t).assembly = a) :
    Does (.dataSymbol t b) s (s.updTrunk t fun x => { x with assembly := some a, watch := true }) := by
  have row : Does (.dataSymbol t b) s
      (s.updTrunk t fun x => { x with assembly := some (appendSymbol b x.assembly), watch := true }) :=
    does_event (congrArg Host.Outcome.next (State.onRunning_of_running h _))
  rwa [State.updTrunk_congr (h := fun x => { x with assembly := some a, watch := true }) (by rw [ha])] at row

/-- R125: a trunk that is not RUNNING takes no symbol but FILL. -/
theorem symbols_stay (h : (s.trunk t).state ≠ .running) (b : Byte) :
    Stays (.dataSymbol t b) s ∧ Stays (.abortSymbol t) s ∧ Stays (.grant t) s ∧ Stays (.frameEnd t) s :=
  ⟨congrArg Host.Outcome.next (State.onRunning_of_not_running h _), congrArg Host.Outcome.next (State.onRunning_of_not_running h _),
    congrArg Host.Outcome.next (if_neg h), congrArg Host.Outcome.next (if_neg h)⟩

/-! ## A frame closed with credit (R131, R136) -/

/-- R131: the credit of a closed frame spent and the room granted again, over the buffer that the frame leaves. -/
def Trunk.closedOver (buffer : List (List Byte)) (x : Trunk) : Trunk :=
  { x with
    assembly := none, watch := true, buffer
    upCredit := x.upCredit - 1 + 2 * ((6 - buffer.length - (x.upCredit - 1)) / 2) }

theorem State.updTrunk_closedOver (h : (s.trunk t).state = .running) (buffer : List (List Byte)) :
    (s.updTrunk t fun x => ({ x with
      upCredit := x.upCredit - 1, assembly := none, watch := true, buffer := buffer } : Trunk).sendGrants) =
      s.updTrunk t (Trunk.closedOver buffer) := State.updTrunk_congr (Trunk.sendGrants_of_running (by exact h))

theorem State.closeFrame_of_kept {a : Assembly} (h : (s.trunk t).state = .running)
    (ha : (s.trunk t).assembly = some a) (hok : frameError (some a) = none) :
    s.closeFrame t = s.updTrunk t (Trunk.closedOver ((s.trunk t).buffer ++ [a.symbols])) := by
  rw [← State.updTrunk_closedOver h]
  simp only [State.closeFrame, ha, hok]
  exact State.updTrunk_congr rfl

theorem State.closeFrame_of_dropped {e : TrunkError} (h : (s.trunk t).state = .running)
    (he : frameError (s.trunk t).assembly = some e) : s.closeFrame t =
      (s.updTrunk t (Trunk.closedOver (s.trunk t).buffer)).errorOn t e (framePlace t (s.trunk t).assembly) := by
  rw [← State.updTrunk_closedOver h]
  simp only [State.closeFrame, he]
  exact congrArg (State.errorOn t e _) (State.updTrunk_congr rfl)

/-- R131: the GRANTs that the closing of a frame sends. -/
theorem State.grantsSent_upstreamEnd (h : (s.trunk t).state = .running) (hc : 0 < (s.trunk t).upCredit) :
    grantsSent (s.trunk t) ((s.upstreamEnd t).trunk t) = List.replicate ((6 - ((s.trunk t).buffer.length +
      (if frameError (s.trunk t).assembly = none then 1 else 0)) - ((s.trunk t).upCredit - 1)) / 2) grantSymbol := by
  rw [State.upstreamEnd_of_credit h hc.ne']
  cases he : frameError (s.trunk t).assembly with
  | some e =>
    rw [State.closeFrame_of_dropped h he, State.errorOn_trunk_self, State.trunk_updTrunk_self]
    refine grantsSent_of_added (more := 0) h h ?_ (Nat.zero_le 1)
    simp only [Trunk.claimed, Trunk.count, Trunk.closedOver, reduceCtorEq, if_false]
    omega
  | none =>
    obtain ⟨a, ha⟩ : ∃ a, (s.trunk t).assembly = some a := Option.ne_none_iff_exists'.1 fun hnone => by
      rw [hnone] at he
      cases he
    rw [State.closeFrame_of_kept h ha (ha ▸ he), State.trunk_updTrunk_self]
    refine grantsSent_of_added (more := 1) h h ?_ le_rfl
    simp only [Trunk.claimed, Trunk.closedOver, if_true, List.length_append, List.length_singleton]
    omega

/-! ## A frame taken from the buffer (R132) -/

theorem Trunk.pop_eq (x : Trunk) : x.pop = { x with
    buffer := x.buffer.tail
    upCredit := if x.state = .running then x.upCredit + 2 * ((6 - x.buffer.tail.length - x.upCredit) / 2)
      else x.upCredit } := by
  by_cases h : x.state = .running
  · rw [if_pos h]
    exact Trunk.sendGrants_of_running (x := { x with buffer := x.buffer.tail }) h
  · rw [if_neg h]
    exact Trunk.sendGrants_of_not_running (x := { x with buffer := x.buffer.tail }) h

theorem Trunk.grantsSent_pop {x : Trunk} (h : x.state = .running) (hb : x.buffer ≠ []) :
    grantsSent x x.pop = List.replicate ((6 - x.buffer.tail.length - x.upCredit) / 2) grantSymbol := by
  have hlen := List.length_pos_iff.2 hb
  rw [Trunk.pop_eq, if_pos h]
  refine grantsSent_of_added (more := 0) h h ?_ (Nat.zero_le 1)
  simp only [Trunk.claimed, List.length_tail]
  omega

/-! ## Entering RUNNING (R128) -/

theorem Trunk.enterRunning_eq (x : Trunk) : x.enterRunning = { x with
    state := .running, startDeadline := none, retryDeadline := none, graceDeadline := none, attempts := 0
    downCredit := 0, upCredit := 2 * ((6 - x.buffer.length) / 2), watch := true } := by
  simp [Trunk.enterRunning, Trunk.sendGrants_of_running]

/-- R152: a census trigger leaves the state, the upstream credit and the buffer of its trunk. -/
theorem State.triggerCensus_trunk (t : TrunkId) (s : State) :
    ((s.triggerCensus t).trunk t).state = (s.trunk t).state ∧
    ((s.triggerCensus t).trunk t).upCredit = (s.trunk t).upCredit ∧
    ((s.triggerCensus t).trunk t).buffer = (s.trunk t).buffer := by
  have handed := s.trunk_updTrunk_self t (Trunk.hand censusFrame)
  have failed := s.errorOn_trunk_self t .censusFailed (.trunk t)
  dsimp only [State.triggerCensus, State.startCensus]
  split_ifs
  · exact ⟨rfl, rfl, rfl⟩
  · exact ⟨rfl, rfl, rfl⟩
  · show ((s.updTrunk t (Trunk.hand censusFrame)).trunk t).state = _ ∧
      ((s.updTrunk t (Trunk.hand censusFrame)).trunk t).upCredit = _ ∧
      ((s.updTrunk t (Trunk.hand censusFrame)).trunk t).buffer = _
    rw [handed]
    exact Trunk.hand_frame censusFrame (s.trunk t)
  · show ((s.errorOn t .censusFailed (.trunk t)).trunk t).state = _ ∧
      ((s.errorOn t .censusFailed (.trunk t)).trunk t).upCredit = _ ∧
      ((s.errorOn t .censusFailed (.trunk t)).trunk t).buffer = _
    rw [failed]
    exact ⟨rfl, rfl, rfl⟩

theorem State.grantsSent_trunkRuns (h : (s.trunk t).state = .starting) :
    grantsSent (s.trunk t) ((s.trunkRuns t).trunk t) =
      List.replicate ((6 - (s.trunk t).buffer.length) / 2) grantSymbol := by
  obtain ⟨hstate, hup, hbuffer⟩ := (s.updTrunk t Trunk.enterRunning).triggerCensus_trunk t
  rw [State.trunk_updTrunk_self, Trunk.enterRunning_eq] at hstate hup hbuffer
  exact grantsSent_of_entered (by rw [h]; exact TrunkState.noConfusion) hstate hup hbuffer

/-- R128, R152: a trunk with an empty queue and a free chain enters RUNNING with its census handed over. -/
theorem State.triggerCensus_enterRunning (hc : s.chain t = {}) (hq : (s.trunk t).queue = []) :
    (s.updTrunk t Trunk.enterRunning).triggerCensus t =
      ((s.updTrunk t fun x => { x.enterRunning with queue := [⟨255, .census⟩] }).updChain t fun c =>
        { c with census := some (s.setup.time + 4), again := false }) := by
  have hself := s.trunk_updTrunk_self t Trunk.enterRunning
  have hr : ((s.updTrunk t Trunk.enterRunning).trunk t).state = .running := by rw [hself, Trunk.enterRunning_eq]
  have hempty : ((s.updTrunk t Trunk.enterRunning).trunk t).queue = [] := by rw [hself, Trunk.enterRunning_eq]; exact hq
  have hfree : ¬((s.updTrunk t Trunk.enterRunning).chain t).busy = true := by
    show ¬(s.chain t).busy = true
    rw [hc]
    exact Bool.false_ne_true
  have handed : (s.updTrunk t Trunk.enterRunning).hand t ⟨255, .census⟩ =
      s.updTrunk t fun x => { x.enterRunning with queue := [⟨255, .census⟩] } := by
    rw [State.hand, State.updTrunk_updTrunk]
    refine State.updTrunk_congr ?_
    rw [Trunk.enterRunning_eq, Trunk.hand_of_room rfl (by simp [hq]), Trunk.pump_of_blocked (.inr (.inr (.inr rfl)))]
    simp [hq]
  rw [State.triggerCensus_of_free hr hfree, State.startCensus_of_room hr (by rw [hempty]; decide), handed]
  rfl

theorem State.trunkRuns_incident (hb : s.board.Arranged) {i : IncidentId} {y : Incident}
    (hy : s.board.incident i = some y) (hsub : y.subject = .trunk t) (hfault : y.atFault = true) :
    ∃ z, (s.trunkRuns t).board.incident i = some z ∧ z.restoredAt = some s.setup.time ∧
      z.state = if s.setup.active.params.closeDelay = 0 then .closed else .restored := by
  obtain ⟨hsetup, -, hboard, -⟩ := (s.updTrunk t Trunk.enterRunning).triggerCensus_frame t
  have runs : (s.trunkRuns t).board = Board.restoreOf s.setup (.trunk t) s.board := by
    rw [State.trunkRuns, State.onBoard_board, hsetup, hboard]
    rfl
  rw [runs]
  exact Board.restoreOf_incident (.refl s.board) hb hy hsub hfault

end

/-- Settles O52: the rows by the trunk's state, the credit and the frame's checks; what the part sends; and the bits of the
symbols. -/
theorem trunkSymbols : Obligations.TrunkSymbols := by
  refine ⟨fun t s => ⟨fun hs => ⟨?_, ?_⟩, fun hr => ⟨?_, ?_, ?_, fun b => ⟨fun ha => ?_, fun a ha => ⟨fun hl => ?_, fun hl => ?_⟩⟩,
      fun hc => ?_, fun ht => ?_, fun hc => ⟨fun e place he hp => ?_, fun a ha hok => ?_⟩⟩,
      fun hs => symbols_stay ?_, fun hs => ⟨?_, ?_⟩, fun f rest => Trunk.pump_of_ready, Trunk.pump_of_blocked,
      fun hs hc hq => ?_, fun _ hb i y => State.trunkRuns_incident hb, fun hs => ?_, fun hs => ?_, fun f hr ht => ?_,
      (s.trunk t).pop_eq, Trunk.grantsSent_pop, State.grantsSent_trunkRuns, State.grantsSent_upstreamEnd,
      fun f => ⟨fun hr hq => ⟨?_, Trunk.hand_of_room hr hq⟩, fun hr hq => ⟨?_, Trunk.hand_of_refused (.inr hq)⟩,
        fun hr => ⟨?_, Trunk.hand_of_refused (.inl hr)⟩⟩⟩,
    fun t symbols tooLong => ⟨rfl, rfl, fun h => ?_, framePlace_of_short, fun kind label rest h => ?_,
      fun kind rest h => ⟨fun hlong => ?_, fun hlong hkind => ?_, fun pair hmem hlong hkind => ?_⟩⟩,
    fun control payload => ⟨?_, fun i hi => ?_, oddParity_iff.1 (oddParity_symbolBits control payload)⟩,
    rfl, rfl, rfl, fun label n asset p o => ⟨rfl, rfl, rfl, rfl, rfl, rfl, rfl, rfl, rfl, rfl⟩⟩
  · exact does_event (congrArg Host.Outcome.next (State.fillEvent_of_starting hs))
  · exact does_event (congrArg Host.Outcome.next (State.fillEvent_of_starting hs))
  · exact does_event (congrArg Host.Outcome.next (State.fillEvent_of_running hr))
  · exact does_event (congrArg Host.Outcome.next (State.fillEvent_of_running hr))
  · exact does_event (congrArg Host.Outcome.next (State.onRunning_of_running hr _))
  · exact dataSymbol_does hr (by rw [ha]; rfl)
  · exact dataSymbol_does hr (by rw [ha]; exact if_pos hl)
  · exact dataSymbol_does hr (by rw [ha]; exact if_neg (Nat.not_lt.2 hl))
  · exact State.upstreamGrant_of_room hr hc ▸ grant_does hr
  · exact does_eventIf (f := State.updTrunk t Trunk.frameSent) rfl ⟨hr, Option.isSome_iff_ne_none.2 ht⟩
  · have row := frameEnd_does hr
    rwa [State.upstreamEnd_of_credit hr hc.ne', State.closeFrame_of_dropped hr he, hp] at row
  · have row := frameEnd_does hr
    rwa [State.upstreamEnd_of_credit hr hc.ne', State.closeFrame_of_kept hr ha hok] at row
  · rcases hs with h | h | h <;> rw [h] <;> exact TrunkState.noConfusion
  · exact congrArg Host.Outcome.next (State.fillEvent_of_ignored hs)
  · exact congrArg Host.Outcome.next (State.fillEvent_of_ignored hs)
  · have entered := State.triggerCensus_enterRunning hc hq
    dsimp only [State.trunkRuns]
    rw [entered]
    refine ⟨rfl, rfl, rfl, rfl, ?_, ?_⟩
    · refine (State.chain_updChain_self t (fun c => { c with census := some (s.setup.time + 4), again := false }) _).trans ?_
      show ({ s.chain t with census := some (s.setup.time + 4), again := false } : Chain) = _
      rw [hc]
    · refine (s.trunk_updTrunk_self t fun x => { x.enterRunning with queue := [⟨255, .census⟩] }).trans ?_
      rw [Trunk.enterRunning_eq]
  · rcases hs with h | h <;> simp only [Trunk.sends, h]
  · rcases hs with h | ⟨h, ht⟩
    · simp only [Trunk.sends, h]
    · simp only [Trunk.sends, h, ht, Option.map_none, Option.getD_none]
  · simp only [Trunk.sends, hr, ht, Option.map_some, Option.getD_some]
    rfl
  · exact Trunk.answerTo_eq_accepted.2 ⟨hr, hq⟩
  · simp [Trunk.answerTo, Trunk.queueFull, hr, hq]
  · exact if_pos hr
  · rw [h]
    rfl
  · rw [h]
    rfl
  · rw [h, hlong]
    exact frameError_of_tooLong
  · rw [h, hlong]
    exact frameError_of_unknown (upTypeOf_eq_none hkind)
  · obtain ⟨k, hk, hmin⟩ := upTypeOf_minimum pair hmem hkind
    rw [h, hlong, frameError_of_type hk, hmin]
    exact ⟨fun hl => if_pos hl, fun hl => if_neg (Nat.not_lt.2 hl)⟩
  · rw [symbolBits_getLsbD_succ, symbolBody_nine]
  · rw [symbolBits_getLsbD_succ, symbolBody_payload control payload hi]

end Sys2Proof.Machine
end
